-- ==== Sys2Proof/Word.lean ====
section
/-!
DEFINITION. The word types of the model and the shape of a register field.
-/
namespace Sys2Proof

/-- A byte of storage. -/
abbrev Byte := BitVec 8
/-- A 32-bit word: a register, a lane of a vector register, a focal word of the lane unit. -/
abbrev W32 := BitVec 32
/-- A 64-bit word: a scalar register of the lane unit, an instruction of the lane unit. -/
abbrev W64 := BitVec 64

/-- A register field of the spec's register tables: its number in the model's list of fields, its width in bits and
its reset value. -/
structure Field where
  id : Nat
  width : Nat
  reset : Nat
  deriving DecidableEq, Repr

/-- An event code of the fault collector with its class at reset (R505, Table: Fault-code index). -/
structure FaultCode where
  code : Nat
  cls : Nat
  deriving DecidableEq, Repr

/-- The register blocks of Table: Register blocks (00_scope.md), with the tower registers of GLB apart. -/
inductive Block where
  | glb | twr | til | slc | mch | bnd | prt | mer | mcc | pwr | thm | flt | sec | log
  deriving DecidableEq, Repr

/-- Table: Access codes (00_scope.md). -/
inductive Access where
  | ro | rw | w1c | wo | rws
  deriving DecidableEq, Repr

/-- Whether a register is one half of a pair whose two halves are both RO (R6). -/
inductive PairKind where
  | single | lo | hi
  deriving DecidableEq, Repr

/-- One field of a register word: the field, its low bit in the word, its width there, and the bit of the field's
value that stands in its low bit. -/
structure RegPart where
  fld : Field
  lo : Nat
  width : Nat
  src : Nat
  acc : Access
  deriving DecidableEq, Repr

/-- One register of a block: `count` copies `stride` bytes apart from offset `off`. -/
structure RegWord where
  block : Block
  off : Nat
  count : Nat
  stride : Nat
  pair : PairKind
  parts : List RegPart
  deriving DecidableEq, Repr

end Sys2Proof
end

