-- ==== Sys2Proof/Syntax.lean ====
section
/-!
DEFINITION. The commands of the block: one constructor for each row of spec/opcode_table.json, with the operands that the
rule of the row names. A row that the table gives for an event inside the device names the unit at which the event
occurs; what the event works on is in the state.
-/
namespace Sys2Proof

/-- Where a spine segment of a tile's vertical port ends (Table: Spine segment latency, 02). -/
inductive SpineEnd where
  | mountL4 | mountL2 | pierL0
  deriving DecidableEq, Repr

/-- A fault of class 0x02 that the array sequencer detects (Table: Fault codes of class 0x02, 03), with its array
(0 to 3; 4 for the finder path). -/
structure ArrayFault where
  kind : Fin 6
  array : Nat
  deriving DecidableEq, Repr

/-- The outcomes of channel training (R255). -/
inductive TrainOutcome where
  | pass | marginal | retrained | fail
  deriving DecidableEq, Repr

/-- What a lamp run posts (R264 and the LAMP registers). -/
structure LampResult where
  passes : Nat
  words : Nat
  time : Nat
  mism : Nat
  corr : Nat
  uncorr : Nat
  failPage : Nat
  failWord : Nat
  failDq : Nat
  deriving DecidableEq, Repr

/-- An arbiter: a slice port or a channel controller (R275). -/
inductive ReqTarget where
  | slice (s : Nat)
  | chan (c : Nat)
  deriving DecidableEq, Repr

/-- A store that a patrol scrubber visits (R295). -/
inductive PatrolStore where
  | focal (tile : Nat)
  | slice (s : Nat)
  | chan (c : Nat)
  deriving DecidableEq, Repr

/-- The R format of a lane instruction (R183). -/
structure RForm where
  d : BitVec 6
  a : BitVec 6
  b : BitVec 6
  c : BitVec 6
  dS : Bool
  aS : Bool
  bS : Bool
  cS : Bool
  fmt : BitVec 3
  rnd : BitVec 2
  cc : BitVec 4
  arr : BitVec 2
  z : Bool
  deriving DecidableEq, Repr

/-- The I format (R183). -/
structure IForm where
  d : BitVec 6
  a : BitVec 6
  dS : Bool
  aS : Bool
  imm : BitVec 32
  deriving DecidableEq, Repr

/-- The M format (R183). -/
structure MForm where
  d : BitVec 6
  sb : BitVec 5
  vi : BitVec 6
  vx : Bool
  space : BitVec 2
  size : BitVec 3
  t : Bool
  off : BitVec 32
  deriving DecidableEq, Repr

/-- The C format (R183). BRA and BRS read `off2 ++ off1` as one offset. -/
structure CForm where
  c : BitVec 6
  cS : Bool
  off1 : BitVec 16
  off2 : BitVec 16
  deriving DecidableEq, Repr

/-- A vote frame (Table: Vote frame, R379), field by field, with the CRC it carries. -/
structure VoteFrame where
  version : Nat
  type : Nat
  level : Nat
  flags : Nat
  job : Nat
  step : Nat
  attempt : Nat
  sender : Nat
  verdict : Nat
  covered : Nat
  missing : Nat
  firstMissing : Nat
  mark : Nat
  ckpt : Nat
  crc : Nat
  deriving DecidableEq, Repr

/-- A block frame as received or sent (R324): the header fields, the payload, the two checks carried and whether the
frame's FCS is right. -/
structure BlockFrame where
  version : Nat
  type : Nat
  stream : Nat
  seq : Nat
  step : Nat
  src : Nat
  dst : Nat
  length : Nat
  attempt : Nat
  flags : Nat
  aux : Nat
  poison : Nat
  hchk : Nat
  payload : List Byte
  crc : Nat
  fcsOk : Bool
  deriving DecidableEq, Repr

/-- An Ethernet frame at a port (R315 to R320, R423): addresses, tag, length, whether the FCS is right and whether it came
protected under MACsec, its EtherType and its UDP destination port. -/
structure EthFrame where
  vid : Nat
  pcp : Nat
  dmac : Nat
  smac : Nat
  dip : Option Nat
  len : Nat
  fcsOk : Bool
  secured : Bool
  etype : Nat
  dport : Option Nat
  deriving DecidableEq, Repr

/-- A request of the control channel (Table: MCC header, R421): its SESSION, its SEQUENCE and its whole payload. -/
structure MccReq where
  session : Nat
  seq : Nat
  payload : List Byte
  deriving DecidableEq, Repr

/-- What the mode registers of an LPDDR package give (R243, R244): type (0 LPDDR6, 1 LPDDR5X), vendor, density code of
MEM_CFG.PKG, ranks, row code and the highest declared rate code. -/
structure PkgId where
  type : Nat
  vendor : Nat
  density : Nat
  ranks : Nat
  row : Nat
  rate : Nat
  deriving DecidableEq, Repr

/-- What Twilight finds (R444): whether the self-tests pass (R445), whether the flash answers, the sequence numbers of
journal records whose CRC fails and the indices of blocks whose header does (R543), whether the IDENTITY record decrypts (R536), and the 24 packages (R243, R455). -/
structure TwilightFound where
  selfTestOk : Bool
  flashOk : Bool
  badRecs : List Nat
  badBlocks : List Nat
  identityOk : Bool
  packages : List PkgId
  deriving DecidableEq, Repr

/-- What core collimation finds (R449): for each vertical crossing of a tower the smallest depth that
fits its measured phase (R29, R31), the calibration offset of each sensor that it measured in 0.125 °C (R484), and the failed TSVs
that its test finds, each with the tile and the end of its spine segment (02). -/
structure CollimationFound where
  depths : List (Nat × Nat × Nat)
  offsets : List (Nat × Int)
  tsvs : List (Nat × Nat × Nat)
  deriving DecidableEq, Repr

/-- The commands, in the order of spec/opcode_table.json. -/
inductive Instr where
  /-- REGISTER_WRITE (R7). -/
  | registerWrite (addr : Nat) (value : W32) (origin : Nat)
  /-- PAIR_LO_READ (R6). -/
  | pairLoRead (addr : Nat)
  /-- CAPTURE_REARM (R511). -/
  | captureRearm (addr : Nat) (value : W32)
  /-- MIN_RECORDER_REARM (R476). -/
  | minRecorderRearm (addr : Nat) (value : W32)
  /-- SPINE_BURST_ARRIVE (R14). -/
  | spineBurstArrive (tile : Nat) (target : SpineEnd) (txn : Nat) (data : List Byte) (crc : BitVec 16)
  /-- RESENT_BURST_ARRIVE (R15). -/
  | resentBurstArrive (tile : Nat) (target : SpineEnd) (data : List Byte) (crc : BitVec 16)
  /-- SPINE_BURST_DELIVER (R16). -/
  | spineBurstDeliver (tile : Nat) (target : SpineEnd)
  /-- AGING_EVAL (R22). -/
  | agingEval (phys : Nat) (below : BitVec 4)
  /-- LAYER_PLL_SWITCH (R27). -/
  | layerPllSwitch (tower : Nat) (layer : Nat)
  /-- LAYER_PLL_LOST (R28). -/
  | layerPllLost (tower : Nat) (layer : Nat)
  /-- LAYER_REQ (R38). -/
  | layerReq (tower : Nat) (value : W32) (origin : Nat)
  /-- PARTITION_REQ (R38). -/
  | partitionReq (tower : Nat) (value : W32) (origin : Nat)
  /-- LAYER_RESET_DONE (R34). -/
  | layerResetDone (tower : Nat) (layer : Nat)
  /-- PARTITION_RESET_DONE (R34). -/
  | partitionResetDone (tower : Nat)
  /-- PAUSE_FRAME_BOUNDARY (R127). -/
  | pauseFrameBoundary
  /-- PAUSE_SLOT_BEGIN (R129). -/
  | pauseSlotBegin
  /-- PAUSE_SLOT_END (R127). -/
  | pauseSlotEnd
  /-- EPOCH_MARK (R133). -/
  | epochMark
  /-- BUNDLE_FETCH (R116). -/
  | bundleFetch (tile : Nat)
  /-- BUNDLE_REFETCH (R117). -/
  | bundleRefetch (tile : Nat)
  /-- ARRAY_SLOT (R49). -/
  | arraySlot (tile : Nat)
  /-- HELD_ARRAY_ISSUE (R119). -/
  | heldArrayIssue (tile : Nat)
  /-- GATHER (R113). -/
  | gather (tile : Nat)
  /-- SEG_END (R113). -/
  | segEnd (tile : Nat)
  /-- LOAD (R118). -/
  | load (tile : Nat)
  /-- STORE (R118). -/
  | store (tile : Nat)
  /-- COADD (R216). -/
  | coadd (tile : Nat)
  /-- MESH (R121). -/
  | mesh (tile : Nat)
  /-- TURN (R226). -/
  | turn (tile : Nat)
  /-- SEND (R118). -/
  | send (tile : Nat)
  /-- EXPECT (R125). -/
  | expect (tile : Nat)
  /-- COLL (R343). -/
  | coll (tile : Nat)
  /-- LAUNCH (R145). -/
  | launch (tile : Nat)
  /-- JOIN (R126). -/
  | join (tile : Nat)
  /-- MESH_LAND (R122). -/
  | meshLand (xfer : Nat)
  /-- MOVER_LAND (R118). -/
  | moverLand (xfer : Nat)
  /-- MOVER_ACCEPTED (R118). -/
  | moverAccepted (xfer : Nat)
  /-- SEND_COPY_END (R118). -/
  | sendCopyEnd (xfer : Nat)
  /-- HELD_SEND_COPY (R330). -/
  | heldSendCopy (xfer : Nat)
  /-- HELD_LANDING_RELEASE (R120). -/
  | heldLandingRelease (xfer : Nat)
  /-- SLACK_OVERRUN (R123). -/
  | slackOverrun (xfer : Nat)
  /-- STALL_TIMEOUT (R131). -/
  | stallTimeout
  /-- VOTE_ENTRY (R114). -/
  | voteEntry
  /-- ARRAY_PASS_COMPLETE (R53). -/
  | arrayPassComplete (tile : Nat)
  /-- ACCUM_DRAIN_COMPLETE (R56). -/
  | accumDrainComplete (tile : Nat)
  /-- ARRAY_OP_COMPLETE (R49). -/
  | arrayOpComplete (tile : Nat)
  /-- ARRAY_FAULT_DETECT (R73). -/
  | arrayFaultDetect (tile : Nat) (faults : List ArrayFault)
  /-- ARRAY_RERUN_START (R74). -/
  | arrayRerunStart (tile : Nat)
  /-- FAULT_WINDOW_END (R78). -/
  | faultWindowEnd (tile : Nat)
  /-- TASK_RESIDENT (R145). -/
  | taskResident (tile : Nat)
  /-- TASK_END (R147). -/
  | taskEnd (tile : Nat) (task : Nat)
  /-- GLOBAL_LOAD_RETURN (R148). -/
  | globalLoadReturn (tile : Nat) (slot : Nat)
  /-- GLOBAL_STORE_ACCEPTED (R158). -/
  | globalStoreAccepted (tile : Nat) (slot : Nat)
  /-- LOCK_STALL (R165). -/
  | lockStall (tile : Nat) (slot : Nat)
  /-- BARRIER_TIMEOUT (R169). -/
  | barrierTimeout (tile : Nat) (slot : Nat)
  /-- NAMED_BARRIER_COMPLETE (R171). -/
  | namedBarrierComplete (id : Nat)
  /-- ARRAY_OWNERSHIP_GRANT (R172). -/
  | arrayOwnershipGrant (tile : Nat)
  /-- LREG_PARITY (R186). -/
  | lregParity (tile : Nat) (slot : Nat) (lane : Nat)
  /-- NOP (R184). -/
  | nop (tile : Nat) (slot : Nat) (f : IForm)
  /-- EXIT (R155). -/
  | exit (tile : Nat) (slot : Nat) (f : CForm)
  /-- BRA (R184). -/
  | bra (tile : Nat) (slot : Nat) (f : CForm)
  /-- BRS (R184). -/
  | brs (tile : Nat) (slot : Nat) (f : CForm)
  /-- YIELD (R148). -/
  | yield (tile : Nat) (slot : Nat) (f : CForm)
  /-- RDSR (R184). -/
  | rdsr (tile : Nat) (slot : Nat) (f : IForm)
  /-- PUSH (R153). -/
  | push (tile : Nat) (slot : Nat) (f : CForm)
  /-- BRK (R153). -/
  | brk (tile : Nat) (slot : Nat) (f : CForm)
  /-- RCV (R153). -/
  | rcv (tile : Nat) (slot : Nat) (f : CForm)
  /-- POP (R153). -/
  | pop (tile : Nat) (slot : Nat) (f : CForm)
  /-- ANY (R184). -/
  | any (tile : Nat) (slot : Nat) (f : RForm)
  /-- ALL (R184). -/
  | all (tile : Nat) (slot : Nat) (f : RForm)
  /-- MASK (R184). -/
  | mask (tile : Nat) (slot : Nat) (f : RForm)
  /-- TAKE (R162). -/
  | take (tile : Nat) (slot : Nat) (f : MForm)
  /-- GIVE (R164). -/
  | give (tile : Nat) (slot : Nat) (f : MForm)
  /-- BARG (R167). -/
  | barg (tile : Nat) (slot : Nat) (f : IForm)
  /-- BART (R170). -/
  | bart (tile : Nat) (slot : Nat) (f : IForm)
  /-- BARN (R171). -/
  | barn (tile : Nat) (slot : Nat) (f : IForm)
  /-- MACQ (R172). -/
  | macq (tile : Nat) (slot : Nat) (f : CForm)
  /-- MREL (R172). -/
  | mrel (tile : Nat) (slot : Nat) (f : CForm)
  /-- MWLD (R173). -/
  | mwld (tile : Nat) (slot : Nat) (f : MForm)
  /-- MWSW (R173). -/
  | mwsw (tile : Nat) (slot : Nat) (f : CForm)
  /-- MMA (R174). -/
  | mma (tile : Nat) (slot : Nat) (f : RForm)
  /-- MMA4 (R174). -/
  | mma4 (tile : Nat) (slot : Nat) (f : RForm)
  /-- LD (R156). -/
  | ld (tile : Nat) (slot : Nat) (f : MForm)
  /-- ST (R157). -/
  | st (tile : Nat) (slot : Nat) (f : MForm)
  /-- LDS (R184). -/
  | lds (tile : Nat) (slot : Nat) (f : MForm)
  /-- STS (R184). -/
  | sts (tile : Nat) (slot : Nat) (f : MForm)
  /-- AADD (R160). -/
  | aadd (tile : Nat) (slot : Nat) (f : MForm)
  /-- AMAX (R160). -/
  | amax (tile : Nat) (slot : Nat) (f : MForm)
  /-- ACAS (R160). -/
  | acas (tile : Nat) (slot : Nat) (f : MForm)
  /-- FENCE_RELEASE (R158). -/
  | fenceRelease (tile : Nat) (slot : Nat) (f : IForm)
  /-- FENCE_ACQUIRE (R158). -/
  | fenceAcquire (tile : Nat) (slot : Nat) (f : IForm)
  /-- FENCE_FULL (R158). -/
  | fenceFull (tile : Nat) (slot : Nat) (f : IForm)
  /-- PREF (R157). -/
  | pref (tile : Nat) (slot : Nat) (f : MForm)
  /-- FADD (R102). -/
  | fadd (tile : Nat) (slot : Nat) (f : RForm)
  /-- FSUB (R102). -/
  | fsub (tile : Nat) (slot : Nat) (f : RForm)
  /-- FMUL (R102). -/
  | fmul (tile : Nat) (slot : Nat) (f : RForm)
  /-- FFMA (R102). -/
  | ffma (tile : Nat) (slot : Nat) (f : RForm)
  /-- FMIN (R184). -/
  | fmin (tile : Nat) (slot : Nat) (f : RForm)
  /-- FMAX (R184). -/
  | fmax (tile : Nat) (slot : Nat) (f : RForm)
  /-- FCMP (R183). -/
  | fcmp (tile : Nat) (slot : Nat) (f : RForm)
  /-- FRCP (R184). -/
  | frcp (tile : Nat) (slot : Nat) (f : RForm)
  /-- FRSQ (R184). -/
  | frsq (tile : Nat) (slot : Nat) (f : RForm)
  /-- FEXP2 (R184). -/
  | fexp2 (tile : Nat) (slot : Nat) (f : RForm)
  /-- FLOG2 (R184). -/
  | flog2 (tile : Nat) (slot : Nat) (f : RForm)
  /-- FDIV (R184). -/
  | fdiv (tile : Nat) (slot : Nat) (f : RForm)
  /-- CVTF (R184). -/
  | cvtf (tile : Nat) (slot : Nat) (f : RForm)
  /-- CVTN (R97). -/
  | cvtn (tile : Nat) (slot : Nat) (f : RForm)
  /-- I2F (R184). -/
  | i2f (tile : Nat) (slot : Nat) (f : RForm)
  /-- F2I (R184). -/
  | f2i (tile : Nat) (slot : Nat) (f : RForm)
  /-- IADD (R184). -/
  | iadd (tile : Nat) (slot : Nat) (f : RForm)
  /-- ISUB (R184). -/
  | isub (tile : Nat) (slot : Nat) (f : RForm)
  /-- IMUL (R184). -/
  | imul (tile : Nat) (slot : Nat) (f : RForm)
  /-- IMAD (R184). -/
  | imad (tile : Nat) (slot : Nat) (f : RForm)
  /-- AND (R184). -/
  | and (tile : Nat) (slot : Nat) (f : RForm)
  /-- OR (R184). -/
  | or (tile : Nat) (slot : Nat) (f : RForm)
  /-- XOR (R184). -/
  | xor (tile : Nat) (slot : Nat) (f : RForm)
  /-- SHL (R184). -/
  | shl (tile : Nat) (slot : Nat) (f : RForm)
  /-- SHR (R184). -/
  | shr (tile : Nat) (slot : Nat) (f : RForm)
  /-- SAR (R184). -/
  | sar (tile : Nat) (slot : Nat) (f : RForm)
  /-- IMIN (R184). -/
  | imin (tile : Nat) (slot : Nat) (f : RForm)
  /-- IMAX (R184). -/
  | imax (tile : Nat) (slot : Nat) (f : RForm)
  /-- ICMP (R183). -/
  | icmp (tile : Nat) (slot : Nat) (f : RForm)
  /-- SEL (R184). -/
  | sel (tile : Nat) (slot : Nat) (f : RForm)
  /-- MOV (R184). -/
  | mov (tile : Nat) (slot : Nat) (f : RForm)
  /-- MOVI (R184). -/
  | movi (tile : Nat) (slot : Nat) (f : IForm)
  /-- SHFL (R184). -/
  | shfl (tile : Nat) (slot : Nat) (f : RForm)
  /-- SADD (R184). -/
  | sadd (tile : Nat) (slot : Nat) (f : RForm)
  /-- SSUB (R184). -/
  | ssub (tile : Nat) (slot : Nat) (f : RForm)
  /-- SMUL (R184). -/
  | smul (tile : Nat) (slot : Nat) (f : RForm)
  /-- SAND (R184). -/
  | sand (tile : Nat) (slot : Nat) (f : RForm)
  /-- SOR (R184). -/
  | sor (tile : Nat) (slot : Nat) (f : RForm)
  /-- SXOR (R184). -/
  | sxor (tile : Nat) (slot : Nat) (f : RForm)
  /-- SSHL (R184). -/
  | sshl (tile : Nat) (slot : Nat) (f : RForm)
  /-- SSHR (R184). -/
  | sshr (tile : Nat) (slot : Nat) (f : RForm)
  /-- SSAR (R184). -/
  | ssar (tile : Nat) (slot : Nat) (f : RForm)
  /-- SMIN (R184). -/
  | smin (tile : Nat) (slot : Nat) (f : RForm)
  /-- SMAX (R184). -/
  | smax (tile : Nat) (slot : Nat) (f : RForm)
  /-- SCMP (R184). -/
  | scmp (tile : Nat) (slot : Nat) (f : RForm)
  /-- SMOV (R184). -/
  | smov (tile : Nat) (slot : Nat) (f : RForm)
  /-- SMOVI (R184). -/
  | smovi (tile : Nat) (slot : Nat) (f : IForm)
  /-- RESERVED_INSTRUCTION (R184). -/
  | reservedInstruction (tile : Nat) (slot : Nat) (word : W64)
  /-- DBG_CTL_HALT (R179). -/
  | dbgCtlHalt (tile : Nat) (value : W32) (origin : Nat)
  /-- DBG_CTL_STEP (R180). -/
  | dbgCtlStep (tile : Nat) (value : W32) (origin : Nat)
  /-- DBG_CTL_RESUME (R180). -/
  | dbgCtlResume (tile : Nat) (value : W32) (origin : Nat)
  /-- DEBUG_HALT_ENTER (R179). -/
  | debugHaltEnter
  /-- DBG_DATA_WRITE (R181). -/
  | dbgDataWrite (tile : Nat) (value : W32) (origin : Nat)
  /-- SLICE_ACCESS (R235). -/
  | sliceAccess (slice : Nat)
  /-- SLICE_MISS_FILL (R205). -/
  | sliceMissFill (slice : Nat)
  /-- COADD_FRAGMENT (R218). -/
  | coaddFragment (slice : Nat)
  /-- OVERFLOW_COADD_COMPLETE (R223). -/
  | overflowCoaddComplete (slice : Nat)
  /-- THRASH_WINDOW_END (R211). -/
  | thrashWindowEnd (slice : Nat)
  /-- STREAK_STREAM_END (R212). -/
  | streakStreamEnd (slice : Nat)
  /-- UPDATE_ENTRY_DONE (R231). -/
  | updateEntryDone (entry : Nat)
  /-- TAG_LOST (R236). -/
  | tagLost (slice : Nat) (set : Nat) (way : Nat)
  /-- SLICE_FOLD (R236). -/
  | sliceFold (slice : Nat)
  /-- PER_BANK_REFRESH (R250). -/
  | perBankRefresh (chan : Nat)
  /-- PKG_TEMP_POLL (R251). -/
  | pkgTempPoll (pkg : Nat) (temp : Int) (outOfRange : Bool)
  /-- CHANNEL_TRAINED (R255). -/
  | channelTrained (chan : Nat) (outcome : TrainOutcome) (readEye : Nat) (writeEye : Nat)
  /-- CH_TIMEOUT (R262). -/
  | chTimeout (chan : Nat)
  /-- SPREAD_COPY_DONE (R261). -/
  | spreadCopyDone (chan : Nat)
  /-- LAMP_START (R263). -/
  | lampStart (chan : Nat) (value : W32) (origin : Nat)
  /-- LAMP_STOP (R263). -/
  | lampStop (chan : Nat) (value : W32) (origin : Nat)
  /-- LAMP_DONE (R264). -/
  | lampDone (chan : Nat) (result : LampResult)
  /-- ARBITER_GRANT (R275). -/
  | arbiterGrant (target : ReqTarget)
  /-- HELD_REQUEST_ISSUE (R272). -/
  | heldRequestIssue (cls : Nat) (inst : Nat) (band : Nat)
  /-- ETA_HINT (R277). -/
  | etaHint (target : ReqTarget)
  /-- TRANSACTION_RESEND (R277). -/
  | transactionResend (cls : Nat) (inst : Nat) (band : Nat)
  /-- LOCKED_SEQUENCE_BREAK (R276). -/
  | lockedSequenceBreak (target : ReqTarget)
  /-- GUARANTEE_SCALED (R280). -/
  | guaranteeScaled
  /-- PAGE_RECOVERY_DONE (R292). -/
  | pageRecoveryDone (addr : Nat)
  /-- PATROL_VISIT (R295). -/
  | patrolVisit (store : PatrolStore)
  /-- WRITE_RAW (R306). -/
  | writeRaw (value : W32) (origin : Nat)
  /-- READ_RAW (R306). -/
  | readRaw (value : W32) (origin : Nat)
  /-- READ_DECODE (R306). -/
  | readDecode (value : W32) (origin : Nat)
  /-- RECOVER_PAGE (R306). -/
  | recoverPage (value : W32) (origin : Nat)
  /-- FRAME_RECEIVE (R315). -/
  | frameReceive (port : Nat) (frame : EthFrame)
  /-- BLOCK_RECEIVE (R326). -/
  | blockReceive (port : Nat) (blk : BlockFrame)
  /-- BLOCK_TRANSMIT (R323). -/
  | blockTransmit (port : Nat)
  /-- NAK_RECEIVE (R328). -/
  | nakReceive (port : Nat) (blk : BlockFrame)
  /-- NAK_REPEAT (R327). -/
  | nakRepeat (xfer : Nat)
  /-- EXPECT_ARRIVAL_PASS (R327). -/
  | expectArrivalPass (xfer : Nat)
  /-- REPLAY_HOLD_EXPIRE (R328). -/
  | replayHoldExpire (port : Nat)
  /-- GATE_ENTRY_EXPIRE (R321). -/
  | gateEntryExpire (port : Nat)
  /-- COLL_COMPLETE (R343). -/
  | collComplete (xfer : Nat)
  /-- PORT_TRAINING_DONE (R332). -/
  | portTrainingDone (port : Nat) (trained : Nat) (lldpOk : Bool)
  /-- PORT_DOWN (R335). -/
  | portDown (port : Nat)
  /-- CAGE_INSERT (R338). -/
  | cageInsert (group : Nat) (power : Nat)
  /-- CAGE_UNPLUG (R559). -/
  | cageUnplug (group : Nat)
  /-- SYNCE_SOURCE_FAIL (R339). -/
  | synceSourceFail
  /-- PTP_SYNC (R340). -/
  | ptpSync (port : Nat) (offset : Int)
  /-- TIME_HOLDOVER (R341). -/
  | timeHoldover
  /-- LINK_MACSEC (R342). -/
  | linkMacsec (port : Nat)
  /-- STORAGE_READ_DONE (R347). -/
  | storageReadDone (data : List Byte)
  /-- STORAGE_ERROR (R350). -/
  | storageError (loader : Bool)
  /-- SNAPSHOT_WRITE_DONE (R351). -/
  | snapshotWriteDone
  /-- TELEMETRY_EXPORT (R354). -/
  | telemetryExport
  /-- UP (R373). -/
  | up (frame : VoteFrame)
  /-- DOWN (R375). -/
  | down (frame : VoteFrame)
  /-- COMMIT_WORK_END (R380). -/
  | commitWorkEnd
  /-- COMMIT_LATE (R382). -/
  | commitLate
  /-- CLOSE_UP_SEND (R377). -/
  | closeUpSend
  /-- CLOSE_UP (R377). -/
  | closeUp (frame : VoteFrame)
  /-- CLOSE_DOWN (R377). -/
  | closeDown (frame : VoteFrame)
  /-- VOTE_TIMEOUT_EXPIRE (R374). -/
  | voteTimeoutExpire
  /-- VOTE_RESEND_EXPIRE (R376). -/
  | voteResendExpire
  /-- VOTE_LOST (R378). -/
  | voteLost
  /-- ROLLBACK_COMPLETE (R387). -/
  | rollbackComplete (read : List (Nat × List Byte)) (failed : Bool)
  /-- SLEW (R392). -/
  | slew
  /-- SPARE_JOIN (R390). -/
  | spareJoin (pages : List (Nat × List Byte)) (failed : Bool)
  /-- CKPT_LOAD_DONE (R433). -/
  | ckptLoadDone (pages : List (Nat × List Byte)) (failed : Bool)
  /-- IMG_VALIDATION_DONE (R409). -/
  | imgValidationDone
  /-- IMG_COMMIT_DONE (R411). -/
  | imgCommitDone
  /-- MCC_FRAME (R421). -/
  | mccFrame (secured : Bool) (data : List Byte)
  /-- MCC_FRAGMENT_TIMEOUT (R422). -/
  | mccFragmentTimeout
  /-- SESSION_MKA_TIMEOUT (R425). -/
  | sessionMkaTimeout
  /-- HELLO (R424). -/
  | hello (req : MccReq)
  /-- KEX (R424). -/
  | kex (req : MccReq)
  /-- AUTH (R424). -/
  | auth (req : MccReq)
  /-- CLOSE (R426). -/
  | close (req : MccReq)
  /-- PING (R429). -/
  | ping (req : MccReq)
  /-- ATTEST (R538). -/
  | attest (req : MccReq)
  /-- IDENTITY (R2). -/
  | identity (req : MccReq)
  /-- IMG_PART (R408). -/
  | imgPart (req : MccReq)
  /-- IMG_VALIDATE (R409). -/
  | imgValidate (req : MccReq)
  /-- IMG_COMMIT (R432). -/
  | imgCommit (req : MccReq)
  /-- IMG_DISCARD (R429). -/
  | imgDiscard (req : MccReq)
  /-- IMG_STATUS (R429). -/
  | imgStatus (req : MccReq)
  /-- BULK_CONNECT (R439). -/
  | bulkConnect (req : MccReq)
  /-- IMG_WINDOW (R439). -/
  | imgWindow (req : MccReq)
  /-- BULK_WRITE (R439). -/
  | bulkWrite (addr : Nat) (key : Nat) (data : List Byte)
  /-- BULK_READ (R439). -/
  | bulkRead (addr : Nat) (key : Nat) (len : Nat)
  /-- JOB_START (R433). -/
  | jobStart (req : MccReq)
  /-- JOB_RESUME (R434). -/
  | jobResume (req : MccReq)
  /-- JOB_STOP (R435). -/
  | jobStop (req : MccReq)
  /-- JOB_STATUS (R429). -/
  | jobStatus (req : MccReq)
  /-- SPARE_TAKE (R436). -/
  | spareTake (req : MccReq)
  /-- DRAIN (R370). -/
  | drain (req : MccReq)
  /-- POWER (R443). -/
  | power (req : MccReq)
  /-- PAUSE (R128). -/
  | pause (req : MccReq)
  /-- RESULT_READ (R438). -/
  | resultRead (req : MccReq)
  /-- RESULT_WINDOW (R439). -/
  | resultWindow (req : MccReq)
  /-- SLOTS_LIST (R438). -/
  | slotsList (req : MccReq)
  /-- REG_READ (R429). -/
  | regRead (req : MccReq)
  /-- EVENTS_READ (R512). -/
  | eventsRead (req : MccReq)
  /-- LOG_READ (R429). -/
  | logRead (req : MccReq)
  /-- FW_RECORD (R529). -/
  | fwRecord (req : MccReq)
  /-- FW_COMMIT (R529). -/
  | fwCommit (req : MccReq)
  /-- CHANGE_READ (R547). -/
  | changeRead (req : MccReq)
  /-- DBG_HALT (R179). -/
  | dbgHalt (req : MccReq)
  /-- DBG_STEP (R180). -/
  | dbgStep (req : MccReq)
  /-- DBG_RESUME (R180). -/
  | dbgResume (req : MccReq)
  /-- DBG_READ (R181). -/
  | dbgRead (req : MccReq)
  /-- DBG_WRITE (R181). -/
  | dbgWrite (req : MccReq)
  /-- DBG_WINDOW (R439). -/
  | dbgWindow (req : MccReq)
  /-- REG_WRITE (R429). -/
  | regWrite (req : MccReq)
  /-- PARTITION_RESET (R34). -/
  | partitionReset (req : MccReq)
  /-- LAYER_RESET (R34). -/
  | layerReset (req : MccReq)
  /-- SHUTTER (R437). -/
  | shutter (req : MccReq)
  /-- REOPEN (R261). -/
  | reopen (req : MccReq)
  /-- LAMP (R263). -/
  | lamp (req : MccReq)
  /-- LAMP_RESULT (R429). -/
  | lampResult (req : MccReq)
  /-- LOCATE (R569). -/
  | locate (req : MccReq)
  /-- VAON_UP (R443). -/
  | vaonUp (latch : Bool)
  /-- VAON_LOSS (R443). -/
  | vaonLoss
  /-- RESET_N_ASSERT (R566). -/
  | resetNAssert
  /-- RESET_N_RELEASE (R565). -/
  | resetNRelease (latch : Bool)
  /-- TWILIGHT_END (R444). -/
  | twilightEnd (found : TwilightFound)
  /-- CORE_COLLIMATION_END (R449). -/
  | coreCollimationEnd (found : CollimationFound)
  /-- LINK_COLLIMATION_END (R450). -/
  | linkCollimationEnd
  /-- FIRST_LIGHT_END (R453). -/
  | firstLightEnd
  /-- TRACKING_ENTRY (R454). -/
  | trackingEntry
  /-- BRINGUP_TIMEOUT (R452). -/
  | bringupTimeout
  /-- PMBUS_POLL (R461). -/
  | pmbusPoll (readings : List (Nat × Nat × Nat)) (answered : Bool)
  /-- RAIL_POWER_GOOD (R464). -/
  | railPowerGood (rail : Nat)
  /-- RAIL_FAULT (R464). -/
  | railFault (rail : Nat)
  /-- QUOTA_EVAL (R463). -/
  | quotaEval (tile : Nat)
  /-- TILE_GATE (R467). -/
  | tileGate
  /-- TILE_WAKE_START (R470). -/
  | tileWakeStart (phys : Nat)
  /-- TILE_WAKE_DONE (R470). -/
  | tileWakeDone (phys : Nat) (parityOk : Bool)
  /-- POWER_CAP_EVAL (R473). -/
  | powerCapEval
  /-- RAIL_LIMIT_EVAL (R474). -/
  | railLimitEval (readings : List (Nat × Nat))
  /-- FCST_FRAME (R472). -/
  | fcstFrame (link : Nat) (forecast : Nat)
  /-- TILE_DROOP (R477). -/
  | tileDroop (phys : Nat) (volts : Nat)
  /-- TRIM_OPEN (R478). -/
  | trimOpen (phys : Nat)
  /-- TRIM_SHORT (R478). -/
  | trimShort (phys : Nat)
  /-- TRIM_OUT_OF_REG (R478). -/
  | trimOutOfReg (phys : Nat)
  /-- SENSOR_SAMPLE (R485). -/
  | sensorSample (sensor : Nat) (raw : Option Int)
  /-- THERMAL_REQ_INTERVAL (R488). -/
  | thermalReqInterval
  /-- LAYER_MODEL_EVAL (R492). -/
  | layerModelEval (below : List Nat) (fit : List Nat)
  /-- FALLBACK_EVAL (R494). -/
  | fallbackEval (split : List Nat)
  /-- THM_TRIP (R498). -/
  | thmTrip (sensor : Nat) (fallback : Bool)
  /-- THM_RESTART (R500). -/
  | thmRestart
  /-- WATCHDOG_FEED (R514). -/
  | watchdogFeed (value : W32)
  /-- MGC_STOPPED (R514). -/
  | mgcStopped
  /-- MGC_RESTART_DONE (R514). -/
  | mgcRestartDone
  /-- ERRN_TIMER_END (R513). -/
  | errnTimerEnd
  /-- ERRN_HOLD_WRITE (R513). -/
  | errnHoldWrite (value : W32)
  /-- COLLECTOR_SELF (R516). -/
  | collectorSelf (parity : Bool)
  /-- REFCLK_LOST (R517). -/
  | refclkLost (tower : Nat)
  /-- ROLLBACK_ADVANCED (R528). -/
  | rollbackAdvanced
  /-- LOG_COMMIT (R545). -/
  | logCommit (flashOk : Bool)
  /-- LOG_COMPACTION (R544). -/
  | logCompaction
  /-- CHANGE_FLUSH (R547). -/
  | changeFlush (flashOk : Bool)
  /-- COLD_NEXT_WRITE (R455). -/
  | coldNextWrite (value : W32) (origin : Nat)
  /-- SVC_BTN_SHORT_PRESS (R567). -/
  | svcBtnShortPress
  /-- SVC_BTN_LONG_PRESS (R567). -/
  | svcBtnLongPress
  /-- LED_FRAME (R568). -/
  | ledFrame
  /-- BYPASS (R570). -/
  | bypass (tdi : Bool)
  /-- IDCODE (R570). -/
  | idcode
  /-- SAMPLE_PRELOAD (R570). -/
  | samplePreload (pins : Nat) (load : Nat)
  /-- EXTEST (R570). -/
  | extest (pins : Nat) (load : Nat)
  /-- INTERNAL_RESET_END (R566). -/
  | internalResetEnd
  /-- MANAGEMENT_CORE_STOPS (R10). -/
  | managementCoreStops
  /-- PORT_TRAINS_AGAIN (R336). -/
  | portTrainsAgain (port : Nat)
  /-- DELTA_APPLY_END (R415). -/
  | deltaApplyEnd
  /-- LOG_COMPACTION_END (R544). -/
  | logCompactionEnd
  /-- SYNC_INTERVAL (R340). -/
  | syncInterval
  deriving DecidableEq, Repr

end Sys2Proof
end

