-- ==== Sys2Proof/Config.lean ====
section
/-!
DEFINITION. What the spec leaves to the implementation and the values it leaves open. A constant without a body is a free
value: nothing constrains it, and a claim about it holds whatever it is.
-/
namespace Sys2Proof.Config

/-- A free 32-bit value, drawn by the counter of `Sys.free` (assumption 2). -/
opaque freeWord : Nat → W32

/-- A free natural number, drawn by the counter of `Sys.free`. -/
opaque freeNat : Nat → Nat

/-- The random word of a co-add of a collective, to which the spec gives no TAG (R99, R224; assumption 52): a function of SEED, the
step, the collective, the block and the element, so that a replay of the step draws the same words (R136). -/
opaque collDraw : List Nat → W32

/-- The random word of a lane's stochastic rounding (R99; assumption 31): a function of SEED, the step, the tile, the task, the
group, its draws so far and the lane (R136). -/
opaque laneDraw : List Nat → W32

/-- What an accumulator entry or a weight element reads as after it failed its check outside an operation (R73; assumption 104), by
a draw and a key. -/
opaque lostWord : Nat → Nat → W32

/-- The average interval between refreshes of a channel's banks, in ns, that the JEDEC standard sets for a package size and type at
the standard interval (R250; assumption 122). -/
opaque refreshNs (pkg : Nat) (lp5x : Bool) : Nat

/-- The device's fixed algorithm of FEXP2 (R184): which of the values within 1 ulp it gives for an operand. -/
opaque exp2Pick : W32 → Nat

/-- The device's fixed algorithm of FLOG2 (R184): which of the values within 1 ulp it gives for an operand. -/
opaque log2Pick : W32 → Nat

/-- Whether a signature of an ALG under a public key is valid over a message (R406, R526, R534, R535): the algorithms are not
the spec's to define. -/
opaque sigOk (alg : Nat) (key msg sig : List Byte) : Bool

/-- The identity public key that an ALG's derivation gives from ID_SEED (R536). -/
opaque identityKey (alg : Nat) (seed : List Byte) : List Byte

/-- RSA-OAEP decryption with SHA-384 under the device's RSA identity key, which ID_SEED gives (R539); none where it fails. -/
opaque oaepOpen (seed ct : List Byte) : Option (List Byte)

/-- The signature of an identity key over a message (R424, R538). -/
opaque identitySign (alg : Nat) (seed msg : List Byte) : List Byte

/-- Whether a certificate chain names a public key and verifies to the root whose public key has the given hash (R537). -/
opaque chainOk (alg : Nat) (root pub chain : List Byte) : Bool

/-- ML-KEM-768 encapsulation with a draw: ciphertext and shared secret (R424). -/
opaque encapsulate (draw : Nat) (key : List Byte) : List Byte × List Byte

/-- The CAK and CKN that HKDF gives from the shared secret and T (R424). -/
opaque sessionKeys (secret t : List Byte) : List Byte

/-- The body of the IDENTITY record that the device writes (R536). -/
opaque identityRecord (seed : List Byte) : List Byte

end Sys2Proof.Config
end

