-- ==== Sys2Proof/Machine/Codes.lean ====
section
/-!
DEFINITION. The event codes of Table: Fault-code index (18_faults_and_shutters.md) with their classes at reset, as the fault
tables of files 02 to 20 give them. The stored-data codes carry _T (focal), _S (slice) or _M (channel).
-/
namespace Sys2Proof.Machine.C

/-- SLACK OVERRUN: file 05. -/
def SLACK_OVERRUN : FaultCode := ⟨0x0101, 0⟩
/-- LANE JOIN LATE: file 05. -/
def LANE_JOIN_LATE : FaultCode := ⟨0x0102, 0⟩
/-- BUNDLE POISON: file 05. -/
def BUNDLE_POISON : FaultCode := ⟨0x0103, 1⟩
/-- BUNDLE POISON KEPT: file 05. -/
def BUNDLE_POISON_KEPT : FaultCode := ⟨0x0104, 2⟩
/-- ORPHAN BLOCK: file 05. -/
def ORPHAN_BLOCK : FaultCode := ⟨0x0105, 0⟩
/-- STALL TIMEOUT: file 05. -/
def STALL_TIMEOUT : FaultCode := ⟨0x0106, 3⟩
/-- WREG PARITY: file 03. -/
def WREG_PARITY : FaultCode := ⟨0x0201, 1⟩
/-- WBLOCK POISON: file 03. -/
def WBLOCK_POISON : FaultCode := ⟨0x0202, 1⟩
/-- CUBE PARITY: file 03. -/
def CUBE_PARITY : FaultCode := ⟨0x0203, 1⟩
/-- ACC PARITY: file 03. -/
def ACC_PARITY : FaultCode := ⟨0x0204, 1⟩
/-- FINDER PARITY: file 03. -/
def FINDER_PARITY : FaultCode := ⟨0x0205, 1⟩
/-- RETENTION LOST: file 03. -/
def RETENTION_LOST : FaultCode := ⟨0x0206, 1⟩
/-- ARRAY REPEAT: file 03. -/
def ARRAY_REPEAT : FaultCode := ⟨0x0207, 2⟩
/-- WBLOCK POISON KEPT: file 03. -/
def WBLOCK_POISON_KEPT : FaultCode := ⟨0x0208, 0⟩
/-- MASK OVERFLOW: file 06. -/
def MASK_OVERFLOW : FaultCode := ⟨0x0301, 3⟩
/-- MASK UNDERFLOW: file 06. -/
def MASK_UNDERFLOW : FaultCode := ⟨0x0302, 3⟩
/-- LOCK STALL: file 06. -/
def LOCK_STALL : FaultCode := ⟨0x0303, 3⟩
/-- LOCK NOT HELD: file 06. -/
def LOCK_NOT_HELD : FaultCode := ⟨0x0304, 3⟩
/-- LOCK LEFT: file 06. -/
def LOCK_LEFT : FaultCode := ⟨0x0305, 3⟩
/-- BARRIER TIMEOUT: file 06. -/
def BARRIER_TIMEOUT : FaultCode := ⟨0x0306, 3⟩
/-- LANE ILLEGAL: file 06. -/
def LANE_ILLEGAL : FaultCode := ⟨0x0307, 3⟩
/-- LANE ADDRESS: file 06. -/
def LANE_ADDRESS : FaultCode := ⟨0x0308, 3⟩
/-- LREG PARITY: file 06. -/
def LREG_PARITY : FaultCode := ⟨0x0309, 3⟩
/-- LANE REPEAT: file 06. -/
def LANE_REPEAT : FaultCode := ⟨0x030A, 2⟩
/-- LANE POISON USE: file 06. -/
def LANE_POISON_USE : FaultCode := ⟨0x030B, 0⟩
/-- CORRECTED T: file 10. -/
def CORRECTED_T : FaultCode := ⟨0x0401, 1⟩
/-- RECOVERED T: file 10. -/
def RECOVERED_T : FaultCode := ⟨0x0402, 1⟩
/-- UNRECOVERED T: file 10. -/
def UNRECOVERED_T : FaultCode := ⟨0x0403, 0⟩
/-- CHECK REWRITTEN T: file 10. -/
def CHECK_REWRITTEN_T : FaultCode := ⟨0x0404, 1⟩
/-- MISCORRECT T: file 10. -/
def MISCORRECT_T : FaultCode := ⟨0x0405, 1⟩
/-- REPEAT T: file 10. -/
def REPEAT_T : FaultCode := ⟨0x0406, 2⟩
/-- POISON WATCHED T: file 10. -/
def POISON_WATCHED_T : FaultCode := ⟨0x0407, 0⟩
/-- TAG CORRECTED: file 07. -/
def TAG_CORRECTED : FaultCode := ⟨0x0501, 1⟩
/-- TAG LOST: file 07. -/
def TAG_LOST : FaultCode := ⟨0x0502, 2⟩
/-- PIN REFUSED: file 07. -/
def PIN_REFUSED : FaultCode := ⟨0x0503, 0⟩
/-- THRASH: file 07. -/
def THRASH : FaultCode := ⟨0x0504, 0⟩
/-- COADD OVERFLOW: file 07. -/
def COADD_OVERFLOW : FaultCode := ⟨0x0505, 0⟩
/-- COADD SEQ: file 07. -/
def COADD_SEQ : FaultCode := ⟨0x0506, 3⟩
/-- SLICE FOLD: file 07. -/
def SLICE_FOLD : FaultCode := ⟨0x0507, 2⟩
/-- FOLD IMPOSSIBLE: file 07. -/
def FOLD_IMPOSSIBLE : FaultCode := ⟨0x0508, 4⟩
/-- UPD NONFINITE: file 07. -/
def UPD_NONFINITE : FaultCode := ⟨0x0509, 0⟩
/-- ADDRESS UNMAPPED: file 07. -/
def ADDRESS_UNMAPPED : FaultCode := ⟨0x050A, 3⟩
/-- SLC LOCK LONG: file 09. -/
def SLC_LOCK_LONG : FaultCode := ⟨0x050B, 3⟩
/-- CORRECTED S: file 10. -/
def CORRECTED_S : FaultCode := ⟨0x050C, 1⟩
/-- RECOVERED S: file 10. -/
def RECOVERED_S : FaultCode := ⟨0x050D, 1⟩
/-- UNRECOVERED S: file 10. -/
def UNRECOVERED_S : FaultCode := ⟨0x050E, 0⟩
/-- CHECK REWRITTEN S: file 10. -/
def CHECK_REWRITTEN_S : FaultCode := ⟨0x050F, 1⟩
/-- MISCORRECT S: file 10. -/
def MISCORRECT_S : FaultCode := ⟨0x0510, 1⟩
/-- REPEAT S: file 10. -/
def REPEAT_S : FaultCode := ⟨0x0511, 2⟩
/-- POISON WATCHED S: file 10. -/
def POISON_WATCHED_S : FaultCode := ⟨0x0512, 0⟩
/-- COMMITTED POISON S: file 10. -/
def COMMITTED_POISON_S : FaultCode := ⟨0x0513, 3⟩
/-- CH TRAIN FAIL: file 08. -/
def CH_TRAIN_FAIL : FaultCode := ⟨0x0601, 2⟩
/-- CH TRAIN MARGINAL: file 08. -/
def CH_TRAIN_MARGINAL : FaultCode := ⟨0x0602, 0⟩
/-- CH RETRAINED: file 08. -/
def CH_RETRAINED : FaultCode := ⟨0x0603, 0⟩
/-- CH RATE STEP: file 08. -/
def CH_RATE_STEP : FaultCode := ⟨0x0604, 0⟩
/-- CH MISMATCH: file 08. -/
def CH_MISMATCH : FaultCode := ⟨0x0605, 4⟩
/-- CH REFRESH DOUBLE: file 08. -/
def CH_REFRESH_DOUBLE : FaultCode := ⟨0x0606, 0⟩
/-- CH THROTTLE: file 08. -/
def CH_THROTTLE : FaultCode := ⟨0x0607, 0⟩
/-- CH OVERHEAT: file 08. -/
def CH_OVERHEAT : FaultCode := ⟨0x0608, 4⟩
/-- CH TIMEOUT: file 08. -/
def CH_TIMEOUT : FaultCode := ⟨0x0609, 2⟩
/-- CH SPREAD: file 08. -/
def CH_SPREAD : FaultCode := ⟨0x060A, 2⟩
/-- CH SPREAD SHORT: file 08. -/
def CH_SPREAD_SHORT : FaultCode := ⟨0x060B, 4⟩
/-- LAMP ERRORS: file 08. -/
def LAMP_ERRORS : FaultCode := ⟨0x060C, 0⟩
/-- CH LOCK LONG: file 09. -/
def CH_LOCK_LONG : FaultCode := ⟨0x060D, 3⟩
/-- GUARANTEE SCALED: file 09. -/
def GUARANTEE_SCALED : FaultCode := ⟨0x060E, 0⟩
/-- CORRECTED M: file 10. -/
def CORRECTED_M : FaultCode := ⟨0x0620, 1⟩
/-- RECOVERED M: file 10. -/
def RECOVERED_M : FaultCode := ⟨0x0621, 1⟩
/-- UNRECOVERED M: file 10. -/
def UNRECOVERED_M : FaultCode := ⟨0x0622, 0⟩
/-- CHECK REWRITTEN M: file 10. -/
def CHECK_REWRITTEN_M : FaultCode := ⟨0x0623, 1⟩
/-- MISCORRECT M: file 10. -/
def MISCORRECT_M : FaultCode := ⟨0x0624, 1⟩
/-- PORT DOWN: file 11. -/
def PORT_DOWN : FaultCode := ⟨0x0701, 2⟩
/-- PORT NARROW: file 11. -/
def PORT_NARROW : FaultCode := ⟨0x0702, 0⟩
/-- PORT UNTRAINED: file 11. -/
def PORT_UNTRAINED : FaultCode := ⟨0x0703, 2⟩
/-- PORT MISWIRED: file 11. -/
def PORT_MISWIRED : FaultCode := ⟨0x0704, 2⟩
/-- PORT FLAP: file 11. -/
def PORT_FLAP : FaultCode := ⟨0x0705, 2⟩
/-- ROUTE UNCOVERED: file 11. -/
def ROUTE_UNCOVERED : FaultCode := ⟨0x0706, 0⟩
/-- ROUTE LOST: file 11. -/
def ROUTE_LOST : FaultCode := ⟨0x0707, 4⟩
/-- REPLAY FULL: file 11. -/
def REPLAY_FULL : FaultCode := ⟨0x0708, 0⟩
/-- RESEND EXPIRED: file 11. -/
def RESEND_EXPIRED : FaultCode := ⟨0x0709, 0⟩
/-- BUFFER DROP: file 11. -/
def BUFFER_DROP : FaultCode := ⟨0x070A, 0⟩
/-- POISON EGRESS: file 11. -/
def POISON_EGRESS : FaultCode := ⟨0x070B, 0⟩
/-- SYNCE SWITCH: file 11. -/
def SYNCE_SWITCH : FaultCode := ⟨0x070C, 0⟩
/-- SYNCE HOLDOVER: file 11. -/
def SYNCE_HOLDOVER : FaultCode := ⟨0x070D, 0⟩
/-- TIME ALIGN: file 11. -/
def TIME_ALIGN : FaultCode := ⟨0x070E, 0⟩
/-- TIME HOLDOVER: file 11. -/
def TIME_HOLDOVER : FaultCode := ⟨0x070F, 0⟩
/-- LINK MACSEC: file 11. -/
def LINK_MACSEC : FaultCode := ⟨0x0710, 2⟩
/-- MODULE REFUSED: file 11. -/
def MODULE_REFUSED : FaultCode := ⟨0x0711, 0⟩
/-- LOADER LATE: file 11. -/
def LOADER_LATE : FaultCode := ⟨0x0712, 3⟩
/-- STORAGE ERROR: file 11. -/
def STORAGE_ERROR : FaultCode := ⟨0x0713, 0⟩
/-- CKPT SKIPPED: file 11. -/
def CKPT_SKIPPED : FaultCode := ⟨0x0714, 0⟩
/-- GATE WRITE: file 12. -/
def GATE_WRITE : FaultCode := ⟨0x0801, 3⟩
/-- VOTE MISSING: file 12. -/
def VOTE_MISSING : FaultCode := ⟨0x0802, 0⟩
/-- VOTE LOST: file 12. -/
def VOTE_LOST : FaultCode := ⟨0x0803, 0⟩
/-- REPLAY LIMIT: file 12. -/
def REPLAY_LIMIT : FaultCode := ⟨0x0804, 0⟩
/-- LOSS SCALE FLOOR: file 12. -/
def LOSS_SCALE_FLOOR : FaultCode := ⟨0x0805, 0⟩
/-- COMMIT LATE: file 12. -/
def COMMIT_LATE : FaultCode := ⟨0x0806, 0⟩
/-- ROLLBACK: file 12. -/
def ROLLBACK : FaultCode := ⟨0x0807, 0⟩
/-- CKPT UNREADABLE: file 12. -/
def CKPT_UNREADABLE : FaultCode := ⟨0x0808, 0⟩
/-- SPARE JOIN: file 12. -/
def SPARE_JOIN : FaultCode := ⟨0x0809, 0⟩
/-- SLEW: file 12. -/
def SLEW : FaultCode := ⟨0x080A, 0⟩
/-- DEGRADED NO SPARE: file 12. -/
def DEGRADED_NO_SPARE : FaultCode := ⟨0x080B, 4⟩
/-- CKPT MISMATCH: file 12. -/
def CKPT_MISMATCH : FaultCode := ⟨0x080C, 0⟩
/-- TRIM OPEN: file 16. -/
def TRIM_OPEN : FaultCode := ⟨0x0901, 2⟩
/-- TRIM SHORT: file 16. -/
def TRIM_SHORT : FaultCode := ⟨0x0902, 2⟩
/-- TRIM OUT OF REG: file 16. -/
def TRIM_OUT_OF_REG : FaultCode := ⟨0x0903, 2⟩
/-- TILE DROOP: file 16. -/
def TILE_DROOP : FaultCode := ⟨0x0904, 3⟩
/-- RAIL FAULT: file 16. -/
def RAIL_FAULT : FaultCode := ⟨0x0905, 4⟩
/-- RAIL OVERCURRENT: file 16. -/
def RAIL_OVERCURRENT : FaultCode := ⟨0x0906, 4⟩
/-- PMBUS LOST: file 16. -/
def PMBUS_LOST : FaultCode := ⟨0x0907, 0⟩
/-- POWER CAPPING: file 16. -/
def POWER_CAPPING : FaultCode := ⟨0x0908, 0⟩
/-- QUOTA RAISED: file 16. -/
def QUOTA_RAISED : FaultCode := ⟨0x0909, 0⟩
/-- CLOCK MODE: file 16. -/
def CLOCK_MODE : FaultCode := ⟨0x090A, 0⟩
/-- THM WARNING: file 17. -/
def THM_WARNING : FaultCode := ⟨0x0A01, 0⟩
/-- THM THROTTLE: file 17. -/
def THM_THROTTLE : FaultCode := ⟨0x0A02, 0⟩
/-- THM RATE: file 17. -/
def THM_RATE : FaultCode := ⟨0x0A03, 0⟩
/-- THM SENSOR BROKEN: file 17. -/
def THM_SENSOR_BROKEN : FaultCode := ⟨0x0A04, 2⟩
/-- THM SENSOR BROKEN STACK: file 17. -/
def THM_SENSOR_BROKEN_STACK : FaultCode := ⟨0x0A05, 0⟩
/-- THM SUSPECT: file 17. -/
def THM_SUSPECT : FaultCode := ⟨0x0A06, 0⟩
/-- THM TRIP: file 17. -/
def THM_TRIP : FaultCode := ⟨0x0A07, 5⟩
/-- THM LATCHED: file 17. -/
def THM_LATCHED : FaultCode := ⟨0x0A08, 5⟩
/-- THM RESTART: file 17. -/
def THM_RESTART : FaultCode := ⟨0x0A09, 0⟩
/-- FW VERIFY FAIL: file 19. -/
def FW_VERIFY_FAIL : FaultCode := ⟨0x0B01, 0⟩
/-- FW REFUSED: file 19. -/
def FW_REFUSED : FaultCode := ⟨0x0B02, 0⟩
/-- FW SWITCHED: file 19. -/
def FW_SWITCHED : FaultCode := ⟨0x0B03, 0⟩
/-- FW REVERTED: file 19. -/
def FW_REVERTED : FaultCode := ⟨0x0B04, 2⟩
/-- ROLLBACK ADVANCED: file 19. -/
def ROLLBACK_ADVANCED : FaultCode := ⟨0x0B05, 0⟩
/-- NETBOOT: file 19. -/
def NETBOOT : FaultCode := ⟨0x0B06, 0⟩
/-- IDENTITY REDERIVED: file 19. -/
def IDENTITY_REDERIVED : FaultCode := ⟨0x0B07, 0⟩
/-- CERT MISSING: file 19. -/
def CERT_MISSING : FaultCode := ⟨0x0B08, 0⟩
/-- OWNER CHANGED: file 19. -/
def OWNER_CHANGED : FaultCode := ⟨0x0B09, 0⟩
/-- AUTH REJECTED: file 19. -/
def AUTH_REJECTED : FaultCode := ⟨0x0B0A, 0⟩
/-- LOG CORRUPT: file 19. -/
def LOG_CORRUPT : FaultCode := ⟨0x0B0B, 0⟩
/-- LOG UNAVAILABLE: file 19. -/
def LOG_UNAVAILABLE : FaultCode := ⟨0x0B0C, 2⟩
/-- LOG COMPACTED: file 19. -/
def LOG_COMPACTED : FaultCode := ⟨0x0B0D, 0⟩
/-- CHANGE LOST: file 19. -/
def CHANGE_LOST : FaultCode := ⟨0x0B0E, 0⟩
/-- RWS FROZEN: file 18. -/
def RWS_FROZEN : FaultCode := ⟨0x0C01, 0⟩
/-- KEY REFUSED: file 18. -/
def KEY_REFUSED : FaultCode := ⟨0x0C02, 0⟩
/-- VALUE REPLACED: file 18. -/
def VALUE_REPLACED : FaultCode := ⟨0x0C03, 0⟩
/-- MGC STOPPED: file 18. -/
def MGC_STOPPED : FaultCode := ⟨0x0C04, 2⟩
/-- MGC FAILED: file 18. -/
def MGC_FAILED : FaultCode := ⟨0x0C05, 4⟩
/-- COLLECTOR SELF: file 18. -/
def COLLECTOR_SELF : FaultCode := ⟨0x0C06, 5⟩
/-- REFCLK LOST: file 18. -/
def REFCLK_LOST : FaultCode := ⟨0x0C07, 5⟩
/-- SELFTEST FAIL: file 15. -/
def SELFTEST_FAIL : FaultCode := ⟨0x0C20, 5⟩
/-- FUSE INVALID: file 15. -/
def FUSE_INVALID : FaultCode := ⟨0x0C21, 5⟩
/-- BRINGUP TIMEOUT: file 15. -/
def BRINGUP_TIMEOUT : FaultCode := ⟨0x0C22, 4⟩
/-- COLD START: file 15. -/
def COLD_START : FaultCode := ⟨0x0C23, 0⟩
/-- IMG COMMITTED: file 13. -/
def IMG_COMMITTED : FaultCode := ⟨0x0D60, 0⟩
/-- DELTA APPLIED: file 13. -/
def DELTA_APPLIED : FaultCode := ⟨0x0D61, 0⟩
/-- DELTA DROPPED: file 13. -/
def DELTA_DROPPED : FaultCode := ⟨0x0D62, 4⟩
/-- IMG COPY LOST: file 13. -/
def IMG_COPY_LOST : FaultCode := ⟨0x0D63, 4⟩
/-- SPINE RESEND: file 02. -/
def SPINE_RESEND : FaultCode := ⟨0x0E01, 1⟩
/-- SPINE BURST LOST: file 02. -/
def SPINE_BURST_LOST : FaultCode := ⟨0x0E02, 0⟩
/-- SPINE SEGMENT WEAK: file 02. -/
def SPINE_SEGMENT_WEAK : FaultCode := ⟨0x0E03, 2⟩
/-- XING DEPTH RANGE: file 02. -/
def XING_DEPTH_RANGE : FaultCode := ⟨0x0E04, 4⟩
/-- LAYER PLL SWITCH: file 02. -/
def LAYER_PLL_SWITCH : FaultCode := ⟨0x0E05, 3⟩
/-- LAYER PLL LOST: file 02. -/
def LAYER_PLL_LOST : FaultCode := ⟨0x0E06, 4⟩
/-- AGE MARGIN LOW: file 02. -/
def AGE_MARGIN_LOW : FaultCode := ⟨0x0E07, 0⟩
/-- AGE CEILING: file 02. -/
def AGE_CEILING : FaultCode := ⟨0x0E08, 2⟩
/-- LAYER RESET: file 02. -/
def LAYER_RESET : FaultCode := ⟨0x0E09, 0⟩
/-- PARTITION RESET: file 02. -/
def PARTITION_RESET : FaultCode := ⟨0x0E0A, 0⟩

/-- Every code with its class at reset. -/
def table : List FaultCode :=
  [SLACK_OVERRUN, LANE_JOIN_LATE, BUNDLE_POISON, BUNDLE_POISON_KEPT, ORPHAN_BLOCK, STALL_TIMEOUT,
   WREG_PARITY, WBLOCK_POISON, CUBE_PARITY, ACC_PARITY, FINDER_PARITY, RETENTION_LOST,
   ARRAY_REPEAT, WBLOCK_POISON_KEPT, MASK_OVERFLOW, MASK_UNDERFLOW, LOCK_STALL, LOCK_NOT_HELD,
   LOCK_LEFT, BARRIER_TIMEOUT, LANE_ILLEGAL, LANE_ADDRESS, LREG_PARITY, LANE_REPEAT,
   LANE_POISON_USE, CORRECTED_T, RECOVERED_T, UNRECOVERED_T, CHECK_REWRITTEN_T, MISCORRECT_T,
   REPEAT_T, POISON_WATCHED_T, TAG_CORRECTED, TAG_LOST, PIN_REFUSED, THRASH,
   COADD_OVERFLOW, COADD_SEQ, SLICE_FOLD, FOLD_IMPOSSIBLE, UPD_NONFINITE, ADDRESS_UNMAPPED,
   SLC_LOCK_LONG, CORRECTED_S, RECOVERED_S, UNRECOVERED_S, CHECK_REWRITTEN_S, MISCORRECT_S,
   REPEAT_S, POISON_WATCHED_S, COMMITTED_POISON_S, CH_TRAIN_FAIL, CH_TRAIN_MARGINAL, CH_RETRAINED,
   CH_RATE_STEP, CH_MISMATCH, CH_REFRESH_DOUBLE, CH_THROTTLE, CH_OVERHEAT, CH_TIMEOUT,
   CH_SPREAD, CH_SPREAD_SHORT, LAMP_ERRORS, CH_LOCK_LONG, GUARANTEE_SCALED, CORRECTED_M,
   RECOVERED_M, UNRECOVERED_M, CHECK_REWRITTEN_M, MISCORRECT_M, PORT_DOWN, PORT_NARROW,
   PORT_UNTRAINED, PORT_MISWIRED, PORT_FLAP, ROUTE_UNCOVERED, ROUTE_LOST, REPLAY_FULL,
   RESEND_EXPIRED, BUFFER_DROP, POISON_EGRESS, SYNCE_SWITCH, SYNCE_HOLDOVER, TIME_ALIGN,
   TIME_HOLDOVER, LINK_MACSEC, MODULE_REFUSED, LOADER_LATE, STORAGE_ERROR, CKPT_SKIPPED,
   GATE_WRITE, VOTE_MISSING, VOTE_LOST, REPLAY_LIMIT, LOSS_SCALE_FLOOR, COMMIT_LATE,
   ROLLBACK, CKPT_UNREADABLE, SPARE_JOIN, SLEW, DEGRADED_NO_SPARE, CKPT_MISMATCH,
   TRIM_OPEN, TRIM_SHORT, TRIM_OUT_OF_REG, TILE_DROOP, RAIL_FAULT, RAIL_OVERCURRENT,
   PMBUS_LOST, POWER_CAPPING, QUOTA_RAISED, CLOCK_MODE, THM_WARNING, THM_THROTTLE,
   THM_RATE, THM_SENSOR_BROKEN, THM_SENSOR_BROKEN_STACK, THM_SUSPECT, THM_TRIP, THM_LATCHED,
   THM_RESTART, FW_VERIFY_FAIL, FW_REFUSED, FW_SWITCHED, FW_REVERTED, ROLLBACK_ADVANCED,
   NETBOOT, IDENTITY_REDERIVED, CERT_MISSING, OWNER_CHANGED, AUTH_REJECTED, LOG_CORRUPT,
   LOG_UNAVAILABLE, LOG_COMPACTED, CHANGE_LOST, RWS_FROZEN, KEY_REFUSED, VALUE_REPLACED,
   MGC_STOPPED, MGC_FAILED, COLLECTOR_SELF, REFCLK_LOST, SELFTEST_FAIL, FUSE_INVALID,
   BRINGUP_TIMEOUT, COLD_START, IMG_COMMITTED, DELTA_APPLIED, DELTA_DROPPED, IMG_COPY_LOST,
   SPINE_RESEND, SPINE_BURST_LOST, SPINE_SEGMENT_WEAK, XING_DEPTH_RANGE, LAYER_PLL_SWITCH, LAYER_PLL_LOST,
   AGE_MARGIN_LOW, AGE_CEILING, LAYER_RESET, PARTITION_RESET]

end Sys2Proof.Machine.C
end

