-- ==== Sys2Proof/Machine/Fields.lean ====
section
/-!
DEFINITION. The register fields of the spec's register tables (files 00 to 20 of spec/): one constant for each field,
with its width and its reset value as the table of the named rule gives them. The two halves of a register pair _LO and _HI
are one 64-bit field (R6). A field whose Reset column says Fuse or Strap has 0 here and takes its value from the fuse
map or the strap (assumption 3).
-/
namespace Sys2Proof.Machine.F

/-- 00 R2. -/
def GLB_PART_PART : Field := ⟨0, 32, 0x432⟩
/-- 00 R2. -/
def GLB_STEPPING_STEPPING : Field := ⟨1, 8, 0xb0⟩
/-- 00 R2. -/
def GLB_STEPPING_FUSE_FORMAT : Field := ⟨2, 16, 0⟩
/-- 00 R2. -/
def GLB_FUSE_ID_ID : Field := ⟨3, 64, 0⟩
/-- 00 R2. -/
def GLB_MODES_SUSTAIN : Field := ⟨4, 1, 0⟩
/-- 00 R2. -/
def GLB_MODES_RELAXED : Field := ⟨5, 1, 0⟩
/-- 00 R2. -/
def GLB_MODES_STAGGER : Field := ⟨6, 1, 0⟩
/-- 00 R2. -/
def GLB_MODES_BENCH : Field := ⟨7, 1, 0⟩
/-- 00 R2. -/
def GLB_MODES_LATCHED : Field := ⟨8, 1, 0⟩
/-- 00 R2. -/
def GLB_FW_VERSION_VERSION : Field := ⟨9, 32, 0⟩
/-- 02 R37. -/
def TWR_STATUS_LAYER_RST : Field := ⟨10, 8, 0xff⟩
/-- 02 R37. -/
def TWR_STATUS_PARTITION_UP : Field := ⟨11, 1, 0⟩
/-- 02 R37. -/
def TWR_STATUS_SPINE_OK : Field := ⟨12, 1, 0⟩
/-- 02 R37. -/
def TWR_STATUS_PLL_LOCK : Field := ⟨13, 1, 0⟩
/-- 02 R37. -/
def TWR_STATUS_PLL_STANDBY_OK : Field := ⟨14, 1, 0⟩
/-- 02 R37. -/
def TWR_RESET_LAYER_REQ : Field := ⟨15, 8, 0⟩
/-- 02 R37. -/
def TWR_RESET_PARTITION_REQ : Field := ⟨16, 1, 0⟩
/-- 02 R37. -/
def TWR_RESET_KEY : Field := ⟨17, 16, 0⟩
/-- 02 R38. -/
def TWR_RESEND_COUNT : Field := ⟨18, 64, 0⟩
/-- 02 R38. -/
def TWR_LOST_COUNT : Field := ⟨19, 32, 0⟩
/-- 02 R38. -/
def TWR_XING_DEPTH : Field := ⟨20, 28, 0⟩
/-- 02 R38. -/
def TWR_AGE_MAX_AGE : Field := ⟨21, 8, 0⟩
/-- 02 R38. -/
def TWR_AGE_MIN_MARGIN : Field := ⟨22, 8, 0xff⟩
/-- 03 R81. -/
def ARR_CFG_FAULT_LIMIT : Field := ⟨23, 3, 4⟩
/-- 03 R81. -/
def ARR_CFG_WINDOW : Field := ⟨24, 2, 0⟩
/-- 03 R82. -/
def ARR_STATUS_BUSY : Field := ⟨25, 1, 0⟩
/-- 03 R82. -/
def ARR_STATUS_FINDER : Field := ⟨26, 1, 0⟩
/-- 03 R82. -/
def ARR_STATUS_HELD : Field := ⟨27, 1, 0⟩
/-- 03 R82. -/
def ARR_STATUS_RERUN : Field := ⟨28, 1, 0⟩
/-- 03 R82. -/
def ARR_STATUS_HALF : Field := ⟨29, 1, 0⟩
/-- 03 R82. -/
def ARR_STATUS_CHAIN : Field := ⟨30, 1, 0⟩
/-- 03 R82. -/
def ARR_STATUS_SHUTTERED : Field := ⟨31, 1, 0⟩
/-- 03 R82. -/
def ARR_SPARE_SPARE_A : Field := ⟨32, 4, 0⟩
/-- 03 R82. -/
def ARR_SPARE_SPARE_B : Field := ⟨33, 4, 0⟩
/-- 03 R82. -/
def ARR_SPARE_SPARE_C : Field := ⟨34, 4, 0⟩
/-- 03 R82. -/
def ARR_SPARE_SPARE_D : Field := ⟨35, 4, 0⟩
/-- 03 R82. -/
def ARR_PASS_COUNT : Field := ⟨36, 64, 0⟩
/-- 03 R82. -/
def ARR_STREAM_COUNT : Field := ⟨37, 64, 0⟩
/-- 03 R82. -/
def ARR_WAIT_COUNT : Field := ⟨38, 64, 0⟩
/-- 03 R82. -/
def FND_STREAM_COUNT : Field := ⟨39, 64, 0⟩
/-- 03 R82. -/
def ARR_FAULTS_RERUNS : Field := ⟨40, 16, 0⟩
/-- 03 R82. -/
def ARR_FAULTS_IN_WINDOW : Field := ⟨41, 8, 0⟩
/-- 03 R82. -/
def ARR_CAPTURE_CODE : Field := ⟨42, 8, 0⟩
/-- 03 R82. -/
def ARR_CAPTURE_ARRAY : Field := ⟨43, 2, 0⟩
/-- 03 R82. -/
def ARR_CAPTURE_FINDER : Field := ⟨44, 1, 0⟩
/-- 03 R82. -/
def ARR_CAPTURE_VALID : Field := ⟨45, 1, 0⟩
/-- 03 R82. -/
def ARR_CAPTURE_PASS : Field := ⟨46, 16, 0⟩
/-- 03 R82. -/
def ARR_OPIDX_OP_INDEX : Field := ⟨47, 16, 0⟩
/-- 04 R108. -/
def FIN_WATCH_BASE : Field := ⟨48, 14, 0⟩
/-- 04 R108. -/
def FIN_WATCH_LIMIT : Field := ⟨49, 14, 0⟩
/-- 04 R108. -/
def FIN_WATCH_ENABLE : Field := ⟨50, 1, 0⟩
/-- 04 R108. -/
def FIN_STEP_NONFINITE_WATCHED : Field := ⟨51, 1, 0⟩
/-- 04 R108. -/
def FIN_STEP_NONFINITE_ANY : Field := ⟨52, 1, 0⟩
/-- 04 R108. -/
def FIN_STEP_SAT_ANY : Field := ⟨53, 1, 0⟩
/-- 04 R108. -/
def FIN_STEP_NAN_IN : Field := ⟨54, 1, 0⟩
/-- 04 R108. -/
def FIN_STEP_POISON_OUT : Field := ⟨55, 1, 0⟩
/-- 04 R108. -/
def FIN_NAN_OUT_COUNT : Field := ⟨56, 32, 0⟩
/-- 04 R108. -/
def FIN_INF_OUT_COUNT : Field := ⟨57, 32, 0⟩
/-- 04 R108. -/
def FIN_SAT_COUNT : Field := ⟨58, 32, 0⟩
/-- 04 R108. -/
def FIN_NAN_IN_COUNT : Field := ⟨59, 32, 0⟩
/-- 04 R108. -/
def FIN_POISON_OUT_COUNT : Field := ⟨60, 32, 0⟩
/-- 05 R142. -/
def EPH_MODE_RELAXED : Field := ⟨61, 1, 0⟩
/-- 05 R142. -/
def EPOCH_BASE_TIME : Field := ⟨62, 64, 0⟩
/-- 05 R142. -/
def EPOCH_PERIOD_PERIOD : Field := ⟨63, 32, 0⟩
/-- 05 R142. -/
def STALL_LIMIT_LIMIT : Field := ⟨64, 16, 0x1388⟩
/-- 05 R142. -/
def SEG_CYCLE_CYCLE : Field := ⟨65, 32, 0⟩
/-- 05 R142. -/
def SEG_STEP_STEP : Field := ⟨66, 64, 0⟩
/-- 05 R142. -/
def PAUSE_STATUS_DUTY : Field := ⟨67, 4, 0⟩
/-- 05 R142. -/
def PAUSE_STATUS_THERMAL_REQ : Field := ⟨68, 4, 0⟩
/-- 05 R142. -/
def PAUSE_STATUS_POWER_REQ : Field := ⟨69, 4, 0⟩
/-- 05 R142. -/
def PAUSE_STATUS_FW_REQ : Field := ⟨70, 4, 0⟩
/-- 05 R142. -/
def PAUSE_SLOTS_COUNT : Field := ⟨71, 64, 0⟩
/-- 05 R142. -/
def STALL_CYCLES_COUNT : Field := ⟨72, 64, 0⟩
/-- 05 R142. -/
def OVERRUN_COUNT_COUNT : Field := ⟨73, 32, 0⟩
/-- 05 R142. -/
def OVERRUN_CAPTURE_TILE : Field := ⟨74, 9, 0⟩
/-- 05 R142. -/
def OVERRUN_CAPTURE_JOIN : Field := ⟨75, 1, 0⟩
/-- 05 R142. -/
def OVERRUN_CAPTURE_VALID : Field := ⟨76, 1, 0⟩
/-- 05 R142. -/
def OVERRUN_CAPTURE_XDESC : Field := ⟨77, 16, 0⟩
/-- 05 R142. -/
def EPH_BASE_BASE : Field := ⟨78, 24, 0⟩
/-- 05 R142. -/
def EPH_LEN_COUNT : Field := ⟨79, 17, 0⟩
/-- 05 R142. -/
def EPH_ADESC_BASE : Field := ⟨80, 24, 0⟩
/-- 05 R142. -/
def EPH_XDESC_BASE : Field := ⟨81, 24, 0⟩
/-- 05 R142. -/
def EPH_PC_PC : Field := ⟨82, 16, 0⟩
/-- 05 R142. -/
def EPH_PC_IN_SEGMENT : Field := ⟨83, 1, 0⟩
/-- 05 R142. -/
def EPH_STATUS_HELD : Field := ⟨84, 1, 0⟩
/-- 05 R142. -/
def EPH_STATUS_CAUSE_HERE : Field := ⟨85, 1, 0⟩
/-- 05 R142. -/
def EPH_STATUS_CAUSE : Field := ⟨86, 3, 0⟩
/-- 05 R142. -/
def EPH_OUTSTANDING_TRANSFERS : Field := ⟨87, 7, 0⟩
/-- 05 R142. -/
def EPH_OUTSTANDING_TASKS : Field := ⟨88, 5, 0⟩
/-- 05 R142. -/
def EPH_LATE_MAX_CYCLES : Field := ⟨89, 32, 0⟩
/-- 06 R185. -/
def LANE_TTAB_BASE : Field := ⟨90, 24, 0⟩
/-- 06 R185. -/
def LANE_CFG_BAR_LOG2 : Field := ⟨91, 5, 0x16⟩
/-- 06 R185. -/
def LANE_CFG_PEND_ETA : Field := ⟨92, 8, 8⟩
/-- 06 R185. -/
def LANE_STATUS_RESIDENT : Field := ⟨93, 6, 0⟩
/-- 06 R185. -/
def LANE_STATUS_ACTIVE : Field := ⟨94, 3, 0⟩
/-- 06 R185. -/
def LANE_STATUS_TASKS : Field := ⟨95, 5, 0⟩
/-- 06 R185. -/
def LANE_STATUS_FRAG : Field := ⟨96, 1, 0⟩
/-- 06 R185. -/
def LANE_STATUS_HALTED : Field := ⟨97, 1, 0⟩
/-- 06 R185. -/
def LANE_ISSUE_COUNT : Field := ⟨98, 64, 0⟩
/-- 06 R185. -/
def LANE_DUAL_COUNT : Field := ⟨99, 64, 0⟩
/-- 06 R185. -/
def LANE_HIT_COUNT : Field := ⟨100, 32, 0⟩
/-- 06 R185. -/
def LANE_MISS_COUNT : Field := ⟨101, 32, 0⟩
/-- 06 R185. -/
def LANE_FAULT_CODE : Field := ⟨102, 8, 0⟩
/-- 06 R185. -/
def LANE_FAULT_GROUP : Field := ⟨103, 5, 0⟩
/-- 06 R185. -/
def LANE_FAULT_LANE : Field := ⟨104, 5, 0⟩
/-- 06 R185. -/
def LANE_FAULT_VALID : Field := ⟨105, 1, 0⟩
/-- 06 R185. -/
def LANE_FAULT_PC_PC : Field := ⟨106, 24, 0⟩
/-- 06 R185. -/
def DBG_CTL_GROUP : Field := ⟨107, 5, 0⟩
/-- 06 R185. -/
def DBG_CTL_HALT : Field := ⟨108, 1, 0⟩
/-- 06 R185. -/
def DBG_CTL_STEP : Field := ⟨109, 1, 0⟩
/-- 06 R185. -/
def DBG_CTL_RESUME : Field := ⟨110, 1, 0⟩
/-- 06 R185. -/
def DBG_CTL_KEY : Field := ⟨111, 16, 0⟩
/-- 06 R185. -/
def DBG_STATE_HALTED : Field := ⟨112, 1, 0⟩
/-- 06 R185. -/
def DBG_STATE_STEP_BUSY : Field := ⟨113, 1, 0⟩
/-- 06 R185. -/
def DBG_STATE_DEPTH : Field := ⟨114, 5, 0⟩
/-- 06 R185. -/
def DBG_PC_PC : Field := ⟨115, 24, 0⟩
/-- 06 R185. -/
def DBG_MASK_MASK : Field := ⟨116, 32, 0⟩
/-- 06 R185. -/
def DBG_SEL_REG : Field := ⟨117, 6, 0⟩
/-- 06 R185. -/
def DBG_SEL_LANE : Field := ⟨118, 5, 0⟩
/-- 06 R185. -/
def DBG_SEL_FILE : Field := ⟨119, 2, 0⟩
/-- 06 R185. -/
def DBG_SEL_POISON : Field := ⟨120, 1, 0⟩
/-- 06 R185. -/
def DBG_DATA_DATA : Field := ⟨121, 32, 0⟩
/-- 07 R240. -/
def SLC_CFG_CARVE : Field := ⟨122, 3, 0⟩
/-- 07 R240. -/
def SLC_CFG_PIN_CAP : Field := ⟨123, 3, 4⟩
/-- 07 R240. -/
def SLC_CFG_THRASH_LIMIT : Field := ⟨124, 8, 0xc0⟩
/-- 07 R240. -/
def SLC_CFG_STREAK_WINDOW : Field := ⟨125, 6, 0x20⟩
/-- 07 R240. -/
def SLC_STATUS_CACHE_WAYS : Field := ⟨126, 5, 0x10⟩
/-- 07 R240. -/
def SLC_STATUS_PINNED_MAX : Field := ⟨127, 5, 0⟩
/-- 07 R240. -/
def SLC_STATUS_WINDOW_USED : Field := ⟨128, 7, 0⟩
/-- 07 R240. -/
def SLC_STATUS_FOLDED : Field := ⟨129, 1, 0⟩
/-- 07 R240. -/
def SLC_STATUS_SERVING : Field := ⟨130, 1, 0⟩
/-- 07 R240. -/
def SLC_STATUS_SHUTTERED : Field := ⟨131, 1, 0⟩
/-- 07 R240. -/
def SLC_STATUS_OVF_ACTIVE : Field := ⟨132, 1, 0⟩
/-- 07 R240. -/
def SLC_HIT_COUNT : Field := ⟨133, 64, 0⟩
/-- 07 R240. -/
def SLC_MISS_COUNT : Field := ⟨134, 64, 0⟩
/-- 07 R240. -/
def SLC_COADD_COUNT : Field := ⟨135, 64, 0⟩
/-- 07 R240. -/
def SLC_OVF_COUNT : Field := ⟨136, 32, 0⟩
/-- 07 R240. -/
def SLC_STREAK_COUNT : Field := ⟨137, 32, 0⟩
/-- 07 R240. -/
def SLC_THRASH_COUNT : Field := ⟨138, 32, 0⟩
/-- 07 R240. -/
def SLC_FIN_NONFINITE_COADD : Field := ⟨139, 1, 0⟩
/-- 07 R240. -/
def SLC_FIN_NONFINITE_ANY : Field := ⟨140, 1, 0⟩
/-- 07 R240. -/
def SLC_FIN_SAT_ANY : Field := ⟨141, 1, 0⟩
/-- 07 R240. -/
def SLC_FIN_COUNT_COUNT : Field := ⟨142, 32, 0⟩
/-- 07 R240. -/
def SLC_UPD_COUNT : Field := ⟨143, 64, 0⟩
/-- 07 R240. -/
def SLC_CAPTURE_CODE : Field := ⟨144, 8, 0⟩
/-- 07 R240. -/
def SLC_CAPTURE_VALID : Field := ⟨145, 1, 0⟩
/-- 07 R240. -/
def SLC_CAPTURE_LINE_LINE : Field := ⟨146, 32, 0⟩
/-- 08 R265. -/
def MEM_CFG_TYPE : Field := ⟨147, 1, 0⟩
/-- 08 R265. -/
def MEM_CFG_RATE : Field := ⟨148, 2, 0⟩
/-- 08 R265. -/
def MEM_CFG_PKG : Field := ⟨149, 2, 0⟩
/-- 08 R265. -/
def MEM_CFG_RANKS : Field := ⟨150, 1, 0⟩
/-- 08 R265. -/
def MEM_CFG_CH_RESERVE : Field := ⟨151, 2, 0⟩
/-- 08 R265. -/
def MCH_STATUS_STATE : Field := ⟨152, 3, 0⟩
/-- 08 R265. -/
def MCH_STATUS_TRAIN : Field := ⟨153, 3, 0⟩
/-- 08 R265. -/
def MCH_STATUS_TEMP : Field := ⟨154, 2, 0⟩
/-- 08 R265. -/
def MCH_STATUS_SPREAD : Field := ⟨155, 1, 0⟩
/-- 08 R265. -/
def MCH_STATUS_SPREAD_IN : Field := ⟨156, 6, 0⟩
/-- 08 R265. -/
def MCH_DERATE_FACTOR : Field := ⟨157, 9, 0xe1⟩
/-- 08 R265. -/
def MCH_MARGIN_READ_EYE : Field := ⟨158, 8, 0⟩
/-- 08 R265. -/
def MCH_MARGIN_WRITE_EYE : Field := ⟨159, 8, 0⟩
/-- 08 R265. -/
def MCH_RD_COUNT : Field := ⟨160, 64, 0⟩
/-- 08 R265. -/
def MCH_WR_COUNT : Field := ⟨161, 64, 0⟩
/-- 08 R265. -/
def MCH_CAPTURE_CODE : Field := ⟨162, 8, 0⟩
/-- 08 R265. -/
def MCH_CAPTURE_VALID : Field := ⟨163, 1, 0⟩
/-- 08 R265. -/
def LAMP_CTL_START : Field := ⟨164, 1, 0⟩
/-- 08 R265. -/
def LAMP_CTL_STOP : Field := ⟨165, 1, 0⟩
/-- 08 R265. -/
def LAMP_CTL_KEY : Field := ⟨166, 16, 0⟩
/-- 08 R265. -/
def LAMP_PAT_PATTERN : Field := ⟨167, 3, 0⟩
/-- 08 R265. -/
def LAMP_PAT_SEED : Field := ⟨168, 24, 1⟩
/-- 08 R265. -/
def LAMP_MIX_MODE : Field := ⟨169, 1, 0⟩
/-- 08 R265. -/
def LAMP_MIX_RD_GROUP : Field := ⟨170, 8, 2⟩
/-- 08 R265. -/
def LAMP_MIX_WR_GROUP : Field := ⟨171, 8, 1⟩
/-- 08 R265. -/
def LAMP_MIX_BANK_MODE : Field := ⟨172, 2, 0⟩
/-- 08 R265. -/
def LAMP_MIX_BANK : Field := ⟨173, 4, 0⟩
/-- 08 R265. -/
def LAMP_BASE_PAGES : Field := ⟨174, 24, 0⟩
/-- 08 R265. -/
def LAMP_LEN_PAGES : Field := ⟨175, 24, 0⟩
/-- 08 R265. -/
def LAMP_PASSES_COUNT : Field := ⟨176, 16, 1⟩
/-- 08 R265. -/
def LAMP_STATUS_BUSY : Field := ⟨177, 1, 0⟩
/-- 08 R265. -/
def LAMP_STATUS_DONE : Field := ⟨178, 1, 0⟩
/-- 08 R265. -/
def LAMP_STATUS_ERR : Field := ⟨179, 1, 0⟩
/-- 08 R265. -/
def LAMP_STATUS_PASS : Field := ⟨180, 16, 0⟩
/-- 08 R265. -/
def LAMP_WORDS_COUNT : Field := ⟨181, 32, 0⟩
/-- 08 R265. -/
def LAMP_TIME_COUNT : Field := ⟨182, 32, 0⟩
/-- 08 R265. -/
def LAMP_MISM_COUNT : Field := ⟨183, 32, 0⟩
/-- 08 R265. -/
def LAMP_CORR_COUNT : Field := ⟨184, 32, 0⟩
/-- 08 R265. -/
def LAMP_UNCORR_COUNT : Field := ⟨185, 32, 0⟩
/-- 08 R265. -/
def LAMP_FAIL_PAGE_PAGE : Field := ⟨186, 24, 0⟩
/-- 08 R265. -/
def LAMP_FAIL_PAGE_WORD : Field := ⟨187, 7, 0⟩
/-- 08 R265. -/
def LAMP_FAIL_DQ_DQ : Field := ⟨188, 24, 0⟩
/-- 08 R265. -/
def LAMP_USER_DATA : Field := ⟨189, 32, 0⟩
/-- 09 R282. -/
def BND_CTL_LREF : Field := ⟨190, 12, 0x190⟩
/-- 09 R282. -/
def BND_CTL_ETA_DELAY : Field := ⟨191, 6, 0x10⟩
/-- 09 R282. -/
def BND_MARKS_SL_HIGH : Field := ⟨192, 8, 0x60⟩
/-- 09 R282. -/
def BND_MARKS_SL_LOW : Field := ⟨193, 8, 0x30⟩
/-- 09 R282. -/
def BND_MARKS_CH_HIGH : Field := ⟨194, 8, 0x30⟩
/-- 09 R282. -/
def BND_MARKS_CH_LOW : Field := ⟨195, 8, 0x18⟩
/-- 09 R283. -/
def BND_SCALE_FACTOR : Field := ⟨196, 9, 0x100⟩
/-- 09 R283. -/
def BND_WORST_INDEX : Field := ⟨197, 8, 0⟩
/-- 09 R283. -/
def BND_WORST_KIND : Field := ⟨198, 1, 0⟩
/-- 09 R283. -/
def BND_SCALED_COUNT : Field := ⟨199, 32, 0⟩
/-- 09 R283. -/
def BND_CONG_COUNT : Field := ⟨200, 64, 0⟩
/-- 09 R283. -/
def BND_GUAR_RATE : Field := ⟨201, 16, 0⟩
/-- 09 R283. -/
def BND_GUAR_SCOPE : Field := ⟨202, 3, 0⟩
/-- 09 R283. -/
def BND_QUOTA_GQ : Field := ⟨203, 10, 0⟩
/-- 09 R283. -/
def BND_QUOTA_SQ : Field := ⟨204, 10, 0x40⟩
/-- 10 R308. -/
def SCRUB_CFG_THRESH : Field := ⟨205, 4, 2⟩
/-- 10 R308. -/
def SCRUB_CFG_SRAM_PERIOD : Field := ⟨206, 8, 0x3c⟩
/-- 10 R308. -/
def SCRUB_CFG_DRAM_PERIOD : Field := ⟨207, 8, 0x18⟩
/-- 10 R308. -/
def SCRUB_CFG_ENABLE : Field := ⟨208, 1, 1⟩
/-- 10 R309. -/
def CHK_CTL_OP : Field := ⟨209, 3, 0⟩
/-- 10 R309. -/
def CHK_CTL_KEY : Field := ⟨210, 16, 0⟩
/-- 10 R309. -/
def CHK_ADDR_ADDR : Field := ⟨211, 64, 0⟩
/-- 10 R309. -/
def CHK_DATA_DATA : Field := ⟨212, 32, 0⟩
/-- 10 R309. -/
def CHK_SIDE_CHECK : Field := ⟨213, 16, 0⟩
/-- 10 R309. -/
def CHK_SIDE_POISON : Field := ⟨214, 1, 0⟩
/-- 10 R309. -/
def CHK_SIDE_PAGE_BITS : Field := ⟨215, 2, 0⟩
/-- 10 R309. -/
def CHK_RESULT_OUTCOME : Field := ⟨216, 2, 0⟩
/-- 10 R309. -/
def CHK_RESULT_POSITION : Field := ⟨217, 6, 0⟩
/-- 10 R309. -/
def CHK_RESULT_DONE : Field := ⟨218, 1, 0⟩
/-- 10 R309. -/
def CHK_RESULT_RECOVERED : Field := ⟨219, 1, 0⟩
/-- 10 R309. -/
def PROT_CORR_T_COUNT : Field := ⟨220, 32, 0⟩
/-- 10 R309. -/
def PROT_RECOVERED_T_COUNT : Field := ⟨221, 32, 0⟩
/-- 10 R309. -/
def PROT_UNRECOVERED_T_COUNT : Field := ⟨222, 32, 0⟩
/-- 10 R309. -/
def PROT_SCRUBBED_T_COUNT : Field := ⟨223, 32, 0⟩
/-- 10 R309. -/
def PROT_CORR_S_COUNT : Field := ⟨224, 32, 0⟩
/-- 10 R309. -/
def PROT_RECOVERED_S_COUNT : Field := ⟨225, 32, 0⟩
/-- 10 R309. -/
def PROT_UNRECOVERED_S_COUNT : Field := ⟨226, 32, 0⟩
/-- 10 R309. -/
def PROT_SCRUBBED_S_COUNT : Field := ⟨227, 32, 0⟩
/-- 10 R309. -/
def PROT_CORR_M_COUNT : Field := ⟨228, 32, 0⟩
/-- 10 R309. -/
def PROT_RECOVERED_M_COUNT : Field := ⟨229, 32, 0⟩
/-- 10 R309. -/
def PROT_UNRECOVERED_M_COUNT : Field := ⟨230, 32, 0⟩
/-- 10 R309. -/
def PROT_SCRUBBED_M_COUNT : Field := ⟨231, 32, 0⟩
/-- 10 R309. -/
def PROT_CAPTURE_T_CODE : Field := ⟨232, 8, 0⟩
/-- 10 R309. -/
def PROT_CAPTURE_T_VALID : Field := ⟨233, 1, 0⟩
/-- 10 R309. -/
def PROT_CAPTURE_S_CODE : Field := ⟨234, 8, 0⟩
/-- 10 R309. -/
def PROT_CAPTURE_S_VALID : Field := ⟨235, 1, 0⟩
/-- 10 R309. -/
def PROT_CAPTURE_M_CODE : Field := ⟨236, 8, 0⟩
/-- 10 R309. -/
def PROT_CAPTURE_M_VALID : Field := ⟨237, 1, 0⟩
/-- 10 R309. -/
def PROT_CAPTURE_PAGE_T_PAGE : Field := ⟨238, 32, 0⟩
/-- 10 R309. -/
def PROT_SCRUB_POS_T_PAGE : Field := ⟨239, 32, 0⟩
/-- 10 R309. -/
def PROT_CAPTURE_PAGE_S_PAGE : Field := ⟨240, 32, 0⟩
/-- 10 R309. -/
def PROT_SCRUB_POS_S_PAGE : Field := ⟨241, 32, 0⟩
/-- 10 R309. -/
def PROT_CAPTURE_PAGE_M_PAGE : Field := ⟨242, 32, 0⟩
/-- 10 R309. -/
def PROT_SCRUB_POS_M_PAGE : Field := ⟨243, 32, 0⟩
/-- 11 R357. -/
def TIME_NOW_TIME : Field := ⟨244, 64, 0⟩
/-- 11 R357. -/
def TIME_STATUS_SYNCE_LOCKED : Field := ⟨245, 1, 0⟩
/-- 11 R357. -/
def TIME_STATUS_PTP_LOCKED : Field := ⟨246, 1, 0⟩
/-- 11 R357. -/
def TIME_STATUS_ALIGNED : Field := ⟨247, 1, 0⟩
/-- 11 R357. -/
def TIME_STATUS_HOLDOVER : Field := ⟨248, 1, 0⟩
/-- 11 R357. -/
def TIME_STATUS_SYNCE_PORT : Field := ⟨249, 8, 0⟩
/-- 11 R357. -/
def TIME_STATUS_PTP_PORT : Field := ⟨250, 8, 0⟩
/-- 11 R357. -/
def TIME_OFFSET_OFFSET : Field := ⟨251, 32, 0⟩
/-- 11 R357. -/
def CKPT_STATUS_WRITING : Field := ⟨252, 1, 0⟩
/-- 11 R357. -/
def CKPT_STATUS_SLOT : Field := ⟨253, 1, 0⟩
/-- 11 R357. -/
def CKPT_STEP_STEP : Field := ⟨254, 64, 0⟩
/-- 11 R357. -/
def LOADER_STATUS_AHEAD : Field := ⟨255, 5, 0⟩
/-- 11 R357. -/
def PRT_CFG_WIDTH : Field := ⟨256, 2, 0⟩
/-- 11 R357. -/
def PRT_CFG_MIN_LANES : Field := ⟨257, 2, 0⟩
/-- 11 R357. -/
def PRT_CFG_ENABLE : Field := ⟨258, 1, 0⟩
/-- 11 R357. -/
def PRT_CFG_MACSEC : Field := ⟨259, 1, 0⟩
/-- 11 R357. -/
def PRT_CFG_RESEND_MAX : Field := ⟨260, 3, 4⟩
/-- 11 R357. -/
def PRT_STATUS_STATE : Field := ⟨261, 3, 0⟩
/-- 11 R357. -/
def PRT_STATUS_WIDTH_UP : Field := ⟨262, 2, 0⟩
/-- 11 R357. -/
def PRT_STATUS_HELD : Field := ⟨263, 3, 0⟩
/-- 11 R357. -/
def PRT_STATUS_PRESENT : Field := ⟨264, 1, 0⟩
/-- 11 R357. -/
def PRT_STATUS_DETOUR : Field := ⟨265, 1, 0⟩
/-- 11 R357. -/
def PRT_LANES_TRAINED : Field := ⟨266, 8, 0⟩
/-- 11 R357. -/
def PRT_LANES_FAILED : Field := ⟨267, 8, 0⟩
/-- 11 R357. -/
def PRT_FEC_CORR_COUNT : Field := ⟨268, 64, 0⟩
/-- 11 R357. -/
def PRT_BLK_TX_COUNT : Field := ⟨269, 64, 0⟩
/-- 11 R357. -/
def PRT_BLK_RX_COUNT : Field := ⟨270, 64, 0⟩
/-- 11 R357. -/
def PRT_FEC_UNCORR_COUNT : Field := ⟨271, 32, 0⟩
/-- 11 R357. -/
def PRT_NAK_TX_COUNT : Field := ⟨272, 32, 0⟩
/-- 11 R357. -/
def PRT_NAK_RX_COUNT : Field := ⟨273, 32, 0⟩
/-- 11 R357. -/
def PRT_RESENT_COUNT : Field := ⟨274, 32, 0⟩
/-- 11 R357. -/
def PRT_DROP_COUNT : Field := ⟨275, 32, 0⟩
/-- 11 R357. -/
def PRT_REPLAY_USED : Field := ⟨276, 12, 0⟩
/-- 11 R357. -/
def PRT_REPLAY_PEAK : Field := ⟨277, 12, 0⟩
/-- 11 R357. -/
def PRT_CAPTURE_CODE : Field := ⟨278, 8, 0⟩
/-- 11 R357. -/
def PRT_CAPTURE_VALID : Field := ⟨279, 1, 0⟩
/-- 11 R357. -/
def PRT_CAPTURE_STREAM : Field := ⟨280, 16, 0⟩
/-- 12 R395. -/
def MER_PHASE_PHASE : Field := ⟨281, 3, 0⟩
/-- 12 R395. -/
def MER_PHASE_GATE : Field := ⟨282, 2, 0⟩
/-- 12 R395. -/
def MER_PHASE_LEVEL : Field := ⟨283, 3, 0⟩
/-- 12 R395. -/
def MER_PHASE_ROOT : Field := ⟨284, 1, 0⟩
/-- 12 R395. -/
def MER_STEP_STEP : Field := ⟨285, 64, 0⟩
/-- 12 R395. -/
def MER_ATTEMPT_ATTEMPT : Field := ⟨286, 16, 0⟩
/-- 12 R395. -/
def MER_VERDICT_WORD : Field := ⟨287, 32, 0⟩
/-- 12 R395. -/
def MER_RESULT_WORD : Field := ⟨288, 32, 0⟩
/-- 12 R395. -/
def MER_COVERED_COVERED : Field := ⟨289, 17, 0⟩
/-- 12 R395. -/
def MER_MISSING_FIRST : Field := ⟨290, 16, 0⟩
/-- 12 R395. -/
def MER_MISSING_COUNT : Field := ⟨291, 16, 0⟩
/-- 12 R395. -/
def MER_CURSOR0_VALUE : Field := ⟨292, 32, 0⟩
/-- 12 R395. -/
def MER_CURSOR1_VALUE : Field := ⟨293, 32, 0⟩
/-- 12 R395. -/
def MER_CURSOR2_VALUE : Field := ⟨294, 32, 0⟩
/-- 12 R395. -/
def MER_LSCALE_EXP : Field := ⟨295, 8, 0⟩
/-- 12 R395. -/
def MER_LSCALE_RUN : Field := ⟨296, 16, 0⟩
/-- 12 R395. -/
def MER_POLICY_LATE : Field := ⟨297, 3, 0⟩
/-- 12 R395. -/
def MER_POLICY_NONFINITE : Field := ⟨298, 3, 2⟩
/-- 12 R395. -/
def MER_POLICY_POISON : Field := ⟨299, 3, 3⟩
/-- 12 R395. -/
def MER_POLICY_SHUTTER : Field := ⟨300, 3, 3⟩
/-- 12 R395. -/
def MER_POLICY_FAULT : Field := ⟨301, 3, 3⟩
/-- 12 R395. -/
def MER_POLICY_DAMAGE : Field := ⟨302, 3, 4⟩
/-- 12 R395. -/
def MER_POLICY_DEPART : Field := ⟨303, 3, 5⟩
/-- 12 R395. -/
def MER_POLICY_ESCALATE : Field := ⟨304, 3, 6⟩
/-- 12 R395. -/
def MER_POLICY_REPLAY_LIMIT : Field := ⟨305, 4, 3⟩
/-- 12 R395. -/
def MER_LSCFG_LS_MIN : Field := ⟨306, 8, 0⟩
/-- 12 R395. -/
def MER_LSCFG_LS_MAX : Field := ⟨307, 8, 0x18⟩
/-- 12 R395. -/
def MER_LSCFG_LS_GROWTH : Field := ⟨308, 16, 0x7d0⟩
/-- 12 R395. -/
def MER_TIMEOUT_VOTE_TIMEOUT : Field := ⟨309, 16, 0x3e8⟩
/-- 12 R395. -/
def MER_TIMEOUT_VOTE_RESEND : Field := ⟨310, 8, 0x14⟩
/-- 12 R395. -/
def MER_TIMEOUT_VOTE_HOP : Field := ⟨311, 8, 0xa⟩
/-- 12 R395. -/
def MER_BUDGET_COMMIT_BUDGET : Field := ⟨312, 24, 0⟩
/-- 12 R395. -/
def MER_CKPT_STEP : Field := ⟨313, 64, 0xffffffffffffffff⟩
/-- 12 R395. -/
def MER_COMMITS_COUNT : Field := ⟨314, 32, 0⟩
/-- 12 R395. -/
def MER_SKIPS_COUNT : Field := ⟨315, 32, 0⟩
/-- 12 R395. -/
def MER_REPLAYS_COUNT : Field := ⟨316, 32, 0⟩
/-- 12 R395. -/
def MER_ROLLBACKS_COUNT : Field := ⟨317, 32, 0⟩
/-- 12 R395. -/
def MER_VOTE_TIME_TIME : Field := ⟨318, 32, 0⟩
/-- 12 R395. -/
def MER_COMMIT_TIME_TIME : Field := ⟨319, 32, 0⟩
/-- 12 R395. -/
def MER_RECORD_PG_PAGE : Field := ⟨320, 32, 0⟩
/-- 13 R420. -/
def IMG_STATUS_STATE : Field := ⟨321, 3, 0⟩
/-- 13 R420. -/
def IMG_STATUS_KIND : Field := ⟨322, 1, 0⟩
/-- 13 R420. -/
def IMG_STATUS_ACTIVE : Field := ⟨323, 1, 0⟩
/-- 13 R420. -/
def IMG_STATUS_FROZEN : Field := ⟨324, 1, 0⟩
/-- 13 R420. -/
def IMG_REFUSAL_CODE : Field := ⟨325, 16, 0⟩
/-- 13 R420. -/
def IMG_REFUSAL_TILE : Field := ⟨326, 9, 0⟩
/-- 13 R420. -/
def IMG_REFUSAL_AT_OFFSET : Field := ⟨327, 64, 0⟩
/-- 13 R420. -/
def IMG_ACTIVE_ID_ID : Field := ⟨328, 32, 0⟩
/-- 13 R420. -/
def IMG_APPLY_STEP : Field := ⟨329, 64, 0⟩
/-- 13 R420. -/
def IMG_COVER_GRANULES : Field := ⟨330, 23, 0⟩
/-- 13 R420. -/
def IMG_DIGEST_DIGEST : Field := ⟨331, 32, 0⟩
/-- 13 R420. -/
def IMG_DELTAS_COUNT : Field := ⟨332, 32, 0⟩
/-- 14 R441. -/
def MCC_STATUS_SESSION : Field := ⟨333, 1, 0⟩
/-- 14 R441. -/
def MCC_STATUS_SECURED : Field := ⟨334, 1, 0⟩
/-- 14 R441. -/
def MCC_STATUS_BULK : Field := ⟨335, 1, 0⟩
/-- 14 R441. -/
def MCC_SESSION_ID : Field := ⟨336, 32, 0⟩
/-- 14 R441. -/
def MCC_CMDS_COUNT : Field := ⟨337, 32, 0⟩
/-- 14 R441. -/
def MCC_DUP_COUNT : Field := ⟨338, 32, 0⟩
/-- 14 R441. -/
def MCC_STALE_COUNT : Field := ⟨339, 32, 0⟩
/-- 14 R441. -/
def MCC_DROP_COUNT : Field := ⟨340, 32, 0⟩
/-- 14 R441. -/
def MCC_AUTHFAIL_COUNT : Field := ⟨341, 32, 0⟩
/-- 14 R441. -/
def RES_SEAL_SEQ_SEQ : Field := ⟨342, 32, 0⟩
/-- 14 R441. -/
def RES_SRC_PAGE : Field := ⟨343, 32, 0⟩
/-- 14 R441. -/
def RES_STORE_PAGE : Field := ⟨344, 32, 0⟩
/-- 14 R441. -/
def RES_PAGES_PAGES : Field := ⟨345, 5, 0⟩
/-- 15 R459. -/
def DEV_STATE_STATE : Field := ⟨346, 4, 2⟩
/-- 15 R459. -/
def DEV_STATE_COLD : Field := ⟨347, 1, 0⟩
/-- 15 R459. -/
def DEV_STATE_READY : Field := ⟨348, 1, 0⟩
/-- 15 R459. -/
def BOOT_T0_FIRST : Field := ⟨349, 16, 0⟩
/-- 15 R459. -/
def BOOT_T0_SECOND : Field := ⟨350, 16, 0⟩
/-- 15 R459. -/
def BOOT_T1_FIRST : Field := ⟨351, 16, 0⟩
/-- 15 R459. -/
def BOOT_T1_SECOND : Field := ⟨352, 16, 0⟩
/-- 15 R459. -/
def BOOT_CTL_COLD_NEXT : Field := ⟨353, 1, 0⟩
/-- 15 R459. -/
def BOOT_CAUSE_CODE : Field := ⟨354, 16, 0⟩
/-- 15 R459. -/
def BOOT_CAUSE_VALID : Field := ⟨355, 1, 0⟩
/-- 15 R459. -/
def DEV_SPARES_SPARES : Field := ⟨356, 20, 0⟩
/-- 15 R459. -/
def FUSE_MAP_DATA : Field := ⟨357, 32, 0⟩
/-- 16 R480. -/
def PWR_STATUS_CLOCK : Field := ⟨358, 1, 0⟩
/-- 16 R480. -/
def PWR_STATUS_FCST : Field := ⟨359, 1, 0⟩
/-- 16 R480. -/
def PWR_STATUS_PMBUS_OK : Field := ⟨360, 1, 0⟩
/-- 16 R480. -/
def PWR_STATUS_HW_REQ : Field := ⟨361, 4, 0⟩
/-- 16 R480. -/
def PWR_STATUS_CAP_REQ : Field := ⟨362, 4, 0⟩
/-- 16 R480. -/
def PWR_STATUS_WAKE_QUEUE : Field := ⟨363, 10, 0⟩
/-- 16 R480. -/
def PWR_PKG_AVG : Field := ⟨364, 12, 0⟩
/-- 16 R480. -/
def PWR_PKG_PEAK : Field := ⟨365, 12, 0⟩
/-- 16 R480. -/
def PWR_CFG_GATE_AFTER : Field := ⟨366, 8, 0x14⟩
/-- 16 R480. -/
def PWR_WAKES_COUNT : Field := ⟨367, 64, 0⟩
/-- 16 R480. -/
def PWR_SLOW_COUNT : Field := ⟨368, 32, 0⟩
/-- 16 R480. -/
def PWR_QWAIT_COUNT : Field := ⟨369, 32, 0⟩
/-- 16 R480. -/
def PWR_RAIL_SET_SET : Field := ⟨370, 10, 0⟩
/-- 16 R480. -/
def PWR_RAIL_SET_V : Field := ⟨371, 10, 0⟩
/-- 16 R480. -/
def PWR_RAIL_I_I : Field := ⟨372, 16, 0⟩
/-- 16 R480. -/
def PWR_RAIL_MIN_MIN : Field := ⟨373, 10, 0x3ff⟩
/-- 16 R480. -/
def PWR_RAIL_MIN_VALID : Field := ⟨374, 1, 0⟩
/-- 16 R480. -/
def PWR_RAIL_MINT_TIME : Field := ⟨375, 64, 0⟩
/-- 16 R480. -/
def TRIM_STATUS_STATE : Field := ⟨376, 2, 0⟩
/-- 16 R480. -/
def TRIM_STATUS_SET : Field := ⟨377, 10, 0⟩
/-- 16 R480. -/
def TRIM_STATUS_FUSE : Field := ⟨378, 4, 0⟩
/-- 16 R480. -/
def TRIM_STATUS_AGE : Field := ⟨379, 8, 0⟩
/-- 16 R480. -/
def TRIM_STATUS_QUOTA : Field := ⟨380, 8, 0x10⟩
/-- 16 R480. -/
def TRIM_I_I : Field := ⟨381, 8, 0⟩
/-- 16 R480. -/
def TRIM_I_SLOW_LAST : Field := ⟨382, 1, 0⟩
/-- 16 R480. -/
def TRIM_MIN_MIN : Field := ⟨383, 10, 0x3ff⟩
/-- 16 R480. -/
def TRIM_MIN_VALID : Field := ⟨384, 1, 0⟩
/-- 16 R480. -/
def TRIM_MINT_TIME : Field := ⟨385, 64, 0⟩
/-- 17 R503. -/
def THM_STATUS_WARN : Field := ⟨386, 3, 0⟩
/-- 17 R503. -/
def THM_STATUS_THROTTLE : Field := ⟨387, 3, 0⟩
/-- 17 R503. -/
def THM_STATUS_RATE : Field := ⟨388, 1, 0⟩
/-- 17 R503. -/
def THM_STATUS_FAST : Field := ⟨389, 1, 0⟩
/-- 17 R503. -/
def THM_STATUS_SUSPECT : Field := ⟨390, 1, 0⟩
/-- 17 R503. -/
def THM_STATUS_BROKEN : Field := ⟨391, 1, 0⟩
/-- 17 R503. -/
def THM_STATUS_LATCH_STRAP : Field := ⟨392, 1, 0⟩
/-- 17 R503. -/
def THM_STATUS_LATCH_FUSE : Field := ⟨393, 1, 0⟩
/-- 17 R503. -/
def THM_STATUS_FALLBACK_ONLY : Field := ⟨394, 1, 0⟩
/-- 17 R503. -/
def THM_CFG_THR_DOME : Field := ⟨395, 8, 0x5f⟩
/-- 17 R503. -/
def THM_CFG_THR_LOGIC : Field := ⟨396, 8, 0x5a⟩
/-- 17 R503. -/
def THM_CFG_THR_SRAM : Field := ⟨397, 8, 0x55⟩
/-- 17 R503. -/
def THM_CFG_STAGGER : Field := ⟨398, 1, 0⟩
/-- 17 R503. -/
def THM_MAX_DOME : Field := ⟨399, 8, 0⟩
/-- 17 R503. -/
def THM_MAX_LOGIC : Field := ⟨400, 8, 0⟩
/-- 17 R503. -/
def THM_MAX_SRAM : Field := ⟨401, 8, 0⟩
/-- 17 R503. -/
def THM_TRIP_SENSOR : Field := ⟨402, 11, 0⟩
/-- 17 R503. -/
def THM_TRIP_CAUSE : Field := ⟨403, 2, 0⟩
/-- 17 R503. -/
def THM_TRIP_VALID : Field := ⟨404, 1, 0⟩
/-- 17 R503. -/
def THM_TRIP_TIME_TIME : Field := ⟨405, 64, 0⟩
/-- 17 R503. -/
def THM_TRIPS_COUNT : Field := ⟨406, 32, 0⟩
/-- 17 R503. -/
def THM_THROTTLE_MS_COUNT : Field := ⟨407, 32, 0⟩
/-- 17 R503. -/
def THM_EST_EST : Field := ⟨408, 12, 0⟩
/-- 17 R503. -/
def THM_EST_SUSPECT : Field := ⟨409, 1, 0⟩
/-- 17 R503. -/
def THM_EST_FALLBACK : Field := ⟨410, 1, 0⟩
/-- 17 R503. -/
def THM_SENSOR_TEMP : Field := ⟨411, 12, 0⟩
/-- 17 R503. -/
def THM_SENSOR_STATE : Field := ⟨412, 2, 0⟩
/-- 17 R503. -/
def THM_SENSOR_FAST : Field := ⟨413, 1, 0⟩
/-- 18 R520. -/
def FLT_STATUS_WORST : Field := ⟨414, 3, 0⟩
/-- 18 R520. -/
def FLT_STATUS_ERRN : Field := ⟨415, 1, 0⟩
/-- 18 R520. -/
def FLT_STATUS_ERRN_TIMER : Field := ⟨416, 1, 0⟩
/-- 18 R520. -/
def FLT_STATUS_MGC_OK : Field := ⟨417, 1, 0⟩
/-- 18 R520. -/
def FLT_CTL_ERRN_HOLD : Field := ⟨418, 1, 0⟩
/-- 18 R520. -/
def FLT_FIRST_CODE : Field := ⟨419, 16, 0⟩
/-- 18 R520. -/
def FLT_FIRST_CLASS : Field := ⟨420, 3, 0⟩
/-- 18 R520. -/
def FLT_FIRST_ORIGIN : Field := ⟨421, 2, 0⟩
/-- 18 R520. -/
def FLT_FIRST_VALID : Field := ⟨422, 1, 0⟩
/-- 18 R520. -/
def FLT_FIRST_UNIT_UNIT : Field := ⟨423, 16, 0⟩
/-- 18 R520. -/
def FLT_FIRST_TIME_TIME : Field := ⟨424, 64, 0⟩
/-- 18 R520. -/
def FLT_HIST_HEAD_NEXT : Field := ⟨425, 6, 0⟩
/-- 18 R520. -/
def FLT_HIST_TOTAL_COUNT : Field := ⟨426, 32, 0⟩
/-- 18 R520. -/
def FLT_SUPPRESSED_COUNT : Field := ⟨427, 32, 0⟩
/-- 18 R520. -/
def FLT_COUNT_COUNT : Field := ⟨428, 32, 0⟩
/-- 18 R520. -/
def FLT_WDOG_KEY : Field := ⟨429, 16, 0⟩
/-- 18 R520. -/
def FLT_MGC_RESTARTS : Field := ⟨430, 8, 0⟩
/-- 18 R520. -/
def FLT_MGC_FAILED : Field := ⟨431, 1, 0⟩
/-- 18 R520. -/
def FLT_SELF_VALID : Field := ⟨432, 1, 0⟩
/-- 18 R520. -/
def FLT_SELF_COMPARE : Field := ⟨433, 1, 0⟩
/-- 18 R520. -/
def FLT_SELF_PARITY : Field := ⟨434, 1, 0⟩
/-- 18 R520. -/
def FLT_HIST_TIME_LO : Field := ⟨435, 32, 0⟩
/-- 18 R520. -/
def FLT_HIST_TIME_HI : Field := ⟨436, 32, 0⟩
/-- 18 R520. -/
def FLT_HIST_CODE : Field := ⟨437, 16, 0⟩
/-- 18 R520. -/
def FLT_HIST_CLASS : Field := ⟨438, 3, 0⟩
/-- 18 R520. -/
def FLT_HIST_ORIGIN : Field := ⟨439, 2, 0⟩
/-- 18 R520. -/
def FLT_HIST_UNIT : Field := ⟨440, 16, 0⟩
/-- 18 R520. -/
def FLT_SHUT_TILE : Field := ⟨441, 1, 0⟩
/-- 18 R520. -/
def FLT_SHUTS_TILE : Field := ⟨442, 32, 0⟩
/-- 18 R520. -/
def FLT_SHUT_SLICE : Field := ⟨443, 1, 0⟩
/-- 18 R520. -/
def FLT_SHUTS_SLICE : Field := ⟨444, 32, 0⟩
/-- 18 R520. -/
def FLT_SHUT_CHANNEL : Field := ⟨445, 1, 0⟩
/-- 18 R520. -/
def FLT_SHUTS_CHANNEL : Field := ⟨446, 32, 0⟩
/-- 18 R520. -/
def FLT_SHUT_PORT : Field := ⟨447, 1, 0⟩
/-- 18 R520. -/
def FLT_SHUTS_PORT : Field := ⟨448, 32, 0⟩
/-- 18 R520. -/
def FLT_SHUT_LANE : Field := ⟨449, 1, 0⟩
/-- 18 R520. -/
def FLT_SHUTS_LANE : Field := ⟨450, 32, 0⟩
/-- 19 R549. -/
def SEC_STATUS_ROLLBACK : Field := ⟨451, 8, 0⟩
/-- 19 R549. -/
def SEC_STATUS_SVN : Field := ⟨452, 8, 0⟩
/-- 19 R549. -/
def SEC_STATUS_POLICY_LOCK : Field := ⟨453, 1, 0⟩
/-- 19 R549. -/
def SEC_STATUS_IMG_SIG : Field := ⟨454, 1, 0⟩
/-- 19 R549. -/
def SEC_STATUS_CTRL_AUTH : Field := ⟨455, 1, 0⟩
/-- 19 R549. -/
def SEC_STATUS_OWNER : Field := ⟨456, 1, 0⟩
/-- 19 R549. -/
def SEC_STATUS_NETBOOT : Field := ⟨457, 1, 0⟩
/-- 19 R549. -/
def SEC_STATUS_ROOT_SLOT : Field := ⟨458, 1, 0⟩
/-- 19 R549. -/
def SEC_STATUS_FW_PENDING : Field := ⟨459, 1, 0⟩
/-- 19 R549. -/
def SEC_FW_DIGEST_DIGEST : Field := ⟨460, 32, 0⟩
/-- 19 R549. -/
def SEC_OWNER_DIGEST_DIGEST : Field := ⟨461, 32, 0⟩
/-- 19 R549. -/
def LOG_STATUS_PRESENT : Field := ⟨462, 1, 0⟩
/-- 19 R549. -/
def LOG_STATUS_WRITABLE : Field := ⟨463, 1, 0⟩
/-- 19 R549. -/
def LOG_STATUS_COMPACTING : Field := ⟨464, 1, 0⟩
/-- 19 R549. -/
def LOG_STATUS_FILL : Field := ⟨465, 8, 0⟩
/-- 19 R549. -/
def LOG_STATUS_BLOCKS : Field := ⟨466, 16, 0⟩
/-- 19 R549. -/
def LOG_SEQ_SEQ : Field := ⟨467, 64, 0⟩
/-- 19 R549. -/
def LOG_PENDING_DEVICE : Field := ⟨468, 16, 0⟩
/-- 19 R549. -/
def LOG_PENDING_SERVICE : Field := ⟨469, 16, 0⟩
/-- 20 R574. -/
def PIN_STATUS_THERM_LATCH : Field := ⟨470, 1, 0⟩
/-- 20 R574. -/
def PIN_STATUS_BTN : Field := ⟨471, 1, 0⟩
/-- 20 R574. -/
def PIN_STATUS_DRAIN_REQ : Field := ⟨472, 1, 0⟩
/-- 20 R574. -/
def PIN_STATUS_ERRN_PIN : Field := ⟨473, 1, 0⟩
/-- 20 R574. -/
def PIN_STATUS_THERMTRIP_PIN : Field := ⟨474, 1, 0⟩
/-- 20 R574. -/
def PIN_STATUS_SYNCE_OUT_ON : Field := ⟨475, 1, 0⟩
/-- 20 R574. -/
def PIN_PRESENT_PRESENT : Field := ⟨476, 64, 0⟩
/-- 20 R574. -/
def LED_CTL_LOCATE : Field := ⟨477, 1, 0⟩

end Sys2Proof.Machine.F
end

