-- ==== Sys2Proof/Machine/RegTable.lean ====
section
/-!
DEFINITION. The register map: for each register its block, offset, repetition and fields, as the register tables of spec/
(files 00 to 20) give them. Access codes follow Table: Access codes of 00_scope.md (R5 to R7).
-/
namespace Sys2Proof.Machine

/-- Registers of block GLB, part 0. -/
def regs_glb_0 : List RegWord :=
  [ ⟨.glb, 0x0, 1, 4, .single, [⟨F.GLB_PART_PART, 0, 32, 0, .ro⟩]⟩
  , ⟨.glb, 0x4, 1, 4, .single, [⟨F.GLB_STEPPING_STEPPING, 0, 8, 0, .ro⟩, ⟨F.GLB_STEPPING_FUSE_FORMAT, 8, 16, 0, .ro⟩]⟩
  , ⟨.glb, 0x8, 1, 4, .lo, [⟨F.GLB_FUSE_ID_ID, 0, 32, 0, .ro⟩]⟩
  , ⟨.glb, 0xc, 1, 4, .hi, [⟨F.GLB_FUSE_ID_ID, 0, 32, 32, .ro⟩]⟩
  , ⟨.glb, 0x10, 1, 4, .single, [⟨F.GLB_MODES_SUSTAIN, 0, 1, 0, .ro⟩, ⟨F.GLB_MODES_RELAXED, 1, 1, 0, .ro⟩, ⟨F.GLB_MODES_STAGGER, 2, 1, 0, .ro⟩, ⟨F.GLB_MODES_BENCH, 3, 1, 0, .ro⟩, ⟨F.GLB_MODES_LATCHED, 4, 1, 0, .ro⟩]⟩
  , ⟨.glb, 0x14, 1, 4, .single, [⟨F.GLB_FW_VERSION_VERSION, 0, 32, 0, .ro⟩]⟩
  , ⟨.glb, 0x2000, 1, 4, .single, [⟨F.EPH_MODE_RELAXED, 0, 1, 0, .rws⟩]⟩
  , ⟨.glb, 0x2004, 1, 4, .single, [⟨F.EPOCH_BASE_TIME, 0, 32, 0, .rws⟩]⟩
  , ⟨.glb, 0x2008, 1, 4, .single, [⟨F.EPOCH_BASE_TIME, 0, 32, 32, .rws⟩]⟩
  , ⟨.glb, 0x200c, 1, 4, .single, [⟨F.EPOCH_PERIOD_PERIOD, 0, 32, 0, .rws⟩]⟩
  , ⟨.glb, 0x2010, 1, 4, .single, [⟨F.STALL_LIMIT_LIMIT, 0, 16, 0, .rws⟩]⟩
  , ⟨.glb, 0x2014, 1, 4, .single, [⟨F.SEG_CYCLE_CYCLE, 0, 32, 0, .ro⟩]⟩
  , ⟨.glb, 0x2018, 1, 4, .lo, [⟨F.SEG_STEP_STEP, 0, 32, 0, .ro⟩]⟩
  , ⟨.glb, 0x201c, 1, 4, .hi, [⟨F.SEG_STEP_STEP, 0, 32, 32, .ro⟩]⟩
  , ⟨.glb, 0x2020, 1, 4, .single, [⟨F.PAUSE_STATUS_DUTY, 0, 4, 0, .ro⟩, ⟨F.PAUSE_STATUS_THERMAL_REQ, 4, 4, 0, .ro⟩, ⟨F.PAUSE_STATUS_POWER_REQ, 8, 4, 0, .ro⟩, ⟨F.PAUSE_STATUS_FW_REQ, 12, 4, 0, .rw⟩]⟩
  , ⟨.glb, 0x2024, 1, 4, .lo, [⟨F.PAUSE_SLOTS_COUNT, 0, 32, 0, .ro⟩]⟩
  , ⟨.glb, 0x2028, 1, 4, .hi, [⟨F.PAUSE_SLOTS_COUNT, 0, 32, 32, .ro⟩]⟩
  , ⟨.glb, 0x202c, 1, 4, .lo, [⟨F.STALL_CYCLES_COUNT, 0, 32, 0, .ro⟩]⟩
  , ⟨.glb, 0x2030, 1, 4, .hi, [⟨F.STALL_CYCLES_COUNT, 0, 32, 32, .ro⟩]⟩
  , ⟨.glb, 0x2034, 1, 4, .single, [⟨F.OVERRUN_COUNT_COUNT, 0, 32, 0, .ro⟩]⟩ ]

/-- Registers of block GLB, part 1. -/
def regs_glb_1 : List RegWord :=
  [ ⟨.glb, 0x2038, 1, 4, .single, [⟨F.OVERRUN_CAPTURE_TILE, 0, 9, 0, .ro⟩, ⟨F.OVERRUN_CAPTURE_JOIN, 9, 1, 0, .ro⟩, ⟨F.OVERRUN_CAPTURE_VALID, 10, 1, 0, .w1c⟩, ⟨F.OVERRUN_CAPTURE_XDESC, 11, 16, 0, .ro⟩]⟩
  , ⟨.glb, 0x3000, 1, 4, .single, [⟨F.MEM_CFG_TYPE, 0, 1, 0, .ro⟩, ⟨F.MEM_CFG_RATE, 1, 2, 0, .ro⟩, ⟨F.MEM_CFG_PKG, 3, 2, 0, .ro⟩, ⟨F.MEM_CFG_RANKS, 5, 1, 0, .ro⟩, ⟨F.MEM_CFG_CH_RESERVE, 6, 2, 0, .rws⟩]⟩
  , ⟨.glb, 0x4000, 1, 4, .single, [⟨F.SCRUB_CFG_THRESH, 0, 4, 0, .rws⟩, ⟨F.SCRUB_CFG_SRAM_PERIOD, 4, 8, 0, .rws⟩, ⟨F.SCRUB_CFG_DRAM_PERIOD, 12, 8, 0, .rws⟩, ⟨F.SCRUB_CFG_ENABLE, 20, 1, 0, .rws⟩]⟩
  , ⟨.glb, 0x4010, 1, 4, .single, [⟨F.CHK_CTL_OP, 0, 3, 0, .wo⟩, ⟨F.CHK_CTL_KEY, 16, 16, 0, .wo⟩]⟩
  , ⟨.glb, 0x4014, 1, 4, .single, [⟨F.CHK_ADDR_ADDR, 0, 32, 0, .rw⟩]⟩
  , ⟨.glb, 0x4018, 1, 4, .single, [⟨F.CHK_ADDR_ADDR, 0, 32, 32, .rw⟩]⟩
  , ⟨.glb, 0x4020, 8, 4, .single, [⟨F.CHK_DATA_DATA, 0, 32, 0, .rw⟩]⟩
  , ⟨.glb, 0x4040, 1, 4, .single, [⟨F.CHK_SIDE_CHECK, 0, 16, 0, .rw⟩, ⟨F.CHK_SIDE_POISON, 16, 1, 0, .rw⟩, ⟨F.CHK_SIDE_PAGE_BITS, 17, 2, 0, .rw⟩]⟩
  , ⟨.glb, 0x4044, 1, 4, .single, [⟨F.CHK_RESULT_OUTCOME, 0, 2, 0, .ro⟩, ⟨F.CHK_RESULT_POSITION, 2, 6, 0, .ro⟩, ⟨F.CHK_RESULT_DONE, 8, 1, 0, .ro⟩, ⟨F.CHK_RESULT_RECOVERED, 9, 1, 0, .ro⟩]⟩
  , ⟨.glb, 0x5000, 1, 4, .lo, [⟨F.TIME_NOW_TIME, 0, 32, 0, .ro⟩]⟩
  , ⟨.glb, 0x5004, 1, 4, .hi, [⟨F.TIME_NOW_TIME, 0, 32, 32, .ro⟩]⟩
  , ⟨.glb, 0x5008, 1, 4, .single, [⟨F.TIME_STATUS_SYNCE_LOCKED, 0, 1, 0, .ro⟩, ⟨F.TIME_STATUS_PTP_LOCKED, 1, 1, 0, .ro⟩, ⟨F.TIME_STATUS_ALIGNED, 2, 1, 0, .ro⟩, ⟨F.TIME_STATUS_HOLDOVER, 3, 1, 0, .ro⟩, ⟨F.TIME_STATUS_SYNCE_PORT, 4, 8, 0, .ro⟩, ⟨F.TIME_STATUS_PTP_PORT, 12, 8, 0, .ro⟩]⟩
  , ⟨.glb, 0x500c, 1, 4, .single, [⟨F.TIME_OFFSET_OFFSET, 0, 32, 0, .ro⟩]⟩
  , ⟨.glb, 0x5010, 1, 4, .single, [⟨F.CKPT_STATUS_WRITING, 0, 1, 0, .ro⟩, ⟨F.CKPT_STATUS_SLOT, 1, 1, 0, .ro⟩]⟩
  , ⟨.glb, 0x5014, 1, 4, .lo, [⟨F.CKPT_STEP_STEP, 0, 32, 0, .ro⟩]⟩
  , ⟨.glb, 0x5018, 1, 4, .hi, [⟨F.CKPT_STEP_STEP, 0, 32, 32, .ro⟩]⟩
  , ⟨.glb, 0x501c, 1, 4, .single, [⟨F.LOADER_STATUS_AHEAD, 0, 5, 0, .ro⟩]⟩
  , ⟨.glb, 0x6000, 1, 4, .single, [⟨F.IMG_STATUS_STATE, 0, 3, 0, .ro⟩, ⟨F.IMG_STATUS_KIND, 3, 1, 0, .ro⟩, ⟨F.IMG_STATUS_ACTIVE, 4, 1, 0, .ro⟩, ⟨F.IMG_STATUS_FROZEN, 5, 1, 0, .ro⟩]⟩
  , ⟨.glb, 0x6004, 1, 4, .single, [⟨F.IMG_REFUSAL_CODE, 0, 16, 0, .ro⟩, ⟨F.IMG_REFUSAL_TILE, 16, 9, 0, .ro⟩]⟩
  , ⟨.glb, 0x6008, 1, 4, .lo, [⟨F.IMG_REFUSAL_AT_OFFSET, 0, 32, 0, .ro⟩]⟩ ]

/-- Registers of block GLB, part 2. -/
def regs_glb_2 : List RegWord :=
  [ ⟨.glb, 0x600c, 1, 4, .hi, [⟨F.IMG_REFUSAL_AT_OFFSET, 0, 32, 32, .ro⟩]⟩
  , ⟨.glb, 0x6010, 1, 4, .single, [⟨F.IMG_ACTIVE_ID_ID, 0, 32, 0, .ro⟩]⟩
  , ⟨.glb, 0x6014, 1, 4, .lo, [⟨F.IMG_APPLY_STEP, 0, 32, 0, .ro⟩]⟩
  , ⟨.glb, 0x6018, 1, 4, .hi, [⟨F.IMG_APPLY_STEP, 0, 32, 32, .ro⟩]⟩
  , ⟨.glb, 0x601c, 1, 4, .single, [⟨F.IMG_COVER_GRANULES, 0, 23, 0, .ro⟩]⟩
  , ⟨.glb, 0x6020, 12, 4, .single, [⟨F.IMG_DIGEST_DIGEST, 0, 32, 0, .ro⟩]⟩
  , ⟨.glb, 0x6050, 1, 4, .single, [⟨F.IMG_DELTAS_COUNT, 0, 32, 0, .ro⟩]⟩
  , ⟨.glb, 0x7000, 1, 4, .single, [⟨F.DEV_STATE_STATE, 0, 4, 0, .ro⟩, ⟨F.DEV_STATE_COLD, 4, 1, 0, .ro⟩, ⟨F.DEV_STATE_READY, 5, 1, 0, .ro⟩]⟩
  , ⟨.glb, 0x7004, 1, 4, .single, [⟨F.BOOT_T0_FIRST, 0, 16, 0, .ro⟩, ⟨F.BOOT_T0_SECOND, 16, 16, 0, .ro⟩]⟩
  , ⟨.glb, 0x7008, 1, 4, .single, [⟨F.BOOT_T1_FIRST, 0, 16, 0, .ro⟩, ⟨F.BOOT_T1_SECOND, 16, 16, 0, .ro⟩]⟩
  , ⟨.glb, 0x700c, 1, 4, .single, [⟨F.BOOT_CTL_COLD_NEXT, 0, 1, 0, .rw⟩]⟩
  , ⟨.glb, 0x7010, 1, 4, .single, [⟨F.BOOT_CAUSE_CODE, 0, 16, 0, .ro⟩, ⟨F.BOOT_CAUSE_VALID, 16, 1, 0, .ro⟩]⟩
  , ⟨.glb, 0x7014, 1, 4, .single, [⟨F.DEV_SPARES_SPARES, 0, 20, 0, .ro⟩]⟩
  , ⟨.glb, 0x8000, 1024, 4, .single, [⟨F.FUSE_MAP_DATA, 0, 32, 0, .ro⟩]⟩
  , ⟨.glb, 0x9000, 1, 4, .single, [⟨F.PIN_STATUS_THERM_LATCH, 0, 1, 0, .ro⟩, ⟨F.PIN_STATUS_BTN, 1, 1, 0, .ro⟩, ⟨F.PIN_STATUS_DRAIN_REQ, 2, 1, 0, .ro⟩, ⟨F.PIN_STATUS_ERRN_PIN, 3, 1, 0, .ro⟩, ⟨F.PIN_STATUS_THERMTRIP_PIN, 4, 1, 0, .ro⟩, ⟨F.PIN_STATUS_SYNCE_OUT_ON, 5, 1, 0, .ro⟩]⟩
  , ⟨.glb, 0x9004, 1, 4, .lo, [⟨F.PIN_PRESENT_PRESENT, 0, 32, 0, .ro⟩]⟩
  , ⟨.glb, 0x9008, 1, 4, .hi, [⟨F.PIN_PRESENT_PRESENT, 0, 32, 32, .ro⟩]⟩
  , ⟨.glb, 0x900c, 1, 4, .single, [⟨F.LED_CTL_LOCATE, 0, 1, 0, .rw⟩]⟩ ]

/-- Registers of block TWR, part 0. -/
def regs_twr_0 : List RegWord :=
  [ ⟨.twr, 0x0, 1, 4, .single, [⟨F.TWR_STATUS_LAYER_RST, 0, 8, 0, .ro⟩, ⟨F.TWR_STATUS_PARTITION_UP, 8, 1, 0, .ro⟩, ⟨F.TWR_STATUS_SPINE_OK, 9, 1, 0, .ro⟩, ⟨F.TWR_STATUS_PLL_LOCK, 10, 1, 0, .ro⟩, ⟨F.TWR_STATUS_PLL_STANDBY_OK, 11, 1, 0, .ro⟩]⟩
  , ⟨.twr, 0x4, 1, 4, .single, [⟨F.TWR_RESET_LAYER_REQ, 0, 8, 0, .wo⟩, ⟨F.TWR_RESET_PARTITION_REQ, 8, 1, 0, .wo⟩, ⟨F.TWR_RESET_KEY, 16, 16, 0, .wo⟩]⟩
  , ⟨.twr, 0x8, 1, 4, .lo, [⟨F.TWR_RESEND_COUNT, 0, 32, 0, .ro⟩]⟩
  , ⟨.twr, 0xc, 1, 4, .hi, [⟨F.TWR_RESEND_COUNT, 0, 32, 32, .ro⟩]⟩
  , ⟨.twr, 0x10, 1, 4, .single, [⟨F.TWR_LOST_COUNT, 0, 32, 0, .ro⟩]⟩
  , ⟨.twr, 0x14, 1, 4, .single, [⟨F.TWR_XING_DEPTH, 0, 28, 0, .ro⟩]⟩
  , ⟨.twr, 0x18, 1, 4, .single, [⟨F.TWR_AGE_MAX_AGE, 0, 8, 0, .ro⟩, ⟨F.TWR_AGE_MIN_MARGIN, 8, 8, 0, .ro⟩]⟩ ]

/-- Registers of block TIL, part 0. -/
def regs_til_0 : List RegWord :=
  [ ⟨.til, 0x4000, 1, 4, .single, [⟨F.ARR_CFG_FAULT_LIMIT, 0, 3, 0, .rws⟩, ⟨F.ARR_CFG_WINDOW, 3, 2, 0, .rws⟩]⟩
  , ⟨.til, 0x4004, 1, 4, .single, [⟨F.ARR_STATUS_BUSY, 0, 1, 0, .ro⟩, ⟨F.ARR_STATUS_FINDER, 1, 1, 0, .ro⟩, ⟨F.ARR_STATUS_HELD, 2, 1, 0, .ro⟩, ⟨F.ARR_STATUS_RERUN, 3, 1, 0, .ro⟩, ⟨F.ARR_STATUS_HALF, 4, 1, 0, .ro⟩, ⟨F.ARR_STATUS_CHAIN, 5, 1, 0, .ro⟩, ⟨F.ARR_STATUS_SHUTTERED, 6, 1, 0, .ro⟩]⟩
  , ⟨.til, 0x4008, 1, 4, .single, [⟨F.ARR_SPARE_SPARE_A, 0, 4, 0, .ro⟩, ⟨F.ARR_SPARE_SPARE_B, 4, 4, 0, .ro⟩, ⟨F.ARR_SPARE_SPARE_C, 8, 4, 0, .ro⟩, ⟨F.ARR_SPARE_SPARE_D, 12, 4, 0, .ro⟩]⟩
  , ⟨.til, 0x4010, 1, 4, .lo, [⟨F.ARR_PASS_COUNT, 0, 32, 0, .ro⟩]⟩
  , ⟨.til, 0x4014, 1, 4, .hi, [⟨F.ARR_PASS_COUNT, 0, 32, 32, .ro⟩]⟩
  , ⟨.til, 0x4018, 1, 4, .lo, [⟨F.ARR_STREAM_COUNT, 0, 32, 0, .ro⟩]⟩
  , ⟨.til, 0x401c, 1, 4, .hi, [⟨F.ARR_STREAM_COUNT, 0, 32, 32, .ro⟩]⟩
  , ⟨.til, 0x4020, 1, 4, .lo, [⟨F.ARR_WAIT_COUNT, 0, 32, 0, .ro⟩]⟩
  , ⟨.til, 0x4024, 1, 4, .hi, [⟨F.ARR_WAIT_COUNT, 0, 32, 32, .ro⟩]⟩
  , ⟨.til, 0x4028, 1, 4, .lo, [⟨F.FND_STREAM_COUNT, 0, 32, 0, .ro⟩]⟩
  , ⟨.til, 0x402c, 1, 4, .hi, [⟨F.FND_STREAM_COUNT, 0, 32, 32, .ro⟩]⟩
  , ⟨.til, 0x4030, 1, 4, .single, [⟨F.ARR_FAULTS_RERUNS, 0, 16, 0, .ro⟩, ⟨F.ARR_FAULTS_IN_WINDOW, 16, 8, 0, .ro⟩]⟩
  , ⟨.til, 0x4034, 1, 4, .single, [⟨F.ARR_CAPTURE_CODE, 0, 8, 0, .ro⟩, ⟨F.ARR_CAPTURE_ARRAY, 8, 2, 0, .ro⟩, ⟨F.ARR_CAPTURE_FINDER, 10, 1, 0, .ro⟩, ⟨F.ARR_CAPTURE_VALID, 11, 1, 0, .w1c⟩, ⟨F.ARR_CAPTURE_PASS, 12, 16, 0, .ro⟩]⟩
  , ⟨.til, 0x4038, 1, 4, .single, [⟨F.ARR_OPIDX_OP_INDEX, 0, 16, 0, .ro⟩]⟩
  , ⟨.til, 0x4100, 1, 4, .single, [⟨F.FIN_WATCH_BASE, 0, 14, 0, .rws⟩, ⟨F.FIN_WATCH_LIMIT, 16, 14, 0, .rws⟩, ⟨F.FIN_WATCH_ENABLE, 31, 1, 0, .rws⟩]⟩
  , ⟨.til, 0x4104, 1, 4, .single, [⟨F.FIN_STEP_NONFINITE_WATCHED, 0, 1, 0, .ro⟩, ⟨F.FIN_STEP_NONFINITE_ANY, 1, 1, 0, .ro⟩, ⟨F.FIN_STEP_SAT_ANY, 2, 1, 0, .ro⟩, ⟨F.FIN_STEP_NAN_IN, 3, 1, 0, .ro⟩, ⟨F.FIN_STEP_POISON_OUT, 4, 1, 0, .ro⟩]⟩
  , ⟨.til, 0x4108, 1, 4, .single, [⟨F.FIN_NAN_OUT_COUNT, 0, 32, 0, .ro⟩]⟩
  , ⟨.til, 0x410c, 1, 4, .single, [⟨F.FIN_INF_OUT_COUNT, 0, 32, 0, .ro⟩]⟩
  , ⟨.til, 0x4110, 1, 4, .single, [⟨F.FIN_SAT_COUNT, 0, 32, 0, .ro⟩]⟩
  , ⟨.til, 0x4114, 1, 4, .single, [⟨F.FIN_NAN_IN_COUNT, 0, 32, 0, .ro⟩]⟩ ]

/-- Registers of block TIL, part 1. -/
def regs_til_1 : List RegWord :=
  [ ⟨.til, 0x4118, 1, 4, .single, [⟨F.FIN_POISON_OUT_COUNT, 0, 32, 0, .ro⟩]⟩
  , ⟨.til, 0x3000, 1, 4, .single, [⟨F.EPH_BASE_BASE, 0, 24, 0, .rws⟩]⟩
  , ⟨.til, 0x3004, 1, 4, .single, [⟨F.EPH_LEN_COUNT, 0, 17, 0, .rws⟩]⟩
  , ⟨.til, 0x3008, 1, 4, .single, [⟨F.EPH_ADESC_BASE, 0, 24, 0, .rws⟩]⟩
  , ⟨.til, 0x300c, 1, 4, .single, [⟨F.EPH_XDESC_BASE, 0, 24, 0, .rws⟩]⟩
  , ⟨.til, 0x3010, 1, 4, .single, [⟨F.EPH_PC_PC, 0, 16, 0, .ro⟩, ⟨F.EPH_PC_IN_SEGMENT, 16, 1, 0, .ro⟩]⟩
  , ⟨.til, 0x3014, 1, 4, .single, [⟨F.EPH_STATUS_HELD, 0, 1, 0, .ro⟩, ⟨F.EPH_STATUS_CAUSE_HERE, 1, 1, 0, .ro⟩, ⟨F.EPH_STATUS_CAUSE, 2, 3, 0, .ro⟩]⟩
  , ⟨.til, 0x3018, 1, 4, .single, [⟨F.EPH_OUTSTANDING_TRANSFERS, 0, 7, 0, .ro⟩, ⟨F.EPH_OUTSTANDING_TASKS, 7, 5, 0, .ro⟩]⟩
  , ⟨.til, 0x301c, 1, 4, .single, [⟨F.EPH_LATE_MAX_CYCLES, 0, 32, 0, .ro⟩]⟩
  , ⟨.til, 0x5000, 1, 4, .single, [⟨F.LANE_TTAB_BASE, 0, 24, 0, .rws⟩]⟩
  , ⟨.til, 0x5004, 1, 4, .single, [⟨F.LANE_CFG_BAR_LOG2, 0, 5, 0, .rws⟩, ⟨F.LANE_CFG_PEND_ETA, 8, 8, 0, .rws⟩]⟩
  , ⟨.til, 0x5008, 1, 4, .single, [⟨F.LANE_STATUS_RESIDENT, 0, 6, 0, .ro⟩, ⟨F.LANE_STATUS_ACTIVE, 6, 3, 0, .ro⟩, ⟨F.LANE_STATUS_TASKS, 9, 5, 0, .ro⟩, ⟨F.LANE_STATUS_FRAG, 14, 1, 0, .ro⟩, ⟨F.LANE_STATUS_HALTED, 15, 1, 0, .ro⟩]⟩
  , ⟨.til, 0x5010, 1, 4, .lo, [⟨F.LANE_ISSUE_COUNT, 0, 32, 0, .ro⟩]⟩
  , ⟨.til, 0x5014, 1, 4, .hi, [⟨F.LANE_ISSUE_COUNT, 0, 32, 32, .ro⟩]⟩
  , ⟨.til, 0x5018, 1, 4, .lo, [⟨F.LANE_DUAL_COUNT, 0, 32, 0, .ro⟩]⟩
  , ⟨.til, 0x501c, 1, 4, .hi, [⟨F.LANE_DUAL_COUNT, 0, 32, 32, .ro⟩]⟩
  , ⟨.til, 0x5020, 1, 4, .single, [⟨F.LANE_HIT_COUNT, 0, 32, 0, .ro⟩]⟩
  , ⟨.til, 0x5024, 1, 4, .single, [⟨F.LANE_MISS_COUNT, 0, 32, 0, .ro⟩]⟩
  , ⟨.til, 0x5028, 1, 4, .single, [⟨F.LANE_FAULT_CODE, 0, 8, 0, .ro⟩, ⟨F.LANE_FAULT_GROUP, 8, 5, 0, .ro⟩, ⟨F.LANE_FAULT_LANE, 13, 5, 0, .ro⟩, ⟨F.LANE_FAULT_VALID, 18, 1, 0, .w1c⟩]⟩
  , ⟨.til, 0x502c, 1, 4, .single, [⟨F.LANE_FAULT_PC_PC, 0, 24, 0, .ro⟩]⟩ ]

/-- Registers of block TIL, part 2. -/
def regs_til_2 : List RegWord :=
  [ ⟨.til, 0x5040, 1, 4, .single, [⟨F.DBG_CTL_GROUP, 0, 5, 0, .wo⟩, ⟨F.DBG_CTL_HALT, 5, 1, 0, .wo⟩, ⟨F.DBG_CTL_STEP, 6, 1, 0, .wo⟩, ⟨F.DBG_CTL_RESUME, 7, 1, 0, .wo⟩, ⟨F.DBG_CTL_KEY, 16, 16, 0, .wo⟩]⟩
  , ⟨.til, 0x5044, 1, 4, .single, [⟨F.DBG_STATE_HALTED, 0, 1, 0, .ro⟩, ⟨F.DBG_STATE_STEP_BUSY, 1, 1, 0, .ro⟩, ⟨F.DBG_STATE_DEPTH, 2, 5, 0, .ro⟩]⟩
  , ⟨.til, 0x5048, 1, 4, .single, [⟨F.DBG_PC_PC, 0, 24, 0, .ro⟩]⟩
  , ⟨.til, 0x504c, 1, 4, .single, [⟨F.DBG_MASK_MASK, 0, 32, 0, .ro⟩]⟩
  , ⟨.til, 0x5050, 1, 4, .single, [⟨F.DBG_SEL_REG, 0, 6, 0, .rw⟩, ⟨F.DBG_SEL_LANE, 6, 5, 0, .rw⟩, ⟨F.DBG_SEL_FILE, 11, 2, 0, .rw⟩, ⟨F.DBG_SEL_POISON, 13, 1, 0, .ro⟩]⟩
  , ⟨.til, 0x5054, 1, 4, .single, [⟨F.DBG_DATA_DATA, 0, 32, 0, .rw⟩]⟩
  , ⟨.til, 0x6000, 1, 4, .single, [⟨F.PROT_CORR_T_COUNT, 0, 32, 0, .ro⟩]⟩
  , ⟨.til, 0x6004, 1, 4, .single, [⟨F.PROT_RECOVERED_T_COUNT, 0, 32, 0, .ro⟩]⟩
  , ⟨.til, 0x6008, 1, 4, .single, [⟨F.PROT_UNRECOVERED_T_COUNT, 0, 32, 0, .ro⟩]⟩
  , ⟨.til, 0x600c, 1, 4, .single, [⟨F.PROT_SCRUBBED_T_COUNT, 0, 32, 0, .ro⟩]⟩
  , ⟨.til, 0x6010, 1, 4, .single, [⟨F.PROT_CAPTURE_T_CODE, 0, 8, 0, .ro⟩, ⟨F.PROT_CAPTURE_T_VALID, 8, 1, 0, .w1c⟩]⟩
  , ⟨.til, 0x6014, 1, 4, .single, [⟨F.PROT_CAPTURE_PAGE_T_PAGE, 0, 32, 0, .ro⟩]⟩
  , ⟨.til, 0x6018, 1, 4, .single, [⟨F.PROT_SCRUB_POS_T_PAGE, 0, 32, 0, .ro⟩]⟩
  , ⟨.til, 0x7000, 1, 4, .single, [⟨F.TRIM_STATUS_STATE, 0, 2, 0, .ro⟩, ⟨F.TRIM_STATUS_SET, 2, 10, 0, .ro⟩, ⟨F.TRIM_STATUS_FUSE, 12, 4, 0, .ro⟩, ⟨F.TRIM_STATUS_AGE, 16, 8, 0, .ro⟩, ⟨F.TRIM_STATUS_QUOTA, 24, 8, 0, .ro⟩]⟩
  , ⟨.til, 0x7004, 1, 4, .single, [⟨F.TRIM_I_I, 0, 8, 0, .ro⟩, ⟨F.TRIM_I_SLOW_LAST, 8, 1, 0, .ro⟩]⟩
  , ⟨.til, 0x7008, 1, 4, .single, [⟨F.TRIM_MIN_MIN, 0, 10, 0, .ro⟩, ⟨F.TRIM_MIN_VALID, 10, 1, 0, .w1c⟩]⟩
  , ⟨.til, 0x700c, 1, 4, .lo, [⟨F.TRIM_MINT_TIME, 0, 32, 0, .ro⟩]⟩
  , ⟨.til, 0x7010, 1, 4, .hi, [⟨F.TRIM_MINT_TIME, 0, 32, 32, .ro⟩]⟩ ]

/-- Registers of block SLC, part 0. -/
def regs_slc_0 : List RegWord :=
  [ ⟨.slc, 0x0, 1, 4, .single, [⟨F.SLC_CFG_CARVE, 0, 3, 0, .rws⟩, ⟨F.SLC_CFG_PIN_CAP, 4, 3, 0, .rws⟩, ⟨F.SLC_CFG_THRASH_LIMIT, 8, 8, 0, .rws⟩, ⟨F.SLC_CFG_STREAK_WINDOW, 16, 6, 0, .rws⟩]⟩
  , ⟨.slc, 0x4, 1, 4, .single, [⟨F.SLC_STATUS_CACHE_WAYS, 0, 5, 0, .ro⟩, ⟨F.SLC_STATUS_PINNED_MAX, 5, 5, 0, .ro⟩, ⟨F.SLC_STATUS_WINDOW_USED, 10, 7, 0, .ro⟩, ⟨F.SLC_STATUS_FOLDED, 17, 1, 0, .ro⟩, ⟨F.SLC_STATUS_SERVING, 18, 1, 0, .ro⟩, ⟨F.SLC_STATUS_SHUTTERED, 19, 1, 0, .ro⟩, ⟨F.SLC_STATUS_OVF_ACTIVE, 20, 1, 0, .ro⟩]⟩
  , ⟨.slc, 0x8, 1, 4, .lo, [⟨F.SLC_HIT_COUNT, 0, 32, 0, .ro⟩]⟩
  , ⟨.slc, 0xc, 1, 4, .hi, [⟨F.SLC_HIT_COUNT, 0, 32, 32, .ro⟩]⟩
  , ⟨.slc, 0x10, 1, 4, .lo, [⟨F.SLC_MISS_COUNT, 0, 32, 0, .ro⟩]⟩
  , ⟨.slc, 0x14, 1, 4, .hi, [⟨F.SLC_MISS_COUNT, 0, 32, 32, .ro⟩]⟩
  , ⟨.slc, 0x18, 1, 4, .lo, [⟨F.SLC_COADD_COUNT, 0, 32, 0, .ro⟩]⟩
  , ⟨.slc, 0x1c, 1, 4, .hi, [⟨F.SLC_COADD_COUNT, 0, 32, 32, .ro⟩]⟩
  , ⟨.slc, 0x20, 1, 4, .single, [⟨F.SLC_OVF_COUNT, 0, 32, 0, .ro⟩]⟩
  , ⟨.slc, 0x24, 1, 4, .single, [⟨F.SLC_STREAK_COUNT, 0, 32, 0, .ro⟩]⟩
  , ⟨.slc, 0x28, 1, 4, .single, [⟨F.SLC_THRASH_COUNT, 0, 32, 0, .ro⟩]⟩
  , ⟨.slc, 0x2c, 1, 4, .single, [⟨F.SLC_FIN_NONFINITE_COADD, 0, 1, 0, .ro⟩, ⟨F.SLC_FIN_NONFINITE_ANY, 1, 1, 0, .ro⟩, ⟨F.SLC_FIN_SAT_ANY, 2, 1, 0, .ro⟩]⟩
  , ⟨.slc, 0x30, 1, 4, .single, [⟨F.SLC_FIN_COUNT_COUNT, 0, 32, 0, .ro⟩]⟩
  , ⟨.slc, 0x34, 1, 4, .lo, [⟨F.SLC_UPD_COUNT, 0, 32, 0, .ro⟩]⟩
  , ⟨.slc, 0x38, 1, 4, .hi, [⟨F.SLC_UPD_COUNT, 0, 32, 32, .ro⟩]⟩
  , ⟨.slc, 0x3c, 1, 4, .single, [⟨F.SLC_CAPTURE_CODE, 0, 8, 0, .ro⟩, ⟨F.SLC_CAPTURE_VALID, 8, 1, 0, .w1c⟩]⟩
  , ⟨.slc, 0x40, 1, 4, .single, [⟨F.SLC_CAPTURE_LINE_LINE, 0, 32, 0, .ro⟩]⟩
  , ⟨.slc, 0x80, 1, 4, .single, [⟨F.PROT_CORR_S_COUNT, 0, 32, 0, .ro⟩]⟩
  , ⟨.slc, 0x84, 1, 4, .single, [⟨F.PROT_RECOVERED_S_COUNT, 0, 32, 0, .ro⟩]⟩
  , ⟨.slc, 0x88, 1, 4, .single, [⟨F.PROT_UNRECOVERED_S_COUNT, 0, 32, 0, .ro⟩]⟩ ]

/-- Registers of block SLC, part 1. -/
def regs_slc_1 : List RegWord :=
  [ ⟨.slc, 0x8c, 1, 4, .single, [⟨F.PROT_SCRUBBED_S_COUNT, 0, 32, 0, .ro⟩]⟩
  , ⟨.slc, 0x90, 1, 4, .single, [⟨F.PROT_CAPTURE_S_CODE, 0, 8, 0, .ro⟩, ⟨F.PROT_CAPTURE_S_VALID, 8, 1, 0, .w1c⟩]⟩
  , ⟨.slc, 0x94, 1, 4, .single, [⟨F.PROT_CAPTURE_PAGE_S_PAGE, 0, 32, 0, .ro⟩]⟩
  , ⟨.slc, 0x98, 1, 4, .single, [⟨F.PROT_SCRUB_POS_S_PAGE, 0, 32, 0, .ro⟩]⟩ ]

/-- Registers of block MCH, part 0. -/
def regs_mch_0 : List RegWord :=
  [ ⟨.mch, 0x0, 1, 4, .single, [⟨F.MCH_STATUS_STATE, 0, 3, 0, .ro⟩, ⟨F.MCH_STATUS_TRAIN, 3, 3, 0, .ro⟩, ⟨F.MCH_STATUS_TEMP, 6, 2, 0, .ro⟩, ⟨F.MCH_STATUS_SPREAD, 8, 1, 0, .ro⟩, ⟨F.MCH_STATUS_SPREAD_IN, 9, 6, 0, .ro⟩]⟩
  , ⟨.mch, 0x4, 1, 4, .single, [⟨F.MCH_DERATE_FACTOR, 0, 9, 0, .ro⟩]⟩
  , ⟨.mch, 0x8, 1, 4, .single, [⟨F.MCH_MARGIN_READ_EYE, 0, 8, 0, .ro⟩, ⟨F.MCH_MARGIN_WRITE_EYE, 8, 8, 0, .ro⟩]⟩
  , ⟨.mch, 0x10, 1, 4, .lo, [⟨F.MCH_RD_COUNT, 0, 32, 0, .ro⟩]⟩
  , ⟨.mch, 0x14, 1, 4, .hi, [⟨F.MCH_RD_COUNT, 0, 32, 32, .ro⟩]⟩
  , ⟨.mch, 0x18, 1, 4, .lo, [⟨F.MCH_WR_COUNT, 0, 32, 0, .ro⟩]⟩
  , ⟨.mch, 0x1c, 1, 4, .hi, [⟨F.MCH_WR_COUNT, 0, 32, 32, .ro⟩]⟩
  , ⟨.mch, 0x20, 1, 4, .single, [⟨F.MCH_CAPTURE_CODE, 0, 8, 0, .ro⟩, ⟨F.MCH_CAPTURE_VALID, 8, 1, 0, .w1c⟩]⟩
  , ⟨.mch, 0x100, 1, 4, .single, [⟨F.LAMP_CTL_START, 0, 1, 0, .wo⟩, ⟨F.LAMP_CTL_STOP, 1, 1, 0, .wo⟩, ⟨F.LAMP_CTL_KEY, 16, 16, 0, .wo⟩]⟩
  , ⟨.mch, 0x104, 1, 4, .single, [⟨F.LAMP_PAT_PATTERN, 0, 3, 0, .rw⟩, ⟨F.LAMP_PAT_SEED, 8, 24, 0, .rw⟩]⟩
  , ⟨.mch, 0x108, 1, 4, .single, [⟨F.LAMP_MIX_MODE, 0, 1, 0, .rw⟩, ⟨F.LAMP_MIX_RD_GROUP, 1, 8, 0, .rw⟩, ⟨F.LAMP_MIX_WR_GROUP, 9, 8, 0, .rw⟩, ⟨F.LAMP_MIX_BANK_MODE, 17, 2, 0, .rw⟩, ⟨F.LAMP_MIX_BANK, 19, 4, 0, .rw⟩]⟩
  , ⟨.mch, 0x10c, 1, 4, .single, [⟨F.LAMP_BASE_PAGES, 0, 24, 0, .rw⟩]⟩
  , ⟨.mch, 0x110, 1, 4, .single, [⟨F.LAMP_LEN_PAGES, 0, 24, 0, .rw⟩]⟩
  , ⟨.mch, 0x114, 1, 4, .single, [⟨F.LAMP_PASSES_COUNT, 0, 16, 0, .rw⟩]⟩
  , ⟨.mch, 0x118, 1, 4, .single, [⟨F.LAMP_STATUS_BUSY, 0, 1, 0, .ro⟩, ⟨F.LAMP_STATUS_DONE, 1, 1, 0, .ro⟩, ⟨F.LAMP_STATUS_ERR, 2, 1, 0, .ro⟩, ⟨F.LAMP_STATUS_PASS, 3, 16, 0, .ro⟩]⟩
  , ⟨.mch, 0x11c, 1, 4, .single, [⟨F.LAMP_WORDS_COUNT, 0, 32, 0, .ro⟩]⟩
  , ⟨.mch, 0x120, 1, 4, .single, [⟨F.LAMP_TIME_COUNT, 0, 32, 0, .ro⟩]⟩
  , ⟨.mch, 0x124, 1, 4, .single, [⟨F.LAMP_MISM_COUNT, 0, 32, 0, .ro⟩]⟩
  , ⟨.mch, 0x128, 1, 4, .single, [⟨F.LAMP_CORR_COUNT, 0, 32, 0, .ro⟩]⟩
  , ⟨.mch, 0x12c, 1, 4, .single, [⟨F.LAMP_UNCORR_COUNT, 0, 32, 0, .ro⟩]⟩ ]

/-- Registers of block MCH, part 1. -/
def regs_mch_1 : List RegWord :=
  [ ⟨.mch, 0x130, 1, 4, .single, [⟨F.LAMP_FAIL_PAGE_PAGE, 0, 24, 0, .ro⟩, ⟨F.LAMP_FAIL_PAGE_WORD, 24, 7, 0, .ro⟩]⟩
  , ⟨.mch, 0x134, 1, 4, .single, [⟨F.LAMP_FAIL_DQ_DQ, 0, 24, 0, .ro⟩]⟩
  , ⟨.mch, 0x140, 8, 4, .single, [⟨F.LAMP_USER_DATA, 0, 32, 0, .rw⟩]⟩
  , ⟨.mch, 0x40, 1, 4, .single, [⟨F.PROT_CORR_M_COUNT, 0, 32, 0, .ro⟩]⟩
  , ⟨.mch, 0x44, 1, 4, .single, [⟨F.PROT_RECOVERED_M_COUNT, 0, 32, 0, .ro⟩]⟩
  , ⟨.mch, 0x48, 1, 4, .single, [⟨F.PROT_UNRECOVERED_M_COUNT, 0, 32, 0, .ro⟩]⟩
  , ⟨.mch, 0x4c, 1, 4, .single, [⟨F.PROT_SCRUBBED_M_COUNT, 0, 32, 0, .ro⟩]⟩
  , ⟨.mch, 0x50, 1, 4, .single, [⟨F.PROT_CAPTURE_M_CODE, 0, 8, 0, .ro⟩, ⟨F.PROT_CAPTURE_M_VALID, 8, 1, 0, .w1c⟩]⟩
  , ⟨.mch, 0x54, 1, 4, .single, [⟨F.PROT_CAPTURE_PAGE_M_PAGE, 0, 32, 0, .ro⟩]⟩
  , ⟨.mch, 0x58, 1, 4, .single, [⟨F.PROT_SCRUB_POS_M_PAGE, 0, 32, 0, .ro⟩]⟩ ]

/-- Registers of block BND, part 0. -/
def regs_bnd_0 : List RegWord :=
  [ ⟨.bnd, 0x0, 1, 4, .single, [⟨F.BND_CTL_LREF, 0, 12, 0, .rws⟩, ⟨F.BND_CTL_ETA_DELAY, 12, 6, 0, .rws⟩]⟩
  , ⟨.bnd, 0x4, 1, 4, .single, [⟨F.BND_MARKS_SL_HIGH, 0, 8, 0, .rws⟩, ⟨F.BND_MARKS_SL_LOW, 8, 8, 0, .rws⟩, ⟨F.BND_MARKS_CH_HIGH, 16, 8, 0, .rws⟩, ⟨F.BND_MARKS_CH_LOW, 24, 8, 0, .rws⟩]⟩
  , ⟨.bnd, 0x8, 5, 4, .single, [⟨F.BND_SCALE_FACTOR, 0, 9, 0, .ro⟩]⟩
  , ⟨.bnd, 0x1c, 1, 4, .single, [⟨F.BND_WORST_INDEX, 0, 8, 0, .ro⟩, ⟨F.BND_WORST_KIND, 8, 1, 0, .ro⟩]⟩
  , ⟨.bnd, 0x20, 1, 4, .single, [⟨F.BND_SCALED_COUNT, 0, 32, 0, .ro⟩]⟩
  , ⟨.bnd, 0x24, 1, 4, .lo, [⟨F.BND_CONG_COUNT, 0, 32, 0, .ro⟩]⟩
  , ⟨.bnd, 0x28, 1, 4, .hi, [⟨F.BND_CONG_COUNT, 0, 32, 32, .ro⟩]⟩
  , ⟨.bnd, 0x200, 48, 4, .single, [⟨F.BND_GUAR_RATE, 0, 16, 0, .rws⟩, ⟨F.BND_GUAR_SCOPE, 16, 3, 0, .rws⟩]⟩
  , ⟨.bnd, 0x100, 48, 4, .single, [⟨F.BND_QUOTA_GQ, 0, 10, 0, .ro⟩, ⟨F.BND_QUOTA_SQ, 10, 10, 0, .rws⟩]⟩ ]

/-- Registers of block PRT, part 0. -/
def regs_prt_0 : List RegWord :=
  [ ⟨.prt, 0x0, 1, 4, .single, [⟨F.PRT_CFG_WIDTH, 0, 2, 0, .rws⟩, ⟨F.PRT_CFG_MIN_LANES, 2, 2, 0, .rws⟩, ⟨F.PRT_CFG_ENABLE, 4, 1, 0, .rws⟩, ⟨F.PRT_CFG_MACSEC, 5, 1, 0, .rws⟩, ⟨F.PRT_CFG_RESEND_MAX, 6, 3, 0, .rws⟩]⟩
  , ⟨.prt, 0x4, 1, 4, .single, [⟨F.PRT_STATUS_STATE, 0, 3, 0, .ro⟩, ⟨F.PRT_STATUS_WIDTH_UP, 3, 2, 0, .ro⟩, ⟨F.PRT_STATUS_HELD, 5, 3, 0, .ro⟩, ⟨F.PRT_STATUS_PRESENT, 8, 1, 0, .ro⟩, ⟨F.PRT_STATUS_DETOUR, 9, 1, 0, .ro⟩]⟩
  , ⟨.prt, 0x8, 1, 4, .single, [⟨F.PRT_LANES_TRAINED, 0, 8, 0, .ro⟩, ⟨F.PRT_LANES_FAILED, 8, 8, 0, .ro⟩]⟩
  , ⟨.prt, 0x10, 1, 4, .lo, [⟨F.PRT_FEC_CORR_COUNT, 0, 32, 0, .ro⟩]⟩
  , ⟨.prt, 0x14, 1, 4, .hi, [⟨F.PRT_FEC_CORR_COUNT, 0, 32, 32, .ro⟩]⟩
  , ⟨.prt, 0x18, 1, 4, .lo, [⟨F.PRT_BLK_TX_COUNT, 0, 32, 0, .ro⟩]⟩
  , ⟨.prt, 0x1c, 1, 4, .hi, [⟨F.PRT_BLK_TX_COUNT, 0, 32, 32, .ro⟩]⟩
  , ⟨.prt, 0x20, 1, 4, .lo, [⟨F.PRT_BLK_RX_COUNT, 0, 32, 0, .ro⟩]⟩
  , ⟨.prt, 0x24, 1, 4, .hi, [⟨F.PRT_BLK_RX_COUNT, 0, 32, 32, .ro⟩]⟩
  , ⟨.prt, 0x28, 1, 4, .single, [⟨F.PRT_FEC_UNCORR_COUNT, 0, 32, 0, .ro⟩]⟩
  , ⟨.prt, 0x2c, 1, 4, .single, [⟨F.PRT_NAK_TX_COUNT, 0, 32, 0, .ro⟩]⟩
  , ⟨.prt, 0x30, 1, 4, .single, [⟨F.PRT_NAK_RX_COUNT, 0, 32, 0, .ro⟩]⟩
  , ⟨.prt, 0x34, 1, 4, .single, [⟨F.PRT_RESENT_COUNT, 0, 32, 0, .ro⟩]⟩
  , ⟨.prt, 0x38, 1, 4, .single, [⟨F.PRT_DROP_COUNT, 0, 32, 0, .ro⟩]⟩
  , ⟨.prt, 0x3c, 1, 4, .single, [⟨F.PRT_REPLAY_USED, 0, 12, 0, .ro⟩, ⟨F.PRT_REPLAY_PEAK, 12, 12, 0, .ro⟩]⟩
  , ⟨.prt, 0x40, 1, 4, .single, [⟨F.PRT_CAPTURE_CODE, 0, 8, 0, .ro⟩, ⟨F.PRT_CAPTURE_VALID, 8, 1, 0, .w1c⟩, ⟨F.PRT_CAPTURE_STREAM, 9, 16, 0, .ro⟩]⟩ ]

/-- Registers of block MER, part 0. -/
def regs_mer_0 : List RegWord :=
  [ ⟨.mer, 0x0, 1, 4, .single, [⟨F.MER_PHASE_PHASE, 0, 3, 0, .ro⟩, ⟨F.MER_PHASE_GATE, 3, 2, 0, .ro⟩, ⟨F.MER_PHASE_LEVEL, 5, 3, 0, .ro⟩, ⟨F.MER_PHASE_ROOT, 8, 1, 0, .ro⟩]⟩
  , ⟨.mer, 0x4, 1, 4, .lo, [⟨F.MER_STEP_STEP, 0, 32, 0, .ro⟩]⟩
  , ⟨.mer, 0x8, 1, 4, .hi, [⟨F.MER_STEP_STEP, 0, 32, 32, .ro⟩]⟩
  , ⟨.mer, 0xc, 1, 4, .single, [⟨F.MER_ATTEMPT_ATTEMPT, 0, 16, 0, .ro⟩]⟩
  , ⟨.mer, 0x10, 1, 4, .single, [⟨F.MER_VERDICT_WORD, 0, 32, 0, .ro⟩]⟩
  , ⟨.mer, 0x14, 1, 4, .single, [⟨F.MER_RESULT_WORD, 0, 32, 0, .ro⟩]⟩
  , ⟨.mer, 0x18, 1, 4, .single, [⟨F.MER_COVERED_COVERED, 0, 17, 0, .ro⟩]⟩
  , ⟨.mer, 0x1c, 1, 4, .single, [⟨F.MER_MISSING_FIRST, 0, 16, 0, .ro⟩, ⟨F.MER_MISSING_COUNT, 16, 16, 0, .ro⟩]⟩
  , ⟨.mer, 0x20, 1, 4, .single, [⟨F.MER_CURSOR0_VALUE, 0, 32, 0, .ro⟩]⟩
  , ⟨.mer, 0x24, 1, 4, .single, [⟨F.MER_CURSOR1_VALUE, 0, 32, 0, .ro⟩]⟩
  , ⟨.mer, 0x28, 1, 4, .single, [⟨F.MER_CURSOR2_VALUE, 0, 32, 0, .ro⟩]⟩
  , ⟨.mer, 0x2c, 1, 4, .single, [⟨F.MER_LSCALE_EXP, 0, 8, 0, .ro⟩, ⟨F.MER_LSCALE_RUN, 8, 16, 0, .ro⟩]⟩
  , ⟨.mer, 0x30, 1, 4, .single, [⟨F.MER_POLICY_LATE, 0, 3, 0, .rws⟩, ⟨F.MER_POLICY_NONFINITE, 3, 3, 0, .rws⟩, ⟨F.MER_POLICY_POISON, 6, 3, 0, .rws⟩, ⟨F.MER_POLICY_SHUTTER, 9, 3, 0, .rws⟩, ⟨F.MER_POLICY_FAULT, 12, 3, 0, .rws⟩, ⟨F.MER_POLICY_DAMAGE, 15, 3, 0, .rws⟩, ⟨F.MER_POLICY_DEPART, 18, 3, 0, .rws⟩, ⟨F.MER_POLICY_ESCALATE, 21, 3, 0, .rws⟩, ⟨F.MER_POLICY_REPLAY_LIMIT, 24, 4, 0, .rws⟩]⟩
  , ⟨.mer, 0x34, 1, 4, .single, [⟨F.MER_LSCFG_LS_MIN, 0, 8, 0, .rws⟩, ⟨F.MER_LSCFG_LS_MAX, 8, 8, 0, .rws⟩, ⟨F.MER_LSCFG_LS_GROWTH, 16, 16, 0, .rws⟩]⟩
  , ⟨.mer, 0x38, 1, 4, .single, [⟨F.MER_TIMEOUT_VOTE_TIMEOUT, 0, 16, 0, .rws⟩, ⟨F.MER_TIMEOUT_VOTE_RESEND, 16, 8, 0, .rws⟩, ⟨F.MER_TIMEOUT_VOTE_HOP, 24, 8, 0, .rws⟩]⟩
  , ⟨.mer, 0x3c, 1, 4, .single, [⟨F.MER_BUDGET_COMMIT_BUDGET, 0, 24, 0, .rws⟩]⟩
  , ⟨.mer, 0x40, 1, 4, .lo, [⟨F.MER_CKPT_STEP, 0, 32, 0, .ro⟩]⟩
  , ⟨.mer, 0x44, 1, 4, .hi, [⟨F.MER_CKPT_STEP, 0, 32, 32, .ro⟩]⟩
  , ⟨.mer, 0x48, 1, 4, .single, [⟨F.MER_COMMITS_COUNT, 0, 32, 0, .ro⟩]⟩
  , ⟨.mer, 0x4c, 1, 4, .single, [⟨F.MER_SKIPS_COUNT, 0, 32, 0, .ro⟩]⟩ ]

/-- Registers of block MER, part 1. -/
def regs_mer_1 : List RegWord :=
  [ ⟨.mer, 0x50, 1, 4, .single, [⟨F.MER_REPLAYS_COUNT, 0, 32, 0, .ro⟩]⟩
  , ⟨.mer, 0x54, 1, 4, .single, [⟨F.MER_ROLLBACKS_COUNT, 0, 32, 0, .ro⟩]⟩
  , ⟨.mer, 0x58, 1, 4, .single, [⟨F.MER_VOTE_TIME_TIME, 0, 32, 0, .ro⟩]⟩
  , ⟨.mer, 0x5c, 1, 4, .single, [⟨F.MER_COMMIT_TIME_TIME, 0, 32, 0, .ro⟩]⟩
  , ⟨.mer, 0x60, 1, 4, .single, [⟨F.MER_RECORD_PG_PAGE, 0, 32, 0, .rws⟩]⟩ ]

/-- Registers of block MCC, part 0. -/
def regs_mcc_0 : List RegWord :=
  [ ⟨.mcc, 0x0, 1, 4, .single, [⟨F.MCC_STATUS_SESSION, 0, 1, 0, .ro⟩, ⟨F.MCC_STATUS_SECURED, 1, 1, 0, .ro⟩, ⟨F.MCC_STATUS_BULK, 2, 1, 0, .ro⟩]⟩
  , ⟨.mcc, 0x4, 1, 4, .single, [⟨F.MCC_SESSION_ID, 0, 32, 0, .ro⟩]⟩
  , ⟨.mcc, 0x8, 1, 4, .single, [⟨F.MCC_CMDS_COUNT, 0, 32, 0, .ro⟩]⟩
  , ⟨.mcc, 0xc, 1, 4, .single, [⟨F.MCC_DUP_COUNT, 0, 32, 0, .ro⟩]⟩
  , ⟨.mcc, 0x10, 1, 4, .single, [⟨F.MCC_STALE_COUNT, 0, 32, 0, .ro⟩]⟩
  , ⟨.mcc, 0x14, 1, 4, .single, [⟨F.MCC_DROP_COUNT, 0, 32, 0, .ro⟩]⟩
  , ⟨.mcc, 0x18, 1, 4, .single, [⟨F.MCC_AUTHFAIL_COUNT, 0, 32, 0, .ro⟩]⟩
  , ⟨.mcc, 0x1c, 1, 4, .single, [⟨F.RES_SEAL_SEQ_SEQ, 0, 32, 0, .ro⟩]⟩
  , ⟨.mcc, 0x20, 1, 4, .single, [⟨F.RES_SRC_PAGE, 0, 32, 0, .ro⟩]⟩
  , ⟨.mcc, 0x24, 1, 4, .single, [⟨F.RES_STORE_PAGE, 0, 32, 0, .ro⟩]⟩
  , ⟨.mcc, 0x28, 1, 4, .single, [⟨F.RES_PAGES_PAGES, 0, 5, 0, .ro⟩]⟩ ]

/-- Registers of block PWR, part 0. -/
def regs_pwr_0 : List RegWord :=
  [ ⟨.pwr, 0x0, 1, 4, .single, [⟨F.PWR_STATUS_CLOCK, 0, 1, 0, .ro⟩, ⟨F.PWR_STATUS_FCST, 1, 1, 0, .ro⟩, ⟨F.PWR_STATUS_PMBUS_OK, 2, 1, 0, .ro⟩, ⟨F.PWR_STATUS_HW_REQ, 3, 4, 0, .ro⟩, ⟨F.PWR_STATUS_CAP_REQ, 7, 4, 0, .ro⟩, ⟨F.PWR_STATUS_WAKE_QUEUE, 11, 10, 0, .ro⟩]⟩
  , ⟨.pwr, 0x4, 1, 4, .single, [⟨F.PWR_PKG_AVG, 0, 12, 0, .ro⟩, ⟨F.PWR_PKG_PEAK, 12, 12, 0, .ro⟩]⟩
  , ⟨.pwr, 0x8, 1, 4, .single, [⟨F.PWR_CFG_GATE_AFTER, 0, 8, 0, .rws⟩]⟩
  , ⟨.pwr, 0x10, 1, 4, .lo, [⟨F.PWR_WAKES_COUNT, 0, 32, 0, .ro⟩]⟩
  , ⟨.pwr, 0x14, 1, 4, .hi, [⟨F.PWR_WAKES_COUNT, 0, 32, 32, .ro⟩]⟩
  , ⟨.pwr, 0x18, 1, 4, .single, [⟨F.PWR_SLOW_COUNT, 0, 32, 0, .ro⟩]⟩
  , ⟨.pwr, 0x1c, 1, 4, .single, [⟨F.PWR_QWAIT_COUNT, 0, 32, 0, .ro⟩]⟩
  , ⟨.pwr, 0x100, 14, 32, .single, [⟨F.PWR_RAIL_SET_SET, 0, 10, 0, .ro⟩, ⟨F.PWR_RAIL_SET_V, 10, 10, 0, .ro⟩]⟩
  , ⟨.pwr, 0x104, 14, 32, .single, [⟨F.PWR_RAIL_I_I, 0, 16, 0, .ro⟩]⟩
  , ⟨.pwr, 0x108, 14, 32, .single, [⟨F.PWR_RAIL_MIN_MIN, 0, 10, 0, .ro⟩, ⟨F.PWR_RAIL_MIN_VALID, 10, 1, 0, .w1c⟩]⟩
  , ⟨.pwr, 0x10c, 14, 32, .lo, [⟨F.PWR_RAIL_MINT_TIME, 0, 32, 0, .ro⟩]⟩
  , ⟨.pwr, 0x110, 14, 32, .hi, [⟨F.PWR_RAIL_MINT_TIME, 0, 32, 32, .ro⟩]⟩ ]

/-- Registers of block THM, part 0. -/
def regs_thm_0 : List RegWord :=
  [ ⟨.thm, 0x0, 1, 4, .single, [⟨F.THM_STATUS_WARN, 0, 3, 0, .ro⟩, ⟨F.THM_STATUS_THROTTLE, 3, 3, 0, .ro⟩, ⟨F.THM_STATUS_RATE, 6, 1, 0, .ro⟩, ⟨F.THM_STATUS_FAST, 7, 1, 0, .ro⟩, ⟨F.THM_STATUS_SUSPECT, 8, 1, 0, .ro⟩, ⟨F.THM_STATUS_BROKEN, 9, 1, 0, .ro⟩, ⟨F.THM_STATUS_LATCH_STRAP, 10, 1, 0, .ro⟩, ⟨F.THM_STATUS_LATCH_FUSE, 11, 1, 0, .ro⟩, ⟨F.THM_STATUS_FALLBACK_ONLY, 12, 1, 0, .ro⟩]⟩
  , ⟨.thm, 0x4, 1, 4, .single, [⟨F.THM_CFG_THR_DOME, 0, 8, 0, .rws⟩, ⟨F.THM_CFG_THR_LOGIC, 8, 8, 0, .rws⟩, ⟨F.THM_CFG_THR_SRAM, 16, 8, 0, .rws⟩, ⟨F.THM_CFG_STAGGER, 24, 1, 0, .rws⟩]⟩
  , ⟨.thm, 0x8, 1, 4, .single, [⟨F.THM_MAX_DOME, 0, 8, 0, .ro⟩, ⟨F.THM_MAX_LOGIC, 8, 8, 0, .ro⟩, ⟨F.THM_MAX_SRAM, 16, 8, 0, .ro⟩]⟩
  , ⟨.thm, 0xc, 1, 4, .single, [⟨F.THM_TRIP_SENSOR, 0, 11, 0, .ro⟩, ⟨F.THM_TRIP_CAUSE, 11, 2, 0, .ro⟩, ⟨F.THM_TRIP_VALID, 13, 1, 0, .w1c⟩]⟩
  , ⟨.thm, 0x10, 1, 4, .lo, [⟨F.THM_TRIP_TIME_TIME, 0, 32, 0, .ro⟩]⟩
  , ⟨.thm, 0x14, 1, 4, .hi, [⟨F.THM_TRIP_TIME_TIME, 0, 32, 32, .ro⟩]⟩
  , ⟨.thm, 0x18, 1, 4, .single, [⟨F.THM_TRIPS_COUNT, 0, 32, 0, .ro⟩]⟩
  , ⟨.thm, 0x1c, 1, 4, .single, [⟨F.THM_THROTTLE_MS_COUNT, 0, 32, 0, .ro⟩]⟩
  , ⟨.thm, 0x100, 32, 4, .single, [⟨F.THM_EST_EST, 0, 12, 0, .ro⟩, ⟨F.THM_EST_SUSPECT, 12, 1, 0, .ro⟩, ⟨F.THM_EST_FALLBACK, 13, 1, 0, .ro⟩]⟩
  , ⟨.thm, 0x1000, 1152, 4, .single, [⟨F.THM_SENSOR_TEMP, 0, 12, 0, .ro⟩, ⟨F.THM_SENSOR_STATE, 12, 2, 0, .ro⟩, ⟨F.THM_SENSOR_FAST, 14, 1, 0, .ro⟩]⟩ ]

/-- Registers of block FLT, part 0. -/
def regs_flt_0 : List RegWord :=
  [ ⟨.flt, 0x0, 1, 4, .single, [⟨F.FLT_STATUS_WORST, 0, 3, 0, .ro⟩, ⟨F.FLT_STATUS_ERRN, 3, 1, 0, .ro⟩, ⟨F.FLT_STATUS_ERRN_TIMER, 4, 1, 0, .ro⟩, ⟨F.FLT_STATUS_MGC_OK, 5, 1, 0, .ro⟩]⟩
  , ⟨.flt, 0x4, 1, 4, .single, [⟨F.FLT_CTL_ERRN_HOLD, 0, 1, 0, .rw⟩]⟩
  , ⟨.flt, 0x8, 1, 4, .single, [⟨F.FLT_FIRST_CODE, 0, 16, 0, .ro⟩, ⟨F.FLT_FIRST_CLASS, 16, 3, 0, .ro⟩, ⟨F.FLT_FIRST_ORIGIN, 19, 2, 0, .ro⟩, ⟨F.FLT_FIRST_VALID, 21, 1, 0, .w1c⟩]⟩
  , ⟨.flt, 0xc, 1, 4, .single, [⟨F.FLT_FIRST_UNIT_UNIT, 0, 16, 0, .ro⟩]⟩
  , ⟨.flt, 0x10, 1, 4, .lo, [⟨F.FLT_FIRST_TIME_TIME, 0, 32, 0, .ro⟩]⟩
  , ⟨.flt, 0x14, 1, 4, .hi, [⟨F.FLT_FIRST_TIME_TIME, 0, 32, 32, .ro⟩]⟩
  , ⟨.flt, 0x18, 1, 4, .single, [⟨F.FLT_HIST_HEAD_NEXT, 0, 6, 0, .ro⟩]⟩
  , ⟨.flt, 0x1c, 1, 4, .single, [⟨F.FLT_HIST_TOTAL_COUNT, 0, 32, 0, .ro⟩]⟩
  , ⟨.flt, 0x20, 1, 4, .single, [⟨F.FLT_SUPPRESSED_COUNT, 0, 32, 0, .ro⟩]⟩
  , ⟨.flt, 0x30, 6, 4, .single, [⟨F.FLT_COUNT_COUNT, 0, 32, 0, .ro⟩]⟩
  , ⟨.flt, 0x48, 1, 4, .single, [⟨F.FLT_WDOG_KEY, 0, 16, 0, .wo⟩]⟩
  , ⟨.flt, 0x4c, 1, 4, .single, [⟨F.FLT_MGC_RESTARTS, 0, 8, 0, .ro⟩, ⟨F.FLT_MGC_FAILED, 8, 1, 0, .ro⟩]⟩
  , ⟨.flt, 0x50, 1, 4, .single, [⟨F.FLT_SELF_VALID, 0, 1, 0, .ro⟩, ⟨F.FLT_SELF_COMPARE, 1, 1, 0, .ro⟩, ⟨F.FLT_SELF_PARITY, 2, 1, 0, .ro⟩]⟩
  , ⟨.flt, 0x100, 64, 16, .single, [⟨F.FLT_HIST_TIME_LO, 0, 32, 0, .ro⟩]⟩
  , ⟨.flt, 0x104, 64, 16, .single, [⟨F.FLT_HIST_TIME_HI, 0, 32, 0, .ro⟩]⟩
  , ⟨.flt, 0x108, 64, 16, .single, [⟨F.FLT_HIST_CODE, 0, 16, 0, .ro⟩, ⟨F.FLT_HIST_CLASS, 16, 3, 0, .ro⟩, ⟨F.FLT_HIST_ORIGIN, 19, 2, 0, .ro⟩]⟩
  , ⟨.flt, 0x10c, 64, 16, .single, [⟨F.FLT_HIST_UNIT, 0, 16, 0, .ro⟩]⟩
  , ⟨.flt, 0x800, 18, 4, .single, [⟨F.FLT_SHUTS_TILE, 0, 32, 0, .ro⟩]⟩
  , ⟨.flt, 0x880, 6, 4, .single, [⟨F.FLT_SHUTS_SLICE, 0, 32, 0, .ro⟩]⟩
  , ⟨.flt, 0x8a0, 6, 4, .single, [⟨F.FLT_SHUTS_CHANNEL, 0, 32, 0, .ro⟩]⟩ ]

/-- Registers of block FLT, part 1. -/
def regs_flt_1 : List RegWord :=
  [ ⟨.flt, 0x8c0, 6, 4, .single, [⟨F.FLT_SHUTS_PORT, 0, 32, 0, .ro⟩]⟩
  , ⟨.flt, 0x8e0, 12, 4, .single, [⟨F.FLT_SHUTS_LANE, 0, 32, 0, .ro⟩]⟩ ]

/-- Registers of block SEC, part 0. -/
def regs_sec_0 : List RegWord :=
  [ ⟨.sec, 0x0, 1, 4, .single, [⟨F.SEC_STATUS_ROLLBACK, 0, 8, 0, .ro⟩, ⟨F.SEC_STATUS_SVN, 8, 8, 0, .ro⟩, ⟨F.SEC_STATUS_POLICY_LOCK, 16, 1, 0, .ro⟩, ⟨F.SEC_STATUS_IMG_SIG, 17, 1, 0, .ro⟩, ⟨F.SEC_STATUS_CTRL_AUTH, 18, 1, 0, .ro⟩, ⟨F.SEC_STATUS_OWNER, 19, 1, 0, .ro⟩, ⟨F.SEC_STATUS_NETBOOT, 20, 1, 0, .ro⟩, ⟨F.SEC_STATUS_ROOT_SLOT, 21, 1, 0, .ro⟩, ⟨F.SEC_STATUS_FW_PENDING, 22, 1, 0, .ro⟩]⟩
  , ⟨.sec, 0x10, 12, 4, .single, [⟨F.SEC_FW_DIGEST_DIGEST, 0, 32, 0, .ro⟩]⟩
  , ⟨.sec, 0x40, 12, 4, .single, [⟨F.SEC_OWNER_DIGEST_DIGEST, 0, 32, 0, .ro⟩]⟩ ]

/-- Registers of block LOG, part 0. -/
def regs_log_0 : List RegWord :=
  [ ⟨.log, 0x0, 1, 4, .single, [⟨F.LOG_STATUS_PRESENT, 0, 1, 0, .ro⟩, ⟨F.LOG_STATUS_WRITABLE, 1, 1, 0, .ro⟩, ⟨F.LOG_STATUS_COMPACTING, 2, 1, 0, .ro⟩, ⟨F.LOG_STATUS_FILL, 8, 8, 0, .ro⟩, ⟨F.LOG_STATUS_BLOCKS, 16, 16, 0, .ro⟩]⟩
  , ⟨.log, 0x4, 1, 4, .lo, [⟨F.LOG_SEQ_SEQ, 0, 32, 0, .ro⟩]⟩
  , ⟨.log, 0x8, 1, 4, .hi, [⟨F.LOG_SEQ_SEQ, 0, 32, 32, .ro⟩]⟩
  , ⟨.log, 0xc, 1, 4, .single, [⟨F.LOG_PENDING_DEVICE, 0, 16, 0, .ro⟩, ⟨F.LOG_PENDING_SERVICE, 16, 16, 0, .ro⟩]⟩ ]

/-- The registers of one block. -/
def regTable : Block → List RegWord
  | .glb => regs_glb_0 ++ regs_glb_1 ++ regs_glb_2
  | .twr => regs_twr_0
  | .til => regs_til_0 ++ regs_til_1 ++ regs_til_2
  | .slc => regs_slc_0 ++ regs_slc_1
  | .mch => regs_mch_0 ++ regs_mch_1
  | .bnd => regs_bnd_0
  | .prt => regs_prt_0
  | .mer => regs_mer_0 ++ regs_mer_1
  | .mcc => regs_mcc_0
  | .pwr => regs_pwr_0
  | .thm => regs_thm_0
  | .flt => regs_flt_0 ++ regs_flt_1
  | .sec => regs_sec_0
  | .log => regs_log_0

end Sys2Proof.Machine
end

