-- ==== Sys2Proof/Machine/Map.lean ====
section
/-!
DEFINITION. Sparse tables: a list of keys and values in which an absent key holds a default. A write keeps the list
strictly ascending and lists no default value, so that equal tables are equal data.
-/
namespace Sys2Proof.Machine

/-- A table over numbers. -/
abbrev NMap (α : Type) := List (Nat × α)
/-- A table over pairs of numbers. -/
abbrev PMap (α : Type) := List ((Nat × Nat) × α)

/-- The value at a key; the default where the key is absent. -/
def mget {κ α : Type} [DecidableEq κ] (m : List (κ × α)) (k : κ) (d : α) : α :=
  match m with
  | [] => d
  | e :: r => if e.1 = k then e.2 else mget r k d

/-- The table without a key. -/
def merase {κ α : Type} [DecidableEq κ] (m : List (κ × α)) (k : κ) : List (κ × α) :=
  m.filter (fun e => decide (e.1 ≠ k))

/-- The table with an entry put before the first larger key. -/
def minsert {κ α : Type} (lt : κ → κ → Bool) (m : List (κ × α)) (k : κ) (v : α) : List (κ × α) :=
  match m with
  | [] => [(k, v)]
  | e :: r => if lt k e.1 then (k, v) :: e :: r else e :: minsert lt r k v

/-- The table with the value `v` at `k`, where `d` is the default. -/
def mput {κ α : Type} [DecidableEq κ] [DecidableEq α] (lt : κ → κ → Bool) (m : List (κ × α)) (k : κ) (v d : α) :
    List (κ × α) :=
  if v = d then merase m k else minsert lt (merase m k) k v

/-- The order of numbers. -/
def natLt (a b : Nat) : Bool := decide (a < b)

/-- The lexicographic order of pairs of numbers. -/
def pairLt (a b : Nat × Nat) : Bool := decide (a.1 < b.1) || (decide (a.1 = b.1) && decide (a.2 < b.2))

/-- Strictly ascending keys and no listed default. -/
def mwf {κ α : Type} [DecidableEq α] (lt : κ → κ → Bool) (m : List (κ × α)) (d : α) : Bool :=
  match m with
  | [] => true
  | [e] => decide (e.2 ≠ d)
  | e :: f :: r => decide (e.2 ≠ d) && lt e.1 f.1 && mwf lt (f :: r) d

end Sys2Proof.Machine
end

