-- ==== Sys2Proof/Machine/Types.lean ====
section
/-!
DEFINITION. The kinds of state of the tower, the arrays, the ephemeris, the lane units, the stores and the channels
(files 02 to 10 of spec/): plain data, one structure for each unit the spec names.
-/
namespace Sys2Proof.Machine

/-- One recorded event (R509) and the sidereal tick in which it reached the collector (R510). -/
structure Event where
  time : Nat
  code : Nat
  cls : Nat
  unit : Nat
  origin : Nat
  tick : Nat
  detail : List Nat := []
  deriving DecidableEq, Repr

/-! ## The tower (02) -/

/-- What the receiving end of a spine segment holds: a burst whose re-send was requested (R15), or a burst
that waits for its fixed delivery cycle (R16, R17). -/
inductive SpineHold where
  | resend (txn : Nat) (deliverAt : Nat)
  | held (txn : Nat) (deliverAt : Nat) (data : List Byte) (poisoned : Bool)
  deriving DecidableEq, Repr

/-- One spine segment: the bursts at its receiving end, oldest first, and the bursts and re-sends of the last second, newest
first, each with its time and whether it was a re-send (R19). -/
structure SpineSeg where
  holds : List SpineHold := []
  recent : List (Nat × Bool) := []
  weak : Bool := false
  deriving DecidableEq, Repr

/-- How a spine transfer ended at its delivery cycle (R16, R17, R36). -/
inductive SpineStatus where
  | good | poisoned | retry | partitionDown | discarded
  deriving DecidableEq, Repr

/-- The last delivery of the spine: what its receiving end handed on. -/
structure SpineOut where
  tile : Nat
  target : SpineEnd
  txn : Nat
  status : SpineStatus
  data : List Byte
  deriving DecidableEq, Repr

/-- The two PLLs of a layer: whether each is locked, and which drives the layer's clock (R27, R28). -/
structure PllPair where
  lockA : Bool := false
  lockB : Bool := false
  useB : Bool := false
  deriving DecidableEq, Repr

/-- A reset in progress: its tower, its layer (none for a partition reset), its origin and its start (R34 to R38), and whether
it closed shutters on the units of its domain, as a reset in a running job does. -/
structure ResetRec where
  tower : Nat
  layer : Option Nat
  origin : Nat
  start : Nat
  shut : Bool
  deriving DecidableEq, Repr

/-- A physical tile (R21 to R26): its aging offset in 2.5 mV steps, whether its aging history was whole at the start or its
monitors have met their target since (R24), when they were last evaluated, whether AGE_MARGIN_LOW stands recorded, and whether
all four met their target when last evaluated in the first light under way (R453). -/
structure PhysTile where
  age : Nat := 0
  ageKnown : Bool := false
  lastEval : Nat := 0
  marginRec : Bool := false
  met : Bool := false
  deriving DecidableEq, Repr

/-! ## Cube arrays (03, 04) -/

/-- An array descriptor, its fields as R46 gives them (M, K, N and S as numbers). -/
structure ADesc where
  m : Nat
  k : Nat
  n : Nat
  s : Nat
  aFmt : Nat
  wFmt : Nat
  oFmt : Nat
  finder : Bool
  aT : Bool
  wT : Bool
  accIn : Bool
  drain : Bool
  round : Nat
  aMx : Bool
  wMx : Bool
  oMx : Bool
  aBase : Nat
  wBase : Nat
  oBase : Nat
  opIndex : Nat
  deriving DecidableEq, Repr

/-- An operation in progress. Times are datapath cycles (assumption 20). `acc` is the accumulation under way and
`chunk` its next pass; `drained` counts finished drains and `drainEnds` lists the drain ends so far, oldest first. `waited` is the
wait of R57 before the first pass of `acc`. `poisonRerun` marks the re-run of a WBLOCK_POISON fault, and `kept` that its
WBLOCK_POISON_KEPT is recorded (R79). -/
structure ArrOp where
  desc : ADesc
  bundle : Nat
  rerun : Bool
  acc : Nat
  chunk : Nat
  passEnd : Nat
  drainEnds : List Nat
  drained : Nat
  passes : Nat
  poisonRerun : Bool
  kept : Bool := false
  waited : Nat := 0
  deriving DecidableEq, Repr

/-- One accumulator entry with its poison flag and its parity bit (R42, R103). -/
structure AccEntry where
  v : W32 := 0
  poison : Bool := false
  parity : Bool := false
  deriving DecidableEq, Repr

/-- A weight set: its format, the live rows of its K-chunk, and its elements with their poison marks and MX scales, column by
column (R40, R173). The scales are left out where the weights carry none. -/
structure WeightSet where
  fmt : Nat
  rows : Nat
  elems : List (Nat × Bool)
  scales : List Byte := []
  deriving DecidableEq, Repr

/-- A pending re-run (R73 to R75): the dome cycle from which it may begin, the pages whose page-code recovery it waits for,
whether a fault was WBLOCK_POISON, and the operations to run, the head of its chain first. -/
structure Rerun where
  readyAt : Nat
  pages : List Nat
  poison : Bool
  ops : List ADesc
  bundle : Nat
  deriving DecidableEq, Repr

/-- The matrix datapath of a logical tile. -/
structure ArrSt where
  op : Option ArrOp := none
  acc : NMap AccEntry := []
  chain : List ADesc := []
  lastOp : Option ADesc := none
  rerun : Option Rerun := none
  rest : List ADesc := []
  owner : Option Nat := none
  active : Option WeightSet := none
  shadow : Option WeightSet := none
  window : Nat := 0
  exempt : Nat := 0
  wait : Nat := 0
  deriving DecidableEq, Repr

/-! ## The ephemeris (05) -/

/-- Slots of a bundle that have not yet been issued. -/
structure SlotsLeft where
  ctl : Bool
  arr : Bool
  mov : Bool
  net : Bool
  lane : Bool
  deriving DecidableEq, Repr

/-- A fetched bundle: its index, its word and the descriptors it names (R112, R115, R46). -/
structure Fetched where
  idx : Nat
  word : Nat
  adesc : ADesc
  mdesc : Nat
  ndesc : Nat
  left : SlotsLeft
  deriving DecidableEq, Repr

/-- The kinds of transfer (Table: Slot operations). -/
inductive XKind where
  | load | store | coadd | mesh | turn | send | expect | coll
  deriving DecidableEq, Repr

/-- An outstanding transfer with the fields of its descriptor (R115). `left` counts the transactions, fragments or
blocks still to come, and `got` holds the data that has returned, by byte offset in the transfer. `unread` marks a transfer whose
read of the focal store waits for the finder (R66). -/
structure Xfer where
  id : Nat
  tile : Nat
  kind : XKind
  didx : Nat
  bundle : Nat
  size : Nat
  band : Nat
  opx : Nat
  loc : Nat
  remote : Nat
  arrival : Nat
  slack : Nat
  tag : Nat
  issue : Nat
  left : Nat
  got : NMap (List Byte × List Bool)
  late : Option Nat
  retry : Bool
  unread : Bool := false
  deriving DecidableEq, Repr

/-- A cause of the sync-group stall in force: the tile, the code of EPH_STATUS.CAUSE and what it waits for. -/
structure StallCause where
  tile : Nat
  cause : Nat
  key : Nat
  deriving DecidableEq, Repr

/-- An unretired bundle: the work of its slots that has not ended (R118). -/
structure Unretired where
  idx : Nat
  pending : Nat
  deriving DecidableEq, Repr

/-- The ephemeris unit of a logical tile. A TOKEN between LAUNCH and JOIN names its task, as the task's number plus 1, and the
LAUNCH's bundle (R118). -/
structure EphSt where
  queue : List Fetched := []
  nextFetch : Nat := 0
  refetch : Option (Nat × Nat) := none
  lastIssue : Option Nat := none
  gathered : Bool := false
  ended : Bool := false
  heldArray : Option Fetched := none
  unretired : List Unretired := []
  tokens : NMap (Nat × Nat) := []
  deriving DecidableEq, Repr

/-! ## The lane unit (06) -/

/-- The three kinds of entry of a mask stack (R153, R167). -/
inductive MaskEntry where
  | rejoin (mask : W32) (addr : Nat)
  | pend (mask : W32) (addr : Nat)
  | waiting (mask : W32) (addr : Nat) (bar : Nat)
  deriving DecidableEq, Repr

/-- What a resident group waits for. -/
inductive GroupWait where
  | none
  | globalLoad
  | release
  | fullRelease
  | groupBarrier (bar : Nat)
  | tileBarrier (bar : Nat)
  | namedBarrier (bar : Nat)
  | stackWait
  | macq
  deriving DecidableEq, Repr

/-- A lane of a vector register with its poison flag (R149). -/
structure LaneVal where
  v : W32 := 0
  poison : Bool := false
  deriving DecidableEq, Repr

/-- A scalar register with its poison flag (R149). -/
structure ScalVal where
  v : W64 := 0
  poison : Bool := false
  deriving DecidableEq, Repr

/-- A resident group (R146 to R155, R162 to R171). `draws` counts the instructions of the group that drew an open word. -/
structure Group where
  task : Nat
  index : Nat
  pc : Nat
  mask : W32
  exited : W32
  stack : List MaskEntry
  vreg : PMap LaneVal
  sreg : NMap ScalVal
  locks : List (Nat × Nat)
  lockStart : Option Nat
  wait : GroupWait
  active : Bool
  since : Nat
  barStart : NMap Nat
  stores : Nat
  halted : Bool
  draws : Nat := 0
  deriving DecidableEq, Repr

/-- What the issue rules need of an instruction (R150, R151): the ports it may take, whether it is a control, mask, lock, barrier or
memory instruction, the registers it reads and writes (v0 to v63 as 0 to 63, s0 to s31 as 64 to 95) and those a fragment product
adds to, its latency, and the unit whose issue interval it opens (0 for none) with the interval's length. -/
structure Issue where
  x : Bool
  y : Bool
  ctl : Bool := false
  reads : List Nat := []
  writes : List Nat := []
  adds : List Nat := []
  latency : Nat := 1
  kind : Nat := 0
  every : Nat := 1
  deriving DecidableEq, Repr

/-- An instruction issued in the cycle under way: its group's slot and its address. -/
structure Issued where
  slot : Nat
  pc : Nat
  k : Issue
  deriving DecidableEq, Repr

/-- A register of a slot whose result comes at a lane cycle (R151), and whether a fragment product writes it. -/
structure LatePut where
  slot : Nat
  reg : Nat
  at_ : Nat
  frag : Bool
  deriving DecidableEq, Repr

/-- A launched task that has not ended (R144 to R147). `late` holds STALL_CYCLES at the start of a stall of its JOIN. -/
structure Task where
  id : Nat
  code : Nat
  codeLen : Nat
  args : Nat
  cache : Bool
  barLog2 : Nat
  groups : Nat
  band : Nat
  token : Nat
  bundle : Nat
  commit : Bool
  resident : Bool
  slots : List Nat
  stores : Nat
  late : Option Nat
  deriving DecidableEq, Repr

/-- A line of the lane data cache, most recently used first in its set (R157). -/
structure LcLine where
  base : Nat
  data : List Byte
  poison : List Bool
  deriving DecidableEq, Repr

/-- An access of a group that waits for the home slice: loads fill lanes, each from a global address. -/
structure LaneAccess where
  slot : Nat
  reg : Nat
  scalar : Bool
  size : Nat
  lanes : List (Nat × Nat)
  lines : List Nat
  got : List LcLine
  prefetch : Bool
  deriving DecidableEq, Repr

/-- The lane unit of a logical tile, with what its issue rules keep: the lane cycle last issued in and its instructions, each slot's last
issue as a lane cycle plus 1, results still to come, and when each unit with an issue interval is free (R150, R151). -/
structure LaneSt where
  issueCyc : Nat := 0
  issues : List Issued := []
  last : NMap Nat := []
  late : List LatePut := []
  unitFree : NMap Nat := []
  groups : NMap (Option Group) := []
  tasks : List Task := []
  lines : List LcLine := []
  accesses : List LaneAccess := []
  tileBarStart : PMap Nat := []
  haltSlot : Option Nat := none
  parity : List Nat := []
  deriving DecidableEq, Repr

/-- A named barrier of the tile map section (R171): members, tiles arrived and the first arrival. -/
structure NamedBar where
  members : List Nat := []
  arrived : List Nat := []
  start : Option Nat := none
  deriving DecidableEq, Repr

/-! ## The deep store and the channels (07 to 10) -/

/-- What a transaction asks of a home slice or a channel. -/
inductive TxnKind where
  | read | write | turnRead | coadd
  deriving DecidableEq, Repr

/-- Who formed a transaction: a transfer, a lane, a slice for an overflow co-add (R223), or a slice for a write of its own to a
channel. -/
inductive TxnOwner where
  | xfer (id : Nat)
  | laneLoad (tile slot : Nat)
  | laneStore (tile slot task : Nat)
  | overflow
  | other
  deriving DecidableEq, Repr

/-- A transaction: one request of up to 256 bytes to one line (R269). `born` is when it was queued, in mount cycles;
`first` and `last` mark a locked sequence (R276). -/
structure Txn where
  id : Nat
  cls : Nat
  inst : Nat
  band : Nat
  kind : TxnKind
  addr : Nat
  len : Nat
  data : List Byte
  poison : List Bool
  owner : TxnOwner
  offset : Nat
  born : Nat
  hinted : Bool
  locked : Bool
  last : Bool
  deriving DecidableEq, Repr

/-- A request queue of a slice port or a channel controller with its arbiter (R271, R275, R276). -/
structure ReqQueue where
  queue : List Txn := []
  granted : List Txn := []
  congested : Bool := false
  lock : Option (Nat × Nat × Nat × Nat) := none
  deriving DecidableEq, Repr

/-- A transaction that waits outside a queue: refused by a target with an ETA hint, until the time given (R277), or
ended with RETRY by a reset (R37). -/
structure Refused where
  txn : Txn
  target : ReqTarget
  eta : Nat
  until_ : Nat
  retry : Bool
  deriving DecidableEq, Repr

/-- A co-add fragment (R216): the number of its transaction, the channel of its page or the slice of its scratch, its transfer's
REMOTE, SIZE and TAG, and its own data. -/
structure Frag where
  id : Nat
  xfer : Nat
  chan : Nat
  addr : Nat
  data : List Byte
  poison : List Bool
  remote : Nat
  size : Nat
  tag : Nat
  op : Nat
  deriving DecidableEq, Repr

/-- A line of a slice (R198, R205): its way, channel, channel-local line and LPDDR base, the mask of dirty bytes,
whether it was filled and whether it is pinned. A set lists its lines most recently used first. -/
structure CLine where
  way : Nat
  chan : Nat
  line : Nat
  base : Nat
  dirty : List Bool
  filled : Bool
  pinned : Bool
  deriving DecidableEq, Repr

/-- A candidate stream of the streak detector (R212). -/
structure Stream where
  last : Nat
  dir : Int
  run : Nat
  at_ : Nat
  deriving DecidableEq, Repr

/-- An overflow co-add in flight: its fragment's part of a line, the channel's write that ends it, and the accesses behind it
(R223). -/
structure OvfCoadd where
  frag : Frag
  write : Nat
  behind : List Txn
  deriving DecidableEq, Repr

/-- A read that waits for its channel (R204, R205), with the place its streak treatment gives a new line: 0 most recently
used, 1 least recently used, 2 not allocated (R213). -/
structure Miss where
  txn : Txn
  place : Nat
  deriving DecidableEq, Repr

/-- A home slice: detector, thrash window, co-add counters and window, folding. -/
structure SliceSt where
  rq : ReqQueue := {}
  streams : List Stream := []
  accesses : Nat := 0
  lookups : Nat := 0
  misses : Nat := 0
  pendingMiss : List Miss := []
  next : PMap Nat := []
  window : List Frag := []
  applied : List (Nat × Nat × Nat) := []
  ovf : List OvfCoadd := []
  ovfStep : Option Nat := none
  folding : Bool := false
  deriving DecidableEq, Repr

/-- A lamp run (R263, R264). -/
structure LampRun where
  start : Nat
  stopping : Bool
  deriving DecidableEq, Repr

/-- A channel controller: its queue, its refresh (the bank last refreshed, those refreshed in the round under way, and when), since
when the package has been 5 °C below each threshold, a change of the derating factor that waits for a refresh (R266), its lamp
and its spread. -/
structure ChanSt where
  rq : ReqQueue := {}
  bank : Nat := 0
  refreshed : List Nat := []
  lastRefresh : Nat := 0
  lastPoll : Nat := 0
  below : List (Nat × Nat) := []
  derateDue : Bool := false
  lamp : Option LampRun := none
  copy : Option Bool := none
  due : Option Bool := none
  bad : Bool := false
  deriving DecidableEq, Repr

/-- Pages of a channel moved by a spread (R258): pages of `orig` that lay in `failed` lie in `targets` by index. -/
structure SpreadGen where
  orig : Nat
  failed : Nat
  targets : List Nat
  deriving DecidableEq, Repr

/-- A page under recovery (R291, R292): the medium's page address, the failed word and the detection time. -/
structure Recovery where
  page : Nat
  word : Nat
  start : Nat
  deriving DecidableEq, Repr

/-- An interleave region of the store partition (R199). `tower` is none for a package-wide region. -/
structure Region where
  base : Nat
  size : Nat
  tower : Option Nat
  streak : Nat
  pageCode : Bool
  watched : Bool
  deriving DecidableEq, Repr

end Sys2Proof.Machine
end

