-- ==== Sys2Proof/Machine/ImgTypes.lean ====
section
/-!
DEFINITION. What an image gives the device (13, Table: Section records), and the state of the links and services (11).
-/
namespace Sys2Proof.Machine

/-! ## The image (13) -/

/-- A record of a section: its kind, its body and its byte offset in the image (R399). -/
structure Rec where
  kind : Nat
  body : List Byte
  off : Nat
  deriving DecidableEq, Repr

/-- A section: its TYPE, its FLAGS and its records (R398). -/
structure Sect where
  type : Nat
  flags : Nat
  off : Nat
  recs : List Rec
  deriving DecidableEq, Repr

/-- A parsed image: the header fields (R397), the sections and the digest of its signature section. -/
structure Image where
  kind : Nat
  minSpares : Nat
  job : Nat
  imageId : Nat
  length : Nat
  seed : Nat
  fuseBind : Nat
  fuseFormat : Nat
  applyStep : Nat
  baseDigest : List Byte
  sects : List Sect
  digest : List Byte
  deriving DecidableEq, Repr

/-- A ROUTE record (R331). -/
structure Route where
  stream : Nat
  peer : Nat
  vlan : Nat
  cls : Nat
  mac : Nat
  ip : Nat
  primary : Nat
  alternate : Nat
  tPathP : Nat
  tWireP : Nat
  tPathA : Nat
  tWireA : Nat
  hold : Nat
  deriving DecidableEq, Repr

/-- A phase of a COLLECTIVE record (Table: Collective phase). -/
structure CollPhase where
  type : Nat
  algo : Nat
  opx : Nat
  cls : Nat
  band : Nat
  p : Nat
  i : Nat
  src : Nat
  dst : Nat
  chunk : Nat
  members : List Nat
  deriving DecidableEq, Repr

/-- A COLLECTIVE record. -/
structure Collective where
  id : Nat
  phases : List CollPhase
  deriving DecidableEq, Repr

/-- A VLAN record (R316). -/
structure Vlan where
  vid : Nat
  learn : Bool
  ports : Nat
  deriving DecidableEq, Repr

/-- An entry of the forwarding database (R315). -/
structure FdbEntry where
  vid : Nat
  mac : Nat
  egress : Nat
  alt : Nat
  static_ : Bool
  deriving DecidableEq, Repr

/-- A TARGET record (R350, R351). -/
structure Target where
  role : Nat
  order : Nat
  ip : Nat
  nsid : Nat
  nqn : List Byte
  deriving DecidableEq, Repr

/-- A DATASET record (R347). -/
structure Dataset where
  shards : Nat
  recordBytes : Nat
  records : Nat
  batch : Nat
  d : Nat
  role : Nat
  k : Nat
  seed : Nat
  base : Nat
  deriving DecidableEq, Repr

/-- A TELEMETRY record (R354). -/
structure Telemetry where
  collector : Nat
  udp : Nat
  egress : Nat
  period : Nat
  enterprise : Nat
  deriving DecidableEq, Repr

/-- A PARENT or CHILD record (R372). `members` is the subtree's member count. -/
structure TreeNode where
  index : Nat
  mac : Nat
  port : Nat
  members : Nat
  deriving DecidableEq, Repr

/-- A COMMIT_TASK record (R380). -/
structure CommitTask where
  tile : Nat
  task : Nat
  groups : Nat
  band : Nat
  deriving DecidableEq, Repr

/-- What the active image set beside registers (13): the store partition, the tile map, the network, the meridian's tree
and the tables of the services. -/
structure ActS where
  image : Option Image := none
  staged : Option Image := none
  stagedBase : Nat := 0
  granules : List Nat := []
  stagedId : Nat := 0
  copyLost : Bool := false
  clockDue : Option Nat := none
  sweepDue : List Region := []
  live : Bool := false
  digest : List Byte := []
  regions : List Region := []
  hints : List (Nat × Nat × Nat) := []
  committed : List (Nat × Nat) := []
  pinned : List (Nat × Nat) := []
  upd : List (List Nat) := []
  areas : List Nat := []
  seed : Nat := 0
  job : Nat := 0
  slewReserve : Nat := 0
  bandCkpt : Nat := 0
  bandLoader : Nat := 0
  bandUpdate : Nat := 0
  linkMac : Nat := 0
  hostMac : Nat := 0
  linkIp : Nat := 0
  hostIp : Nat := 0
  resendMin : Nat := 1
  schedBuf : Nat := 0
  vlans : List Vlan := []
  portSets : List (Nat × Nat) := []
  fdb : List FdbEntry := []
  gates : List (Nat × List Nat) := []
  routes : List Route := []
  colls : List Collective := []
  synce : List Nat := [255]
  ptp : List (Nat × Nat) := [(255, 1)]
  telemetry : Option Telemetry := none
  targets : List Target := []
  dataset : Option Dataset := none
  caks : List (Nat × List Byte) := []
  cages : List (Nat × Nat) := []
  n : Nat := 0
  index : Nat := 0
  initE : Nat := 0
  ckptInterval : Nat := 0
  firstStep : Nat := 0
  parent : Option TreeNode := none
  children : List TreeNode := []
  commitTasks : List CommitTask := []
  stagger : List Byte := []
  deriving DecidableEq, Repr

/-! ## Links (11) -/

/-- The state of a port beside its registers: when it last came up, the times it went down, when its training began, a
shutter that waits for a commit point, its gate list position, whether MKA has secured it, whether its cage holds a
module, and whether its neighbour matches the image. -/
structure PortSt where
  upSince : Option Nat := none
  downs : List Nat := []
  trainStart : Option Nat := none
  shutterDue : Bool := false
  gate : Nat := 0
  gateStart : Nat := 0
  secured : Bool := false
  lldpOk : Bool := true
  deriving DecidableEq, Repr

/-- A block in a replay buffer, or a collective's block that waits for room in one (R324, R328): its traffic class, when it
was sent, and whether a re-send is due. -/
structure TxBlock where
  hdr : BlockFrame
  port : Nat
  cls : Nat
  sent : Option Nat
  hold : Nat
  resend : Bool
  deriving DecidableEq, Repr

/-- The reception of an EXPECT or a collective (R326, R327): the sender and SEQ of each block that has come, the NAKs sent for
each block, and the time of the last NAK. -/
structure RecvSt where
  xfer : Nat
  coll : Bool
  stream : Nat
  landed : List (Nat × Nat)
  naks : PMap Nat
  lastNak : Option Nat
  arrivalNak : Bool
  deriving DecidableEq, Repr

/-- A block held in the pier with the port it came in on: for an EXPECT or COLL not yet issued (R125), or for the transfer
whose landing an extent in use holds (R120). -/
structure HeldBlock where
  port : Nat
  blk : BlockFrame
  xfer : Option Nat
  deriving DecidableEq, Repr

/-- A collective in progress (R343 to R346): its transfer, its phase, the sender and SEQ of each block applied, and received
blocks that wait for their turn. -/
structure CollRun where
  xfer : Nat
  id : Nat
  phase : Nat
  applied : List (Nat × Nat)
  waiting : List BlockFrame
  deriving DecidableEq, Repr

/-- The Ethernet, IPv4 and UDP fields of a block frame (R323). -/
structure BlockHead where
  dmac : Nat
  smac : Nat
  vid : Nat
  pcp : Nat
  sip : Nat
  dip : Nat
  dscp : Nat
  ecn : Nat
  df : Bool
  ident : Nat
  ttl : Nat
  sport : Nat
  dport : Nat
  deriving DecidableEq, Repr

/-- A forwarded frame that waits in its ingress pier for the gate of its class at its egress port (R321). -/
structure GatedFrame where
  port : Nat
  ingress : Nat
  frame : EthFrame
  invert : Bool
  deriving DecidableEq, Repr

/-- What the device sends out, in the order it sends it. -/
inductive OutFrame where
  | block (port : Nat) (head : BlockHead) (b : BlockFrame)
  | forward (port : Nat) (f : EthFrame) (invertFcs : Bool)
  | vote (port mac : Nat) (v : VoteFrame)
  | mcc (b : List Byte)
  | rdma (data : Option (List Byte))
  | ptpSync (port time : Nat)
  | esmc (ql : Nat)
  | ipfix (port collector udp enterprise template : Nat) (words : List Nat)
  | storageRead (ip nsid off len : Nat)
  | storageWrite (ip nsid slot : Nat) (header : List Nat)
  | fcst (link value : Nat)
  | led (bits : Nat)
  | tdo (value : Nat) (len : Nat)
  | pmbus (rail value : Nat)
  deriving DecidableEq, Repr

/-- The loader (R347 to R350): the cursor of the next record to be staged, the step it belongs to, the records staged so
far for it, the steps staged in full, and the target in use. -/
structure LoaderSt where
  epoch : Nat := 0
  pos : Nat := 0
  record : Nat := 0
  step : Nat := 0
  count : Nat := 0
  staged : List Nat := []
  target : Nat := 0
  waiting : Bool := false
  askedAt : Nat := 0
  deriving DecidableEq, Repr

/-- A snapshot (R351, R352): its step, the old versions of pages written since, its write's position and whether its write
has completed, and the target it goes to. -/
structure Snapshot where
  step : Nat
  record : List Byte
  old : List (Nat × List Byte × List Bool)
  writing : Bool
  done : Bool
  failed : Bool
  target : Nat
  deriving DecidableEq, Repr

/-- Links and services. -/
structure NetS where
  ports : NMap PortSt := []
  learned : List FdbEntry := []
  txq : List TxBlock := []
  replay : List TxBlock := []
  recv : List RecvSt := []
  held : List HeldBlock := []
  ended : List (Nat × Nat) := []
  colls : List CollRun := []
  detours : List (Nat × Nat) := []
  out : List OutFrame := []
  gated : List GatedFrame := []
  rx : List EthFrame := []
  synceBad : List Nat := []
  ptpLast : Option Nat := none
  ptpDue : Option Int := none
  lastSync : Nat := 0
  lastTlm : Nat := 0
  syncOut : Nat := 0
  loader : LoaderSt := {}
  named : Option Snapshot := none
  newer : Option Snapshot := none
  slot : Nat := 1
  deriving DecidableEq, Repr

end Sys2Proof.Machine
end

