-- ==== Sys2Proof/Machine/SysTypes.lean ====
section
/-!
DEFINITION. The state of the control channel (14), of bring-up (15), power (16), temperature (17), security and the
logbook (19) and the pins (20).
-/
namespace Sys2Proof.Machine

/-! ## The control channel (14) -/

/-- A kept response (R427): its SEQUENCE and the frames of the response. -/
structure Kept where
  seq : Nat
  frames : List (List Byte)
  deriving DecidableEq, Repr

/-- A session (R424 to R427): its number, whether it is a provisioning session (R535), its CAK and CKN, the time of its
AUTH response, the highest SEQUENCE executed and the kept responses, newest first. -/
structure Session where
  id : Nat
  provisioning : Bool
  keys : List Byte
  authAt : Nat
  top : Option Nat
  kept : List Kept
  deriving DecidableEq, Repr

/-- A session setup in progress (R424): the HELLO response, the digest T and the shared secret once KEX has run. -/
structure Setup where
  hello : List Byte
  kex : Option (List Byte × List Byte)
  deriving DecidableEq, Repr

/-- Fragments of a request that have arrived (R422), with the time of the first. -/
structure Frags where
  opcode : Nat
  session : Nat
  seq : Nat
  start : Nat
  parts : NMap (List Byte)
  last : Option Nat
  deriving DecidableEq, Repr

/-- The RoCEv2 connection of the session (R439). -/
structure Bulk where
  hostQpn : Nat
  gid : List Byte
  qpn : Nat
  deriving DecidableEq, Repr

/-- A result slot (R438): 0 unused, 1 PENDING, 2 SEALED, with what its header holds. -/
structure Slot where
  state : Nat := 0
  step : Nat := 0
  sealSeq : Nat := 0
  word : Nat := 0
  time : Nat := 0
  exp : Nat := 0
  deriving DecidableEq, Repr

/-- A job accepted and not yet open (R433), or the image role taken by SPARE_TAKE (R436). -/
structure JobReq where
  mark : Nat
  fromCkpt : Bool
  ckptStep : Nat
  deriving DecidableEq, Repr

/-- The control channel and the results. `work` lists the opcodes whose accepted work still runs (R428). `staging`,
`results` and `debug` are the windows open on the bulk connection, each an address and a key, the last with its tile first
(R439). `before` is the
slot of the step in progress as it was before its epoch mark. -/
structure MccS where
  session : Option Session := none
  fresh : Option Session := none
  setup : Option Setup := none
  endedIds : List Nat := []
  frags : List Frags := []
  inbox : List (Nat × MccReq) := []
  bulk : Option Bulk := none
  staging : Option (Nat × Nat) := none
  results : Option (Nat × Nat) := none
  debug : Option (Nat × Nat × Nat) := none
  work : List Nat := []
  slots : NMap Slot := []
  before : Slot := {}
  job : Option JobReq := none
  stopStep : Option Nat := none
  spare : Option JobReq := none
  deriving DecidableEq, Repr

/-! ## Bring-up (15) -/

/-- Off, Dark, or the states that DEV_STATE shows (R442). -/
inductive Place where
  | off | dark | up
  deriving DecidableEq, Repr

/-- Bring-up: where the device is, t0 of the start in progress, the start of its phase, whether the start came from Sleep,
whether core collimation runs, whether first light has ended, netboot (R532), the fuse map by byte, the instant since which
RESET_N is low, the end of the internal reset (R566), the instant at which VAON came into range, whether the rate step of R256 was taken, and the packages read. -/
structure BootS where
  place : Place := .up
  t0 : Nat := 0
  phaseStart : Nat := 0
  fromSleep : Bool := false
  core : Bool := false
  lightDone : Bool := false
  netboot : Bool := false
  fuse : NMap Nat := [(0, 1), (2, 0xB0)]
  resetLow : Option Nat := none
  resetEnd : Option Nat := none
  vaonAt : Nat := 0
  rateStepped : Bool := false
  packages : List PkgId := []
  deriving DecidableEq, Repr

/-! ## Power (16) -/

/-- A package rail: enabled, since when, power good, and what PMBus last read. -/
structure Rail where
  on : Bool := false
  since : Nat := 0
  good : Bool := false
  deriving DecidableEq, Repr

/-- The trim regulator of a physical tile (R463, R466): its power state (0 OFF, 1 RETAIN, 2 ON, 3 waking), the state
before its wake, its quota in 2.5 mV steps, whether the quota is settled, when the tile's first 10 s in Tracking began, the
last evaluation, the estimator in 0.1 A, and the recorder's value at the last evaluation. -/
structure TileP where
  state : Nat := 0
  wakeFrom : Nat := 0
  quota : Nat := 16
  settled : Bool := false
  tracked : Option Nat := none
  lastEval : Nat := 0
  current : Nat := 0
  seenMin : Nat := 0x3FF
  deriving DecidableEq, Repr

/-- A wake ramp in progress (R469 to R471): its tile, whether it is slow, its start and its step in 0.1 A. -/
structure Ramp where
  phys : Nat
  slow : Bool
  start : Nat
  step : Nat
  deriving DecidableEq, Repr

/-- Power: rails, the rails still to be enabled in order with the one enabled at its head, tiles, the wakes that wait with
the time of each request, ramps, PMBus polls missed, package power of the last 10 polls in W, the times and sums of R473
and R474, a request of R474 that waits for its frame boundary, and the gated hold of R467. -/
structure PowerS where
  rails : NMap Rail := [(6, { on := true }), (11, { on := true, good := true }), (13, { on := true, good := true })]
  order : List Nat := [6, 7, 8, 9, 10, 5, 4]
  tiles : NMap TileP := []
  queue : List (Nat × Nat) := []
  ramps : List Ramp := []
  misses : Nat := 0
  watts : List Nat := []
  capAt : Nat := 0
  capLow : Option Nat := none
  sums : List Nat := [0, 0, 0, 0]
  samples : Nat := 0
  estAt : Nat := 0
  lowSince : Option Nat := none
  overSince : NMap (Option Nat) := []
  hwDue : Bool := false
  gated : Bool := false
  holdStart : Option Nat := none
  deriving DecidableEq, Repr

/-! ## Temperature (17) -/

/-- A thermal sensor (R483 to R489): its offset, the conversions missed in a row, the 16 kHz grid instant of its last sample
and of the last one that asked for fast sampling, and its readings in 0.125 °C, newest first with their grid instants. -/
structure Sensor where
  offset : Int := 0
  misses : Nat := 0
  broken : Bool := false
  fast : Bool := false
  sampled : Option Nat := none
  hot : Option Nat := none
  reads : List (Nat × Int) := []
  deriving DecidableEq, Repr

/-- A layer of a tower under the model and the fallback (R492 to R494): estimates in millionths of a degree, the starts of
the spells below them, and the fitted resistance of the interface above it in µK/W. -/
structure LayerT where
  est : Int := 0
  fallback : Int := 0
  low : Option Nat := none
  fbLow : Option Nat := none
  suspect : Bool := false
  r : Nat := 3500
  deriving DecidableEq, Repr

/-- Temperature: sensors, layers, the 1 ms intervals of R488 with whether in the one in progress a control reading exceeded its
throttle threshold or came within 3 °C of it, a rate of rise that waits for its frame boundary and its instant, the trip of R498 to
R501 with the instant since which every good sensor has read below 70 °C, a restart of R500 that Twilight is to record, THERM_LATCH
as last sampled, and THERMTRIP_N. -/
structure ThermS where
  sensors : NMap Sensor := []
  layers : NMap LayerT := []
  excess : Bool := false
  warm : Bool := false
  interval : Nat := 0
  coolSince : Option Nat := none
  rateDue : Bool := false
  rateAt : Option Nat := none
  held : Bool := false
  coldSince : Option Nat := none
  restarted : Bool := false
  latch : Bool := false
  pin : Bool := false
  deriving DecidableEq, Repr

/-! ## Security and the logbook (19) -/

/-- The security fuses (R524). -/
structure SecFuses where
  rootRsa : List (List Byte) := []
  rootSlh : List (List Byte) := []
  revoke : Bool := false
  rollback : Nat := 0
  idSeed : List Byte := []
  policyLock : Bool := false
  deriving DecidableEq, Repr

/-- A firmware set as its manifest gives it (R525). -/
structure FwSet where
  set : Nat
  svn : Nat
  burn : Bool
  version : Nat
  digest : List Byte
  deriving DecidableEq, Repr

/-- A record of the journal (R542), with a mark that its CRC fails. -/
structure LogRec where
  type : Nat
  flags : Nat
  seq : Nat
  key : Nat
  body : List Byte
  bad : Bool
  deriving DecidableEq, Repr

/-- A block of the flash in use (R541). -/
structure LogBlock where
  index : Nat
  gen : Nat
  first : Nat
  recs : List LogRec
  deriving DecidableEq, Repr

/-- An entry of the change log (R547). -/
structure Change where
  time : Nat
  origin : Nat
  kind : Nat
  session : Nat
  addr : Nat
  old : Nat
  new : Nat
  deriving DecidableEq, Repr

/-- Security and the logbook: the fuses, the firmware running, the set before it, the set that waits for its switch; the
flash as its blocks in use, oldest first; the change buffer. -/
structure LogS where
  fuses : SecFuses := {}
  running : Option FwSet := none
  before : Option FwSet := none
  next : Option FwSet := none
  reverted : List Nat := []
  runSince : Nat := 0
  switchedAt : Option Nat := none
  restart : Bool := false
  netRecs : List LogRec := []
  size : Nat := 4096
  blocks : List LogBlock := []
  gen : Nat := 0
  seq : Nat := 1
  lastCommit : Nat := 0
  compact : Option Nat := none
  changes : List Change := []
  changeAt : Nat := 0
  lost : Nat := 0
  deriving DecidableEq, Repr

/-! ## Pins (20) -/

/-- The pins: THERM_LATCH as driven, the service button, a refused drain's blinking, the frame last shifted out, and the
TAP with its boundary register. -/
structure PinS where
  latch : Bool := false
  blink : Option Nat := none
  led : Nat := 0
  ledAt : Nat := 0
  bypass : Bool := false
  boundary : Nat := 0
  driven : Option Nat := none
  deriving DecidableEq, Repr

end Sys2Proof.Machine
end

