-- ==== Sys2Proof/Machine/State.lean ====
section
/-!
DEFINITION. The state of the block: everything the spec gives the device, in one structure of plain data, grouped by the
chapter that gives it. Every register of the spec's register tables has its fields in `Sys.regs`.
-/
namespace Sys2Proof.Machine

/-- Time and clocks. Device time and elapsed time count units of 1/217 ns, in which a dome cycle of Full mode is 124
and of Sustain mode 140 (R3, R4; assumption 5). -/
structure Clk where
  mono : Nat := 0
  dev : Nat := 0
  cyc : Nat := 0
  held : Nat := 0
  stalled : Nat := 0
  laneCyc : Nat := 0
  running : Bool := false
  deriving DecidableEq, Repr

/-- Register fields by field and unit, the latched high halves of R6, the value last read over the register bus, and
the counter that free values are drawn by (the model's own field, assumption 2). -/
structure Sys where
  regs : PMap Nat := []
  latch : PMap Nat := []
  busRead : W32 := 0
  free : Nat := 0
  deriving DecidableEq, Repr

/-- Stored data (07, 08, 10): the bytes of LPDDR, scratch, the focal windows and the cache ways; the side bits of each
32-byte word; page-code symbols; channels whose contents were lost, each with the spreads then in force, and the words
written since (R260); spreads, and the channels whose pages no reserve could take (R259); words under recovery; the recoveries of each focal column and slice in the last second,
and those whose shutter is due for them (R310); when the patrol last visited each store (R295). -/
structure StoreS where
  mem : List Host.Cell := []
  side : NMap Nat := []
  pcode : NMap Nat := []
  lost : List (Nat × List SpreadGen) := []
  fresh : NMap Bool := []
  spreads : List SpreadGen := []
  short : List Nat := []
  recov : List Recovery := []
  repeats : PMap (List Nat) := []
  repeatDue : List (Nat × Nat) := []
  visits : List ((Nat × Nat) × Nat) := []
  deriving DecidableEq, Repr

/-- Where the logical rows of a dome column lie, and its spare row if it has one left (R391, R453). -/
structure ColMap where
  rows : List Nat := [0, 1, 2, 3, 4, 5, 6, 7]
  spare : Option Nat := some 8
  deriving DecidableEq, Repr

/-- The towers (02): `steer` lists the failed TSVs that are steered to spares, by segment (its tile and end), and `retest` the
segments that R19 has flagged for the next start. -/
structure TowerS where
  spine : PMap SpineSeg := []
  out : Option SpineOut := none
  pll : PMap PllPair := []
  resets : List ResetRec := []
  phys : NMap PhysTile := []
  cols : NMap ColMap := []
  slews : List (Nat × Nat) := []
  steer : List (Nat × Nat × Nat) := []
  retest : List (Nat × Nat) := []
  deriving DecidableEq, Repr

/-- The ephemeris of the device (05): the tiles' units, transfers, the stall in force, the pause frame and the segment. -/
structure EphS where
  tiles : NMap EphSt := []
  xfers : List Xfer := []
  nextId : Nat := 0
  causes : List StallCause := []
  stallStart : Option Nat := none
  stallLeaving : Bool := false
  frame : Nat := 0
  inSlot : Bool := false
  slotUntil : Nat := 0
  nextMark : Option Nat := none
  inSegment : Bool := false
  abandoned : Bool := false
  debugHalt : Bool := false
  haltLeaving : Bool := false
  deriving DecidableEq, Repr

/-- The lane units and the named barriers (06). -/
structure LaneS where
  tiles : NMap LaneSt := []
  bars : NMap NamedBar := []
  nextTask : Nat := 0
  deriving DecidableEq, Repr

/-- Slices, channels, their sets and the requests on their way (07 to 09). -/
structure DeepS where
  slices : NMap SliceSt := []
  sets : PMap (List CLine) := []
  chans : NMap ChanSt := []
  frags : List Frag := []
  heldReq : List Txn := []
  refused : List Refused := []
  done : List (Txn × List Byte × List Bool) := []
  outstanding : PMap Nat := []
  nextTxn : Nat := 0
  scaleDue : Option Nat := none
  deriving DecidableEq, Repr

/-- The fault collector (18): `firstTick` is the sidereal tick of the event that FLT_FIRST holds (R510, R511). -/
structure FltS where
  hist : List Event := []
  recent : List Event := []
  overrides : NMap Nat := []
  errnEnd : Option Nat := none
  fedAt : Nat := 0
  stops : List Nat := []
  coreUp : Bool := true
  coreRestart : Option Nat := none
  selfTick : Option Nat := none
  firstTick : Option Nat := none
  toLog : List Event := []
  toTlm : List Event := []
  deriving DecidableEq, Repr

/-- The meridian (12): the verdict bits of the step in progress and the causes that belong to the next step (R368), the
two bits of R369 and R370; the frames received, sent and held in the vote round and the close round under way; the work
of the decision, and the steps' rollback and loads; the step and attempt voted on, and the decisions of the rounds before (R376). -/
structure MerS where
  verdict : Nat := 0
  nextClear : Nat := 0
  intact : Bool := true
  remains : Bool := true
  entry : Option Nat := none
  ups : List VoteFrame := []
  gone : List Nat := []
  up : Option VoteFrame := none
  upAt : Nat := 0
  upFirst : Nat := 0
  down : Option VoteFrame := none
  resume : Bool := false
  closeDue : Bool := false
  closeUps : List VoteFrame := []
  closeGone : List Nat := []
  closeUp : Option VoteFrame := none
  closeAt : Nat := 0
  closeFirst : Nat := 0
  closeDown : Option VoteFrame := none
  decision : Nat := 0
  working : Bool := false
  workStart : Nat := 0
  lateRec : Bool := false
  entries : List Nat := []
  tasksDue : Bool := false
  commitFault : Bool := false
  rolling : Option Nat := none
  loading : Option Nat := none
  loaded : Bool := false
  escalated : List Nat := []
  snapDue : Bool := false
  vstep : Nat := 0
  attempt : Nat := 0
  lastDown : Option VoteFrame := none
  lastClose : Option VoteFrame := none
  deriving DecidableEq, Repr


/-- The state of the block: the device, and the queue of commands that wait, first in, first out. -/
structure State where
  pending : List Instr := []
  clk : Clk := {}
  sys : Sys := {}
  store : StoreS := {}
  tower : TowerS := {}
  arr : NMap ArrSt := []
  eph : EphS := {}
  lane : LaneS := {}
  deep : DeepS := {}
  flt : FltS := {}
  mer : MerS := {}
  act : ActS := {}
  net : NetS := {}
  mcc : MccS := {}
  boot : BootS := {}
  pwr : PowerS := {}
  thm : ThermS := {}
  log : LogS := {}
  pin : PinS := {}
  deriving DecidableEq, Repr

/-- The block right after the release of RESET_N: Twilight, every register at the value the spec gives for reset, nothing
stored, no command waiting (assumption 6). -/
def State.reset : State := {}

/-- Why a step of the block stops with a fault. No command of the spec stops the block (NOTES.md, Stops), so no meaning
answers with one; raised by none, and safe. -/
inductive Fault where
  /-- Never raised: the spec gives no command an effect that stops the block. Safe. -/
  | none
  deriving DecidableEq, Repr

/-- Why a step of the block is refused. -/
inductive Refusal where
  /-- A command whose meaning is not written, by its mnemonic; raised by exec alone. Safe: the run stops. -/
  | notModelled (mnemonic : String)
  deriving DecidableEq, Repr

/-- What a command answers. -/
abbrev Out := Host.Outcome State Fault Refusal

end Sys2Proof.Machine
end

