-- ==== Sys2Proof/Machine/Ops.lean ====
section
/-!
DEFINITION. The named operations over the state: register fields, time, the fault collector's recording of an event and
its class reactions (18), and the verdict bits (R368 to R370).
-/
namespace Sys2Proof.Machine

/-! ## Register fields -/

/-- The value of a field in a unit. -/
def getF (s : State) (f : Field) (u : Nat) : Nat := mget s.sys.regs (f.id, u) f.reset

/-- A field of a unit set to a value, cut to the field's width. -/
def setF (s : State) (f : Field) (u v : Nat) : State :=
  { s with sys := { s.sys with regs := mput pairLt s.sys.regs (f.id, u) (v % 2 ^ f.width) f.reset } }

/-- A one-bit field set to a truth value. -/
def setB (s : State) (f : Field) (u : Nat) (b : Bool) : State := setF s f u b.toNat

/-- A one-bit field as a truth value. -/
def getB (s : State) (f : Field) (u : Nat) : Bool := getF s f u != 0

/-- A counter raised by `n`, stopping at its largest value (R395, R441, R503, R520). -/
def incF (s : State) (f : Field) (u n : Nat) : State := setF s f u (min (getF s f u + n) (2 ^ f.width - 1))

/-- A field back at its reset value in every unit. -/
def clearField (s : State) (f : Field) : State :=
  { s with sys := { s.sys with regs := s.sys.regs.filter (fun e => e.1.1 != f.id) } }

/-! ## Time -/

/-- Device time in ns (Figures, units and time). -/
def nowNs (s : State) : Nat := s.clk.dev / 217

/-- Time since the start of the model, in ns. -/
def elapsedNs (s : State) : Nat := s.clk.mono / 217

/-- Mount cycles since the start of the model (1.40 GHz, R3). -/
def mountCyc (s : State) : Nat := s.clk.mono / 155

/-- Sidereal ticks of 10 ns. -/
def sidereal (s : State) : Nat := s.clk.mono / 2170

/-- The length of a dome cycle in units of 1/217 ns: 124 in Full mode, 140 in Sustain mode. -/
def domeUnits (s : State) : Nat := if getB s F.GLB_MODES_SUSTAIN 0 then 140 else 124

/-- Whether at least `ns` nanoseconds lie between an earlier elapsed time and now. -/
def passed (s : State) (since ns : Nat) : Bool := decide (since + ns ≤ elapsedNs s)

/-! ## Modes and states -/

/-- The device is in Bench (R12). -/
def inBench (s : State) : Bool := getB s F.GLB_MODES_BENCH 0
/-- The phase of the meridian (MER_PHASE). -/
def phase (s : State) : Nat := getF s F.MER_PHASE_PHASE 0
/-- The state of the device (DEV_STATE). -/
def devState (s : State) : Nat := getF s F.DEV_STATE_STATE 0
/-- Relaxed determinism mode (R138). -/
def relaxed (s : State) : Bool := getB s F.EPH_MODE_RELAXED 0

/-! ## Layers and partitions in reset (R33 to R38) -/

/-- A layer of a tower is in a layer reset or its partition is. -/
def inReset (s : State) (tower layer : Nat) : Bool :=
  s.tower.resets.any (fun r => r.tower == tower && (r.layer == some layer || r.layer == none))

/-- A partition reset of a tower runs. -/
def partitionDown (s : State) (tower : Nat) : Bool := s.tower.resets.any (fun r => r.tower == tower && r.layer == none)

/-- A reset that closed shutters acts on a layer (R33, R519). -/
def resetShuts (s : State) (tower layer : Nat) : Bool :=
  s.tower.resets.any (fun r => r.shut && r.tower == tower && (r.layer == some layer || r.layer == none))

/-- The mount that serves a slice, as a layer (Table: Index relations). -/
def mountOf (i : Nat) : Nat := if i % 48 < 24 then 2 else 4

/-- The plate that holds a slice, as a layer (Table: Index relations). -/
def plateOf (i : Nat) : Nat := 2 * (i % 48 / 16) + 1

/-- The slice's mount is in reset, alone or with its partition: it takes no transfer (R36). -/
def sliceDown (s : State) (i : Nat) : Bool := inReset s (i / 48) (mountOf i)

/-! ## Verdict bits (R367 to R370) -/

/-- The bit numbers of Table: Verdict word. -/
def vFinite : Nat := 0
def vPoisonFree : Nat := 1
def vSlackOk : Nat := 2
def vShutterQuiet : Nat := 3
def vStepQuiet : Nat := 4

/-- A cause clears a verdict bit: of the step in progress up to VOTE entry, of the next step after it (R368). -/
def clearVerdict (s : State) (bit : Nat) : State :=
  if phase s = 1 ∨ phase s = 2 then
    { s with mer := { s.mer with verdict := s.mer.verdict &&& (127 - 2 ^ bit) } }
  else if phase s = 0 ∨ phase s = 7 then s
  else { s with mer := { s.mer with nextClear := s.mer.nextClear ||| 2 ^ bit } }

/-- STATE_INTACT is cleared (R369). -/
def clearIntact (s : State) : State := { s with mer := { s.mer with intact := false } }

/-- REMAINS is cleared (R370). -/
def clearRemains (s : State) : State := { s with mer := { s.mer with remains := false } }

/-! ## Parked (R442, R443, R507) -/

/-- The stores with no contents: what remains when the rails of the stack and the LPDDR packages' reset take the data. -/
def dropData (s : State) : State :=
  { s with store := { s.store with mem := [], side := [], pcode := [], lost := [], fresh := [], recov := [] } }

/-- Every tile leaves ON, RETAIN and waking: its regulator is off (R466, R507). -/
def tilesOff (s : State) : State :=
  { s with pwr := { s.pwr with
      tiles := s.pwr.tiles.map (fun e => (e.1, { e.2 with state := 0 })), ramps := [], queue := [], gated := false } }

/-- A rail that is on is turned off by PMBus; the command shows as a set-point of 0 (assumption 119). -/
def railOff (s : State) (r : Nat) : State :=
  if (mget s.pwr.rails r {}).on then
    { s with pwr := { s.pwr with rails := mput natLt s.pwr.rails r {} {} }, net := { s.net with out := s.net.out ++ [.pmbus r 0] } }
  else s

/-- Power-down: no rail waits to be enabled, and the listed ones are turned off in turn (R464). -/
def railsOff (s : State) (rs : List Nat) : State := rs.foldl railOff { s with pwr := { s.pwr with order := [] } }

/-- The rails that Parked does not keep are turned off in the reverse of the order of R464, and with them go the contents of the
stack and of LPDDR (Table: Rails by state, R507); while the management core is stopped they stay on. -/
def parkRails (s : State) : State :=
  if s.flt.coreUp then dropData (railsOff s [3, 2, 1, 0, 12, 4, 5, 10, 9]) else s

/-- The device enters Parked: fast clocks off, every trim regulator off, ERR_N asserted, no segment and no job runs. -/
def enterParked (s : State) : State :=
  let s := setF s F.DEV_STATE_STATE 0 8
  let s := setB s F.DEV_STATE_READY 0 false
  let s := setB s F.FLT_STATUS_ERRN 0 true
  let s := setF (setF s F.MER_PHASE_PHASE 0 0) F.MER_PHASE_GATE 0 0
  parkRails (tilesOff { s with clk := { s.clk with running := false }
                               eph := { s.eph with inSegment := false, causes := [], stallStart := none, stallLeaving := false, nextMark := none } })

/-! ## The fault collector (18) -/

/-- The class of a code in force: its override, else its class at reset (R505, R508). -/
def effClass (s : State) (c : FaultCode) : Nat := mget s.flt.overrides c.code c.cls

/-- Whether the device is between Twilight and the end of first light (R452). -/
def inBringup (s : State) : Bool := decide (2 ≤ devState s) && decide (devState s ≤ 5) && !s.boot.lightDone

/-- An event of class INFO or CORRECTED with the code and unit of an event queued within the last 1 ms is counted and
not queued (R512). -/
def suppressed (s : State) (code cls unit : Nat) : Bool :=
  decide (cls ≤ 1) && s.flt.recent.any (fun e => e.code == code && e.unit == unit && decide (nowNs s < e.time + 1000000))

/-- Of two events of one sidereal tick, the first is recorded before the second: the higher class first, then the lower code,
then the lower unit index (R510). -/
def goesBefore (a b : Event) : Bool :=
  decide (b.cls < a.cls) || (a.cls == b.cls && (decide (a.code < b.code) || (a.code == b.code && decide (a.unit < b.unit))))

/-- An event joins a list of events, newest first: it stands below those of its own sidereal tick that R510 has recorded
after it. -/
def insertEvent (e : Event) : List Event → List Event
  | [] => [e]
  | x :: r => if x.tick = e.tick ∧ goesBefore e x = true then x :: insertEvent e r else e :: x :: r

/-- The event enters the history ring of 64 entries, in the order of R510 among the events of its tick (R512). -/
def queueEvent (s : State) (e : Event) : State :=
  let s := setF s F.FLT_HIST_HEAD_NEXT 0 (getF s F.FLT_HIST_HEAD_NEXT 0 + 1)
  let s := incF s F.FLT_HIST_TOTAL_COUNT 0 1
  { s with flt := { s.flt with
      hist := (insertEvent e s.flt.hist).take 64
      recent := e :: s.flt.recent.filter (fun x => decide (e.time < x.time + 1000000))
      toLog := if 2 ≤ e.cls then (insertEvent e s.flt.toLog.reverse).reverse else s.flt.toLog
      toTlm := if 1 ≤ e.cls then (insertEvent e s.flt.toTlm.reverse).reverse else s.flt.toTlm } }

/-- The event that FLT_FIRST holds. -/
def firstEvent (s : State) : Event :=
  ⟨getF s F.FLT_FIRST_TIME_TIME 0, getF s F.FLT_FIRST_CODE 0, getF s F.FLT_FIRST_CLASS 0, getF s F.FLT_FIRST_UNIT_UNIT 0,
    getF s F.FLT_FIRST_ORIGIN 0, s.flt.firstTick.getD 0, []⟩

/-- The capture takes an event of class DEGRADED or above: when it holds none, or when it holds one of the same sidereal tick
that R510 records after this one (R510, R511). -/
def capturesFirst (s : State) (e : Event) : Bool :=
  decide (2 ≤ e.cls) && (!getB s F.FLT_FIRST_VALID 0 || (s.flt.firstTick == some e.tick && goesBefore e (firstEvent s)))

/-- The first event of class DEGRADED or above is captured (R511). -/
def captureFirst (s : State) (e : Event) : State :=
  if capturesFirst s e then
    let s := { s with flt := { s.flt with firstTick := some e.tick } }
    let s := setF s F.FLT_FIRST_CODE 0 e.code
    let s := setF s F.FLT_FIRST_CLASS 0 e.cls
    let s := setF s F.FLT_FIRST_ORIGIN 0 e.origin
    let s := setB s F.FLT_FIRST_VALID 0 true
    let s := setF s F.FLT_FIRST_UNIT_UNIT 0 e.unit
    setF s F.FLT_FIRST_TIME_TIME 0 e.time
  else s

/-- ERR_N for an event of class STEP or above: the 1 ms timer restarts and ERRN_HOLD is set (R513). -/
def raiseErrn (s : State) : State :=
  let s := setB s F.FLT_CTL_ERRN_HOLD 0 true
  let s := setB s F.FLT_STATUS_ERRN 0 true
  let s := setB s F.FLT_STATUS_ERRN_TIMER 0 true
  { s with flt := { s.flt with errnEnd := some (elapsedNs s + 1000000) } }

/-- A bring-up that stops: Parked with the code in BOOT_CAUSE (R452). -/
def bringupStops (s : State) (code : Nat) : State :=
  let s := setF s F.BOOT_CAUSE_CODE 0 code
  let s := setB s F.BOOT_CAUSE_VALID 0 true
  enterParked s

/-- The reaction of an event's class (R505, R506, R507, R452, R370). -/
def classReaction (s : State) (code cls : Nat) : State :=
  if cls = 3 then
    if phase s = 0 then s else clearVerdict s vStepQuiet
  else if cls = 4 then
    if inBringup s then bringupStops s code
    else if phase s = 0 ∨ phase s = 7 ∨ phase s = 6 then enterParked (clearRemains s)
    else clearRemains s
  else if cls = 5 then
    if inBringup s then bringupStops s code else enterParked s
  else s

/-- What the collector keeps of an event: counts, capture, history and ERR_N (R509 to R513). -/
def noteEvent (s : State) (e : Event) : State :=
  let s := incF s F.FLT_COUNT_COUNT e.cls 1
  let s := setF s F.FLT_STATUS_WORST 0 (max (getF s F.FLT_STATUS_WORST 0) e.cls)
  let s := captureFirst s e
  let s := if suppressed s e.code e.cls e.unit then incF s F.FLT_SUPPRESSED_COUNT 0 1 else queueEvent s e
  if 3 ≤ e.cls then raiseErrn s else s

/-- The recording of an event of a given class: counts, capture, history, ERR_N and the reaction of the class (R505 to
R513). Events of one sidereal tick stand in the capture and in the history in the order of R510, whatever the order of the
commands; the reactions of their classes follow the commands (assumption 87). An event in the sidereal tick of a failed compare of
the collector is lost (R516). `detail` holds what a rule says the event records beside the fields of R509. -/
def recordAs (s : State) (code cls unit origin : Nat) (detail : List Nat := []) : State :=
  if s.flt.selfTick = some (sidereal s) then s
  else
    classReaction (noteEvent s ⟨nowNs s, code, cls, unit, origin, sidereal s, detail⟩) code cls

/-- A code is recorded with the class in force. -/
def record (s : State) (c : FaultCode) (unit : Nat) (origin : Nat := 0) : State :=
  recordAs s c.code (effClass s c) unit origin

/-- A code is recorded with what its rule says it records beside the fields of R509. -/
def recordWith (s : State) (c : FaultCode) (unit : Nat) (detail : List Nat) (origin : Nat := 0) : State :=
  recordAs s c.code (effClass s c) unit origin detail

/-- A capture register of a unit takes the low byte of a code while VALID is 0. -/
def capture (s : State) (codeF validF : Field) (u : Nat) (c : FaultCode) : State :=
  if getB s validF u then s else setB (setF s codeF u (c.code % 256)) validF u true

/-! ## Free values -/

/-- The counter that free values are drawn by moves on (assumption 2). -/
def takeFree (s : State) : State := { s with sys := { s.sys with free := s.sys.free + 1 } }

end Sys2Proof.Machine
end

