-- ==== Sys2Proof/Machine/Mem.lean ====
section
/-!
DEFINITION. Stored data: bytes, the word code and its decoding (R285 to R287), the page code (R288, R289, R300), the
interleave of LPDDR addresses over channels and slices (R199, R200) and the spread of pages (R258).
-/
namespace Sys2Proof.Machine

/-! ## Bytes -/

/-- What a byte that the table does not list reads as: 0 (assumption 4). -/
def unlistedByte : Byte := 0

/-- One byte of storage. -/
def memGet (m : List Host.Cell) (a : Nat) : Byte := mget m a unlistedByte

/-- One byte of storage written. -/
def memPut (m : List Host.Cell) (a : Nat) (v : Byte) : List Host.Cell := mput natLt m a v unlistedByte

/-- The canonical form of stored bytes: addresses strictly rising, no entry equal to an unlisted byte. -/
def Memory.wf (m : List Host.Cell) : Bool := mwf natLt m unlistedByte

/-- `n` bytes from an address. -/
def memBytes (m : List Host.Cell) (a : Nat) : Nat → List Byte
  | 0 => []
  | n + 1 => memGet m a :: memBytes m (a + 1) n

/-- Bytes written from an address upwards. -/
def memWrite (m : List Host.Cell) (a : Nat) : List Byte → List Host.Cell
  | [] => m
  | b :: bs => memWrite (memPut m a b) (a + 1) bs

/-- Bytes written where the mask is set. -/
def memWriteMask (m : List Host.Cell) (a : Nat) : List (Byte × Bool) → List Host.Cell
  | [] => m
  | (b, k) :: bs => memWriteMask (if k then memPut m a b else m) (a + 1) bs

/-- A little-endian number from bytes. -/
def leNat : List Byte → Nat
  | [] => 0
  | b :: bs => b.toNat + 256 * leNat bs

/-- The `n` low bytes of a number, least significant first. -/
def leBytes (v : Nat) : Nat → List Byte
  | 0 => []
  | n + 1 => BitVec.ofNat 8 v :: leBytes (v / 256) n

/-- Bits `[lo + w - 1 : lo]` of a number. -/
def bits (v lo w : Nat) : Nat := v / 2 ^ lo % 2 ^ w

/-- One bit of a number. -/
def bit (v i : Nat) : Bool := v.testBit i

/-- The quotient rounded up. -/
def ceilDiv (a b : Nat) : Nat := (a + b - 1) / b

/-! ## The field GF(2^8) of the word code (R285) -/

/-- Multiplication by α = 0x02 under the field polynomial 0x11D. -/
def xtime (a : Byte) : Byte := (a <<< 1) ^^^ (if a.msb then 0x1D else 0)

/-- The product in GF(2^8), by Horner's rule from the top bit of `b`. -/
def gfMul (a b : Byte) : Byte :=
  let step (acc : Byte) (i : Nat) : Byte := xtime acc ^^^ (if b.getLsbD i then a else 0)
  [7, 6, 5, 4, 3, 2, 1, 0].foldl step 0

/-- α^k. -/
def alphaPow : Nat → Byte
  | 0 => 1
  | k + 1 => xtime (alphaPow k)

/-- The inverse of 1 + α = 0x03 in the field. -/
def inv3 : Byte := 0xF4

/-- The sum of symbols, and the sum of symbols times α^k from exponent `k` upwards. -/
def syndromes (k : Byte) : List Byte → Byte × Byte
  | [] => (0, 0)
  | c :: cs =>
    let r := syndromes (xtime k) cs
    (c ^^^ r.1, gfMul c k ^^^ r.2)

/-- The two check symbols of a word with data `d` and last symbol `c34` (R285). -/
def checkSymbols (d : List Byte) (c34 : Byte) : Byte × Byte :=
  let r := syndromes 4 (d ++ [c34])
  let c1 := gfMul (r.1 ^^^ r.2) inv3
  (r.1 ^^^ c1, c1)

/-! ## Media and words -/

/-- What kind of store an address lies in. -/
inductive Medium where
  | lpddr | plate | focal
  deriving DecidableEq, Repr

/-- The base of the focal windows (Table: Physical address map). -/
def focalBase : Nat := 0x200000000000
/-- The base of the plate scratch windows. -/
def scratchBase : Nat := 0x100000000000
/-- Where the model keeps the data of the cache ways: outside the physical address map, way by way of each slice. -/
def plateBase : Nat := 0x400000000000
/-- The end of LPDDR in the physical address map. -/
def lpddrEnd : Nat := 0x018000000000

/-- The focal address of a window offset of a logical tile. -/
def focalAddr (t off : Nat) : Nat := focalBase + t * 0x1000000 + off

/-- The address at which the model keeps byte 0 of a line in a way of a set of a slice. -/
def plateAddr (s way set : Nat) : Nat := plateBase + (((s * 16 + way) * 32768) + set) * 256

/-- The medium of an address. -/
def mediumOf (a : Nat) : Medium :=
  if a < lpddrEnd then .lpddr
  else if focalBase ≤ a ∧ a < focalBase + 512 * 0x1000000 then .focal
  else .plate

/-- LPDDR5X memory is fitted (MEM_CFG.TYPE). -/
def isLp5x (s : State) : Bool := getB s F.MEM_CFG_TYPE 0

/-- The unit that reports a word of an address: the tile, the slice or the channel. -/
def plateSlice (a : Nat) : Nat :=
  if plateBase ≤ a then (a - plateBase) / (16 * 32768 * 256) else (a - scratchBase) / 0x8000000

/-- The page-code symbol Pj of the page of an address (R288, R289). -/
def pageSym (s : State) (a j : Nat) : Nat := mget s.store.pcode (a / 4096 * 32 + j) 0

/-- Bits [18:17] of the side bits of the word at an address: on LPDDR6, bits 2w and 2w + 1 of the page code (R245). -/
def pageBits (s : State) (a : Nat) : Nat :=
  if mediumOf a = .lpddr ∧ isLp5x s = false then
    let w := a / 32 % 128
    bits (pageSym s a (w / 4)) (2 * (w % 4)) 2
  else 0

/-- Symbol c[34] of a word (R285): the poison bit and the page bits; 0 on LPDDR5X. -/
def topSymbol (s : State) (a : Nat) (poison : Bool) : Byte :=
  if mediumOf a = .lpddr ∧ isLp5x s = true then 0
  else BitVec.ofNat 8 (poison.toNat + 2 * pageBits s a)

/-- The check symbols that the page bits of a word add: the code is linear, so they are kept out of `side` and a change
of the page code re-encodes every word of the page at once (R300). -/
def pageCheck (s : State) (a : Nat) : Nat :=
  let c := checkSymbols (List.replicate 32 0) (topSymbol s a false)
  c.1.toNat + 256 * c.2.toNat

/-- The stored bits of a word: its data, its two check symbols and its poison bit. -/
structure RawWord where
  data : List Byte
  c0 : Byte
  c1 : Byte
  poison : Bool
  deriving DecidableEq, Repr

/-- The stored bits of the word at an address. -/
def rawWord (s : State) (a : Nat) : RawWord :=
  let w := a / 32
  let sd := mget s.store.side w 0
  let ch := (sd % 65536) ^^^ pageCheck s a
  ⟨memBytes s.store.mem (w * 32) 32, BitVec.ofNat 8 ch, BitVec.ofNat 8 (ch / 256), bit sd 16⟩

/-- What the word decoder finds (R286). -/
inductive Decoded where
  | clean | corrected (k : Nat) | poisoned | uncorrectable
  deriving DecidableEq, Repr

/-- The first position at which a syndrome pair names an error: s1 = s0 α^k. -/
def errorAt (s0 s1 : Byte) (k : Nat) : Nat → Option Nat
  | 0 => none
  | n + 1 => if gfMul s0 (alphaPow k) = s1 then some k else errorAt s0 s1 (k + 1) n

/-- The decoding of a stored word (R286, R287): what was found, the data delivered and whether it reads poisoned. -/
def decodeWord (s : State) (a : Nat) : Decoded × List Byte × Bool :=
  let r := rawWord s a
  let top := topSymbol s a r.poison
  let y := syndromes 1 ([r.c0, r.c1] ++ r.data ++ [top])
  let stored := if mediumOf a = .lpddr ∧ isLp5x s = true then 34 else 35
  if y.1 = 0 ∧ y.2 = 0 then
    (if r.poison then .poisoned else .clean, r.data, r.poison)
  else if y.1 = 0 ∧ y.2 = 0x1C then (.poisoned, r.data, true)
  else if y.1 = 0 then (.uncorrectable, r.data, true)
  else
    match errorAt y.1 y.2 0 stored with
    | none => (.uncorrectable, r.data, true)
    | some k =>
      let d := if 2 ≤ k ∧ k < 34 then r.data.modify (k - 2) (· ^^^ y.1) else r.data
      let p := if k = 34 then (top ^^^ y.1).getLsbD 0 else r.poison
      (.corrected k, d, p)

/-! ## Channels and home slices (R199, R200, R258) -/

/-- Bytes of one channel's usable capacity (R246, R247). -/
def channelBytes (s : State) : Nat :=
  let raw := (getF s F.MEM_CFG_PKG 0 + 1) * 2147483648
  if isLp5x s then raw * 119 / 128 else raw

/-- The installed capacity (R247). -/
def installed (s : State) : Nat := 192 * channelBytes s

/-- The regions in force: the image's, or one package-wide region over the installed capacity (R199). -/
def regionsOf (s : State) : List Region :=
  if s.act.regions.isEmpty then [⟨0, installed s, none, 0, true, false⟩] else s.act.regions

/-- A region's share in a channel (R200). -/
def regionShare (r : Region) (c : Nat) : Nat :=
  match r.tower with
  | none => r.size / 192
  | some t => if c / 48 = t then r.size / 48 else 0

/-- The home of an LPDDR address among regions: the channel and the channel-local page, with the region. -/
def homeIn (a : Nat) : List Region → (Nat → Nat) → Option (Nat × Nat × Region)
  | [], _ => none
  | r :: rs, before =>
    if r.base ≤ a ∧ a < r.base + r.size then
      let p := (a - r.base) / 4096
      match r.tower with
      | none =>
        let g := p / 192
        let c := (p % 192 + 29 * g) % 192
        some (c, before c / 4096 + g, r)
      | some tw =>
        let g := p / 48
        let c := 48 * tw + (p % 48 + 29 * g) % 48
        some (c, before c / 4096 + g, r)
    else homeIn a rs (fun c => before c + regionShare r c)

/-- The channel, channel-local page and region of an LPDDR address below the installed capacity; none elsewhere. -/
def homeOf (s : State) (a : Nat) : Option (Nat × Nat × Region) :=
  if a < installed s then homeIn a (regionsOf s) (fun _ => 0) else none

/-- Where a channel-local page of an original channel lies after the spreads in force (R258). -/
def spreadPlace (gens : List SpreadGen) (orig page : Nat) : Nat :=
  gens.foldl (fun cur g =>
    if g.orig = orig ∧ g.failed = cur ∧ g.targets ≠ [] then g.targets.getD (page % g.targets.length) cur else cur) orig

/-- The channel in whose reserve or share a page lies now. -/
def placeOf (s : State) (orig page : Nat) : Nat := spreadPlace s.store.spreads orig page

/-- The slice that serves a channel's pages: the slice above it, or its partner where it is folded (R236). -/
def servingSlice (s : State) (c : Nat) : Nat :=
  if getB s F.SLC_STATUS_FOLDED c then (if c % 2 = 0 then c + 1 else c - 1) else c

/-- The page code is kept for the page of an address (R303): always in SRAM, by the region's flag in LPDDR, and
not before the region's sweep. -/
def pageCodeOn (s : State) (a : Nat) : Bool :=
  if mediumOf a = .lpddr then
    match homeOf s a with
    | some (_, _, r) => r.pageCode && !s.act.sweepDue.any (fun x => decide (x.base ≤ a) && decide (a < x.base + x.size))
    | none => false
  else true

/-- The unit index under which an address's store reports (R509). -/
def unitOf (s : State) (a : Nat) : Nat :=
  match mediumOf a with
  | .focal => (a - focalBase) / 0x1000000
  | .plate => plateSlice a
  | .lpddr =>
    match homeOf s a with
    | some (c, p, _) => placeOf s c p
    | none => 0

/-- A word of a channel whose contents were lost, and that nothing has written since, reads poisoned (R260). -/
def isLost (s : State) (a : Nat) : Bool :=
  if mediumOf a = .lpddr then
    match homeOf s a with
    | some (c, p, _) => s.store.lost.any (fun l => spreadPlace l.2 c p == l.1) && !(mget s.store.fresh (a / 32) false)
    | none => false
  else false

/-- What a read of the word at an address finds (R286, R260). -/
def readWord (s : State) (a : Nat) : Decoded × List Byte × Bool :=
  if isLost s a then (.poisoned, memBytes s.store.mem (a / 32 * 32) 32, true) else decodeWord s a

/-! ## Writing a word -/

/-- The page-code change of a word whose bytes change (R300), symbol by symbol from `j`. -/
def deltaPage (pc : NMap Nat) (key : Nat) (al : Byte) : List Byte → List Byte → NMap Nat
  | o :: os, n :: ns =>
    let p := mget pc key 0
    let q := p ^^^ (gfMul al (o ^^^ n)).toNat
    deltaPage (mput natLt pc key q 0) (key + 1) al os ns
  | _, _ => pc

/-- The word at an address written with fresh check symbols, poisoned or not (R287), without a page-code change. -/
def putWord (s : State) (a : Nat) (d : List Byte) (poison : Bool) : State :=
  let w := a / 32
  let lp5 := mediumOf a == .lpddr && isLp5x s
  let top : Byte := if lp5 then 0 else BitVec.ofNat 8 poison.toNat
  let c := checkSymbols d top
  let ch := c.1.toNat + 256 * c.2.toNat
  let ch := if poison then ch ^^^ 0xFFFF else ch
  let sd := ch + (if poison && !lp5 then 65536 else 0)
  { s with store := { s.store with
      mem := memWrite s.store.mem (w * 32) d
      side := mput natLt s.store.side w sd 0
      fresh := if mediumOf a = .lpddr ∧ s.store.lost ≠ [] then mput natLt s.store.fresh w true false else s.store.fresh } }

/-- A word written, with the page-code delta where the page code is on (R300). -/
def writeWord (s : State) (a : Nat) (d : List Byte) (poison : Bool) : State :=
  let w := a / 32
  let old := (decodeWord s a).2.1
  let pc := if pageCodeOn s a then deltaPage s.store.pcode (a / 4096 * 32) (alphaPow (w % 128)) old d else s.store.pcode
  let s := putWord s a d poison
  { s with store := { s.store with pcode := pc } }

/-- A word merged with the bytes of a narrow write that starts at byte `k` of it. -/
def mergeBytes (old : List Byte) (k : Nat) (d : List Byte) : List Byte :=
  old.take k ++ d ++ old.drop (k + d.length)

/-- A write of bytes inside one word: whole words replace any mark, a narrow write merges into the decoded word and
keeps a poisoned word poisoned (R299). -/
def writeIn (s : State) (a : Nat) (d : List Byte) (poison : Bool) : State :=
  if d.length = 32 then writeWord s a d poison
  else
    let r := readWord s a
    writeWord s a (mergeBytes r.2.1 (a % 32) d) (poison || r.2.2)

/-- A write of bytes over the words it touches; `ps` gives the mark of each touched word in order. The first argument
bounds the number of words. -/
def writeSpan (s : State) (a : Nat) (d : List Byte) (ps : List Bool) : Nat → State
  | 0 => s
  | n + 1 =>
    if d.isEmpty then s
    else
      let k := min (32 - a % 32) d.length
      let s := writeIn s a (d.take k) (ps.headD false)
      writeSpan s (a + k) (d.drop k) ps.tail n

/-- A write of bytes with the marks of the touched words. -/
def writeBytes (s : State) (a : Nat) (d : List Byte) (ps : List Bool) : State :=
  writeSpan s a d ps (d.length / 32 + 2)

/-- The bytes and marks of `n` words from a word address, without recording anything. -/
def readWords (s : State) (a : Nat) : Nat → List Byte × List Bool
  | 0 => ([], [])
  | n + 1 =>
    let r := readWord s a
    let t := readWords s (a + 32) n
    (r.2.1 ++ t.1, r.2.2 :: t.2)

/-- `n` bytes from an address with the marks of the words they touch. -/
def readBytes (s : State) (a n : Nat) : List Byte × List Bool :=
  let w0 := a / 32
  let w1 := (a + n + 31) / 32
  let r := readWords s (w0 * 32) (w1 - w0)
  ((r.1.drop (a % 32)).take n, r.2)

/-! ## Events of the codes (R290 to R294, R310) -/

/-- The kinds of event that each store reports (Table: Protection fault codes). -/
inductive ProtKind where
  | corrected | recovered | unrecovered | checkRewritten | miscorrect
  deriving DecidableEq, Repr

/-- The code of an event by store. -/
def protCode (m : Medium) (k : ProtKind) : FaultCode :=
  match m, k with
  | .focal, .corrected => C.CORRECTED_T
  | .focal, .recovered => C.RECOVERED_T
  | .focal, .unrecovered => C.UNRECOVERED_T
  | .focal, .checkRewritten => C.CHECK_REWRITTEN_T
  | .focal, .miscorrect => C.MISCORRECT_T
  | .plate, .corrected => C.CORRECTED_S
  | .plate, .recovered => C.RECOVERED_S
  | .plate, .unrecovered => C.UNRECOVERED_S
  | .plate, .checkRewritten => C.CHECK_REWRITTEN_S
  | .plate, .miscorrect => C.MISCORRECT_S
  | .lpddr, .corrected => C.CORRECTED_M
  | .lpddr, .recovered => C.RECOVERED_M
  | .lpddr, .unrecovered => C.UNRECOVERED_M
  | .lpddr, .checkRewritten => C.CHECK_REWRITTEN_M
  | .lpddr, .miscorrect => C.MISCORRECT_M

/-- The page of an address as its store numbers it: focal page, plate page or channel-local page (R308). -/
def storePage (s : State) (a : Nat) : Nat :=
  match mediumOf a with
  | .focal => (a - focalBase) % 0x1000000 / 4096
  | .plate =>
    if plateBase ≤ a then (a - plateBase) % 0x8000000 / 4096
    else 2048 * (16 - 2 * getF s F.SLC_CFG_CARVE (plateSlice a)) + (a - scratchBase) % 0x8000000 / 4096
  | .lpddr =>
    match homeOf s a with
    | some (_, p, _) => p
    | none => 0

/-- A protection code captured with its page while VALID is 0. -/
def protCapture (s : State) (a : Nat) (c : FaultCode) : State :=
  let u := unitOf s a
  let put (codeF validF pageF : Field) : State :=
    if getB s validF u then s else setF (capture s codeF validF u c) pageF u (storePage s a)
  match mediumOf a with
  | .focal => put F.PROT_CAPTURE_T_CODE F.PROT_CAPTURE_T_VALID F.PROT_CAPTURE_PAGE_T_PAGE
  | .plate => put F.PROT_CAPTURE_S_CODE F.PROT_CAPTURE_S_VALID F.PROT_CAPTURE_PAGE_S_PAGE
  | .lpddr => put F.PROT_CAPTURE_M_CODE F.PROT_CAPTURE_M_VALID F.PROT_CAPTURE_PAGE_M_PAGE

/-- The counter of an event by store: corrected, recovered, left poisoned. -/
def protCount (m : Medium) (k : ProtKind) : Option Field :=
  match m, k with
  | .focal, .corrected => some F.PROT_CORR_T_COUNT
  | .focal, .recovered => some F.PROT_RECOVERED_T_COUNT
  | .focal, .unrecovered => some F.PROT_UNRECOVERED_T_COUNT
  | .plate, .corrected => some F.PROT_CORR_S_COUNT
  | .plate, .recovered => some F.PROT_RECOVERED_S_COUNT
  | .plate, .unrecovered => some F.PROT_UNRECOVERED_S_COUNT
  | .lpddr, .corrected => some F.PROT_CORR_M_COUNT
  | .lpddr, .recovered => some F.PROT_RECOVERED_M_COUNT
  | .lpddr, .unrecovered => some F.PROT_UNRECOVERED_M_COUNT
  | _, _ => none

/-- An event of the codes at an address: counted, captured and recorded under its store's unit. -/
def protEvent (s : State) (a : Nat) (k : ProtKind) : State :=
  let m := mediumOf a
  let u := unitOf s a
  let c := protCode m k
  let s := match protCount m k with
    | some f => incF s f u 1
    | none => s
  record (protCapture s a c) c u

/-- Poison consumed at an address of a store (R304): captured, recorded under a unit, POISON_FREE cleared. -/
def consumePoison (s : State) (a : Nat) (c : FaultCode) (u : Nat) : State :=
  clearVerdict (record (protCapture s a c) c u) vPoisonFree

/-- The word at an address waits for recovery (R291). -/
def startRecovery (s : State) (a : Nat) : State :=
  if s.store.recov.any (fun r => r.word == a / 32 * 32) then s
  else { s with store := { s.store with recov := s.store.recov ++ [⟨a / 4096 * 4096, a / 32 * 32, elapsedNs s⟩] } }

end Sys2Proof.Machine
end

