-- ==== Sys2Proof/Machine/Float.lean ====
section
/-!
DEFINITION. Number formats and their arithmetic (04): element encodings (R84 to R87), the chunk sum (R91 to R94), rounding
(R96), conversions (R97, R98), the generator of R99, and the FP32 operations of the lane unit (R102, R184). Finite values
are exact: a sign, a magnitude and a power of two.
-/
namespace Sys2Proof.Machine

/-- A value of a floating format: NaN, an infinity, or (−1)^neg · m · 2^e. -/
inductive FVal where
  | nan
  | inf (neg : Bool)
  | fin (neg : Bool) (m : Nat) (e : Int)
  deriving DecidableEq, Repr

/-- A floating format: exponent and mantissa widths and bias (Table: Element formats). -/
structure FFmt where
  eb : Nat
  mb : Nat
  bias : Nat
  deriving DecidableEq, Repr

def fp32 : FFmt := ⟨8, 23, 127⟩
def bf16 : FFmt := ⟨8, 7, 127⟩

/-- The layout of a format code; INT8 (code 7) has none and takes the entry of FP32. -/
def fmtOf : Nat → FFmt
  | 0 => fp32
  | 1 => bf16
  | 2 => ⟨5, 10, 15⟩
  | 3 => ⟨4, 3, 7⟩
  | 4 => ⟨5, 2, 15⟩
  | 5 => ⟨3, 2, 3⟩
  | 6 => ⟨2, 1, 1⟩
  | _ => fp32

/-- Bits of an element as it is stored: E3M2 takes a byte, E2M1 half a byte (R85). -/
def elemBits : Nat → Nat
  | 0 => 32
  | 1 => 16
  | 2 => 16
  | 6 => 4
  | _ => 8

/-- The code of the largest finite magnitude (Table: Element formats). -/
def maxCode : Nat → Nat
  | 0 => 0x7F7FFFFF
  | 1 => 0x7F7F
  | 2 => 0x7BFF
  | 3 => 0x7E
  | 4 => 0x7B
  | 5 => 0x1F
  | 6 => 0x7
  | _ => 127

/-- The canonical NaN of a format (R84, R101); formats without NaN give the code of R97. -/
def nanCode : Nat → Nat
  | 0 => 0x7FC00000
  | 1 => 0x7FC0
  | 2 => 0x7E00
  | 3 => 0x7F
  | 4 => 0x7E
  | _ => 0

/-- The code of the infinity of a format that has one. -/
def infCode : Nat → Nat
  | 0 => 0x7F800000
  | 1 => 0x7F80
  | 2 => 0x7C00
  | _ => 0x7C

/-- The sign bit of a code of a format. -/
def signBit (c : Nat) : Nat := 2 ^ ((fmtOf c).eb + (fmtOf c).mb)

/-- The magnitude code of a layout as a value. -/
def magValue (f : FFmt) (neg : Bool) (mag : Nat) : FVal :=
  let ex := mag / 2 ^ f.mb
  let ma := mag % 2 ^ f.mb
  if ex = 0 then .fin neg ma (1 - (f.bias : Int) - (f.mb : Int))
  else .fin neg (2 ^ f.mb + ma) ((ex : Int) - (f.bias : Int) - (f.mb : Int))

/-- The value of an element of format `c` with bits `v` (R84, R85, R87 without scales). -/
def decodeElem (c v : Nat) : FVal :=
  if c = 7 then
    let b := v % 256
    if 128 ≤ b then .fin true (256 - b) 0 else .fin false b 0
  else
    let f := fmtOf c
    let v := v % 2 ^ (1 + f.eb + f.mb)
    let mag := v % signBit c
    let neg := decide (signBit c ≤ v)
    let top := 2 ^ f.eb - 1
    let ex := mag / 2 ^ f.mb
    if c ≤ 2 ∨ c = 4 then
      if ex = top then (if mag % 2 ^ f.mb = 0 then .inf neg else .nan) else magValue f neg mag
    else if c = 3 then (if mag = 0x7F then .nan else magValue f neg mag)
    else magValue f neg mag

/-- The value of an FP32 word. -/
def ofFp32 (w : W32) : FVal := decodeElem 0 w.toNat

/-- The exponent of the leading bit of a nonzero magnitude. -/
def leadExp (m : Nat) (e : Int) : Int := (Nat.log2 m : Int) + e

/-- Rounding modes (R96). -/
inductive RMode where
  | rne
  | zero
  | stoch (r : Nat)
  deriving DecidableEq, Repr

/-- `m · 2^e` in whole units of 2^q, rounded (R96). -/
def roundUnits (mode : RMode) (m : Nat) (e q : Int) : Nat :=
  if q ≤ e then m * 2 ^ (e - q).toNat
  else
    let sh := (q - e).toNat
    let k := m / 2 ^ sh
    let r := m % 2 ^ sh
    match mode with
    | .zero => k
    | .rne => if 2 * r > 2 ^ sh ∨ (2 * r = 2 ^ sh ∧ k % 2 = 1) then k + 1 else k
    | .stoch w => if w < 2 ^ 32 * r / 2 ^ sh then k + 1 else k

/-- The magnitude code that a layout gives a nonzero magnitude, its exponent range unbounded above (R96). -/
def roundMag (f : FFmt) (mode : RMode) (m : Nat) (e : Int) : Nat :=
  let emin : Int := 1 - (f.bias : Int)
  let x := max (leadExp m e) emin
  roundUnits mode m e (x - (f.mb : Int)) + (x - emin).toNat * 2 ^ f.mb

/-- Comparison of two magnitudes. -/
def magLe (m : Nat) (e : Int) (m' : Nat) (e' : Int) : Bool :=
  let q := min e e'
  decide (m * 2 ^ (e - q).toNat ≤ m' * 2 ^ (e' - q).toNat)

/-- The magnitude code of format `c` for a magnitude, and whether it lies beyond the largest finite value (R96). Above
the largest finite value stochastic rounding acts as round-to-nearest-even. -/
def roundTo (c : Nat) (mode : RMode) (m : Nat) (e : Int) : Nat × Bool :=
  if m = 0 then (0, false)
  else
    let f := fmtOf c
    let big := match magValue f false (maxCode c) with
      | .fin _ mm ee => (mm, ee)
      | _ => (0, 0)
    if magLe m e big.1 big.2 then (roundMag f mode m e, false)
    else
      match mode with
      | .zero => (maxCode c, false)
      | _ =>
        -- halfway between the largest finite value and the next power of two
        let next : Int := leadExp big.1 big.2 + 1
        let q := min big.2 next
        let half := big.1 * 2 ^ (big.2 - q).toNat + 2 ^ (next - q).toNat
        if magLe half (q - 1) m e then (maxCode c, true) else (maxCode c, false)

/-- An exact value as an FP32 word under IEEE 754: overflow beyond the halfway point gives an infinity (R92, R96). -/
def toFp32 (mode : RMode) (v : FVal) : W32 :=
  match v with
  | .nan => 0x7FC00000
  | .inf neg => if neg then 0xFF800000 else 0x7F800000
  | .fin neg m e =>
    let r := roundTo 0 mode m e
    let mag := if r.2 then 0x7F800000 else r.1
    BitVec.ofNat 32 (mag + if neg then 0x80000000 else 0)

/-- The same for BF16, as a 16-bit code (co-add, R215). -/
def toBf16 (mode : RMode) (v : FVal) : Nat :=
  match v with
  | .nan => 0x7FC0
  | .inf neg => if neg then 0xFF80 else 0x7F80
  | .fin neg m e =>
    let r := roundTo 1 mode m e
    (if r.2 then 0x7F80 else r.1) + if neg then 0x8000 else 0

/-- An exact signed dyadic: `n · 2^e`. -/
def signedOf (neg : Bool) (m : Nat) : Int := if neg then -(m : Int) else (m : Int)

/-- The exact sum of two finite values; a zero sum is −0 only when both are negative zeros. -/
def addFin (n1 : Bool) (m1 : Nat) (e1 : Int) (n2 : Bool) (m2 : Nat) (e2 : Int) : FVal :=
  let q := min e1 e2
  let t := signedOf n1 (m1 * 2 ^ (e1 - q).toNat) + signedOf n2 (m2 * 2 ^ (e2 - q).toNat)
  if t = 0 then .fin (n1 && n2 && m1 == 0 && m2 == 0) 0 0
  else .fin (decide (t < 0)) t.natAbs q

/-- The exact sum. -/
def addV : FVal → FVal → FVal
  | .nan, _ => .nan
  | _, .nan => .nan
  | .inf a, .inf b => if a = b then .inf a else .nan
  | .inf a, .fin _ _ _ => .inf a
  | .fin _ _ _, .inf b => .inf b
  | .fin n1 m1 e1, .fin n2 m2 e2 => addFin n1 m1 e1 n2 m2 e2

/-- The negated value. -/
def negV : FVal → FVal
  | .nan => .nan
  | .inf a => .inf (!a)
  | .fin n m e => .fin (!n) m e

/-- The exact product. -/
def mulV : FVal → FVal → FVal
  | .nan, _ => .nan
  | _, .nan => .nan
  | .inf a, .inf b => .inf (a != b)
  | .inf a, .fin b m _ => if m = 0 then .nan else .inf (a != b)
  | .fin a m _, .inf b => if m = 0 then .nan else .inf (a != b)
  | .fin a m e, .fin b m' e' => .fin (a != b) (m * m') (e + e')

/-- The integer square root, bit by bit from bit `n - 1`. -/
def isqrtFrom (x : Nat) (r : Nat) : Nat → Nat
  | 0 => r
  | n + 1 =>
    let c := r + 2 ^ n
    isqrtFrom x (if c * c ≤ x then c else r) n

/-- The integer square root. -/
def isqrt (x : Nat) : Nat := isqrtFrom x 0 (Nat.log2 x / 2 + 1)

/-- A quotient of magnitudes with at least 60 bits and a sticky bit below them. -/
def divMag (m : Nat) (e : Int) (m' : Nat) (e' : Int) : Nat × Int :=
  let sh := 64 + Nat.log2 m'
  let q := m * 2 ^ sh / m'
  let r := m * 2 ^ sh % m'
  (2 * q + (if r = 0 then 0 else 1), e - e' - (sh : Int) - 1)

/-- The quotient, correctly roundable. -/
def divV : FVal → FVal → FVal
  | .nan, _ => .nan
  | _, .nan => .nan
  | .inf _, .inf _ => .nan
  | .inf a, .fin b _ _ => .inf (a != b)
  | .fin a _ _, .inf b => .fin (a != b) 0 0
  | .fin a m e, .fin b m' e' =>
    if m' = 0 then (if m = 0 then .nan else .inf (a != b))
    else if m = 0 then .fin (a != b) 0 0
    else
      let r := divMag m e m' e'
      .fin (a != b) r.1 r.2

/-- The square root, correctly roundable. -/
def sqrtV : FVal → FVal
  | .nan => .nan
  | .inf neg => if neg then .nan else .inf false
  | .fin neg m e =>
    if m = 0 then .fin neg 0 0
    else if neg then .nan
    else
      let odd := e % 2 ≠ 0
      let m := if odd then 2 * m else m
      let e := if odd then e - 1 else e
      let x := m * 2 ^ 128
      let r := isqrt x
      .fin false (2 * r + (if r * r = x then 0 else 1)) (e / 2 - 64 - 1)

/-- The reciprocal square root, correctly roundable (FRSQ). -/
def rsqrtV : FVal → FVal
  | .nan => .nan
  | .inf neg => if neg then .nan else .fin false 0 0
  | .fin neg m e =>
    if m = 0 then .inf neg
    else if neg then .nan
    else
      let odd := e % 2 ≠ 0
      let m := if odd then 2 * m else m
      let e := if odd then e - 1 else e
      let k := 64 + Nat.log2 m
      let r := isqrt (2 ^ (2 * k) / m)
      .fin false (2 * r + (if r * r * m = 2 ^ (2 * k) then 0 else 1)) (-(e / 2) - (k : Int) - 1)

/-- A value is zero. -/
def isZeroV : FVal → Bool
  | .fin _ m _ => m == 0
  | _ => false

/-- Order of two values that are not NaN: less than. −0 and +0 are equal. -/
def ltV : FVal → FVal → Bool
  | .nan, _ => false
  | _, .nan => false
  | .inf a, .inf b => a && !b
  | .inf a, .fin _ _ _ => a
  | .fin _ _ _, .inf b => !b
  | .fin n1 m1 e1, .fin n2 m2 e2 =>
    let q := min e1 e2
    decide (signedOf n1 (m1 * 2 ^ (e1 - q).toNat) < signedOf n2 (m2 * 2 ^ (e2 - q).toNat))

/-- Equality of two values that are not NaN. -/
def eqV (a b : FVal) : Bool :=
  match a, b with
  | .nan, _ => false
  | _, .nan => false
  | a, b => !ltV a b && !ltV b a

def isNan : FVal → Bool
  | .nan => true
  | _ => false

def isInf : FVal → Bool
  | .inf _ => true
  | _ => false

/-- Whether an FP32 word is NaN or infinite. -/
def nonFinite (w : W32) : Bool := isNan (ofFp32 w) || isInf (ofFp32 w)

/-- The sign of a value. -/
def negOf : FVal → Bool
  | .nan => false
  | .inf n => n
  | .fin n _ _ => n

/-- IEEE 754-2019 minimum: NaN when either is NaN, −0 below +0. -/
def minV (a b : FVal) : FVal :=
  if isNan a || isNan b then .nan
  else if ltV a b then a else if ltV b a then b else if negOf a then a else b

/-- IEEE 754-2019 maximum. -/
def maxV (a b : FVal) : FVal :=
  if isNan a || isNan b then .nan
  else if ltV b a then a else if ltV a b then b else if negOf a then b else a

/-! ## FP32 operations -/

def fAdd (mode : RMode) (a b : W32) : W32 := toFp32 mode (addV (ofFp32 a) (ofFp32 b))
def fSub (mode : RMode) (a b : W32) : W32 := toFp32 mode (addV (ofFp32 a) (negV (ofFp32 b)))
def fMul (mode : RMode) (a b : W32) : W32 := toFp32 mode (mulV (ofFp32 a) (ofFp32 b))
/-- The fused multiply-add, rounded once. -/
def fFma (mode : RMode) (a b c : W32) : W32 := toFp32 mode (addV (mulV (ofFp32 a) (ofFp32 b)) (ofFp32 c))
def fDiv (mode : RMode) (a b : W32) : W32 := toFp32 mode (divV (ofFp32 a) (ofFp32 b))
def fSqrt (a : W32) : W32 := toFp32 .rne (sqrtV (ofFp32 a))
def fRsqrt (mode : RMode) (a : W32) : W32 := toFp32 mode (rsqrtV (ofFp32 a))
def fMin (a b : W32) : W32 := toFp32 .rne (minV (ofFp32 a) (ofFp32 b))
def fMax (a b : W32) : W32 := toFp32 .rne (maxV (ofFp32 a) (ofFp32 b))

/-- An integer as an exact value. -/
def ofInt (i : Int) : FVal := .fin (decide (i < 0)) i.natAbs 0

/-! ## FEXP2 and FLOG2 (R184): within 1 ulp, the choice left to the device's fixed algorithm -/

/-- 2^(1/2^i) for i from 1 up, each as a 96-bit fixed-point factor multiplied in where the fraction has the bit. -/
def exp2Frac (frac : Nat) (root acc : Nat) : Nat → Nat
  | 0 => acc
  | n + 1 =>
    let root := isqrt (root * 2 ^ 96)
    let acc := if frac.testBit n then acc * root / 2 ^ 96 else acc
    exp2Frac frac root acc n

/-- Of the FP32 values within 1 ulp of a positive magnitude, the one that a pick names: the two neighbours, or the value
and its neighbours when it is itself an FP32 value. -/
def ulpPick (pick m : Nat) (e : Int) (exact : Bool) : Nat :=
  let lo := roundMag fp32 .zero m e
  let c := if exact then lo + pick % 3 - 1 else lo + pick % 2
  min c 0x7F800000

/-- A value in units of 2^-q, rounded down. -/
def floorUnits (neg : Bool) (m : Nat) (e : Int) (q : Nat) : Int :=
  let x : Int := if neg then -(m : Int) else m
  if -(q : Int) ≤ e then x * 2 ^ (e + q).toNat else x / 2 ^ (-(q : Int) - e).toNat

/-- 2^A within 1 ulp; a result above the largest finite value is infinite (R102). -/
def fExp2 (a : W32) : W32 :=
  match ofFp32 a with
  | .nan => 0x7FC00000
  | .inf neg => if neg then 0 else 0x7F800000
  | .fin neg m e =>
    let pick := Config.exp2Pick a
    let big := magLe 256 0 m e
    if big && !neg then 0x7F800000
    else if big then BitVec.ofNat 32 (pick % 2)
    else
      -- the argument in units of 2^-48, rounded down
      let u := floorUnits neg m e 48
      let ip := u / 2 ^ 48
      let fp := (u % 2 ^ 48).toNat
      let exact := fp == 0 && decide (m * 2 ^ (e + 48).toNat = u.natAbs ∨ m = 0)
      let v := exp2Frac fp (2 * 2 ^ 96) (2 ^ 96) 48
      if 128 ≤ ip then 0x7F800000 else BitVec.ofNat 32 (ulpPick pick v (ip - 96) exact)

/-- Fraction bits of log2 of a fixed-point number x in [1, 2) with 128 fraction bits, by squaring. -/
def log2Frac (x acc : Nat) : Nat → Nat
  | 0 => acc
  | n + 1 =>
    let y := x * x / 2 ^ 128
    if 2 ^ 129 ≤ y then log2Frac (y / 2) (2 * acc + 1) n else log2Frac y (2 * acc) n

/-- log2 A within 1 ulp. Of a zero it is -Inf, and of a negative operand NaN, as IEEE 754-2019 has them (R102). -/
def fLog2 (a : W32) : W32 :=
  match ofFp32 a with
  | .nan => 0x7FC00000
  | .inf neg => if neg then 0x7FC00000 else 0x7F800000
  | .fin neg m e =>
    if m = 0 then 0xFF800000
    else if neg then 0x7FC00000
    else
      let l := Nat.log2 m
      let x := m * 2 ^ 128 / 2 ^ l
      let fr := log2Frac x 0 96
      let t : Int := ((l : Int) + e) * 2 ^ 96 + (fr : Int)
      if t = 0 then 0
      else
        let exact := m == 2 ^ l
        let mag := ulpPick (Config.log2Pick a) t.natAbs (-96) exact
        BitVec.ofNat 32 (mag + if t < 0 then 0x80000000 else 0)

/-! ## Conversions (R96, R97) -/

/-- Round an exact value to an integer (R96, for INT8, I2F's inverse and F2I). -/
def roundInt (mode : RMode) (neg : Bool) (m : Nat) (e : Int) : Int := signedOf neg (roundUnits mode m e 0)

/-- Table: Drain conversion without scales (R97): the code of format `c` for a value, and whether a finite value
saturated. Beyond the largest finite value R96 lets toward zero give that value and stochastic act as nearest-even (assumption 96). -/
def convert (c : Nat) (mode : RMode) (v : FVal) : Nat × Bool :=
  if c = 7 then
    match v with
    | .nan => (0, false)
    | .inf neg => (if neg then 0x80 else 127, false)
    | .fin neg m e =>
      let big := if neg then 128 else 127
      if magLe m e big 0 then ((roundInt mode neg m e % 256).toNat, false)
      else (big, mode != .zero && decide (big < roundUnits .rne m e 0))
  else
    match v with
    | .nan => (nanCode c, false)
    | .inf neg =>
      let sg := if neg then signBit c else 0
      if c ≤ 2 ∨ c = 4 then (infCode c + sg, false)
      else if c = 3 then (0x7F, false)
      else (maxCode c + sg, false)
    | .fin neg m e =>
      let sg := if neg then signBit c else 0
      let r := roundTo c mode m e
      (r.1 + sg, r.2)

/-! ## The generator of R99 -/

/-- One round of Philox4x32 (assumption 12). -/
def philoxRound (c0 c1 c2 c3 k0 k1 : Nat) : Nat × Nat × Nat × Nat :=
  let p0 := 0xD2511F53 * c0
  let p1 := 0xCD9E8D57 * c2
  ((p1 / 2 ^ 32) ^^^ c1 ^^^ k0, p1 % 2 ^ 32, (p0 / 2 ^ 32) ^^^ c3 ^^^ k1, p0 % 2 ^ 32)

/-- Rounds of Philox with the key schedule. -/
def philoxN (c0 c1 c2 c3 k0 k1 : Nat) : Nat → Nat × Nat × Nat × Nat
  | 0 => (c0, c1, c2, c3)
  | n + 1 =>
    let r := philoxRound c0 c1 c2 c3 k0 k1
    philoxN r.1 r.2.1 r.2.2.1 r.2.2.2 ((k0 + 0x9E3779B9) % 2 ^ 32) ((k1 + 0xBB67AE85) % 2 ^ 32) n

/-- The four output words of Philox4x32-10 for a 64-bit key and four counter words. -/
def philox (key c0 c1 c2 c3 : Nat) : Nat × Nat × Nat × Nat :=
  philoxN (c0 % 2 ^ 32) (c1 % 2 ^ 32) (c2 % 2 ^ 32) (c3 % 2 ^ 32) (key % 2 ^ 32) (key / 2 ^ 32 % 2 ^ 32) 10

/-- Word `i` of four. -/
def pick4 (r : Nat × Nat × Nat × Nat) (i : Nat) : Nat :=
  if i = 0 then r.1 else if i = 1 then r.2.1 else if i = 2 then r.2.2.1 else r.2.2.2

/-- The 32-bit word that stochastic rounding draws (R99): seed, index, OP_INDEX, tile, stream and step. -/
def drawWord (seed i opIndex tile stream step : Nat) : Nat :=
  pick4 (philox seed (i / 4) (opIndex % 65536 + tile % 512 * 65536 + stream % 16 * 2 ^ 28) (step % 2 ^ 32) (step / 2 ^ 32)) (i % 4)

/-- The rounding mode of a ROUND or RND code (R46, R183, R228). -/
def modeOf (code r : Nat) : RMode := if code = 1 then .zero else if code = 2 then .stoch r else .rne

/-! ## Products and the chunk sum (R91 to R94) -/

/-- The value of an E8M0 scale (R86). -/
def scaleVal (b : Byte) : FVal := if b = 0xFF then .nan else .fin false 1 ((b.toNat : Int) - 127)

/-- The value of an operand element with an optional scale (R86, R87). -/
def operandVal (c v : Nat) (scale : Option Byte) : FVal :=
  match scale with
  | none => decodeElem c v
  | some b =>
    if b = 0xFF then .nan
    else
      match decodeElem c v with
      | .fin n m e => .fin n m (e + (b.toNat : Int) - 127 - (if c = 7 then 6 else 0))
      | x => x

/-- Truncation toward zero to a multiple of 2^q, as a count of 2^q (R92, step 3). -/
def truncTo (q : Int) (v : FVal) : Int :=
  match v with
  | .fin n m e => signedOf n (roundUnits .zero m e q)
  | _ => 0

/-- The largest exponent of the leading bit over nonzero finite products. -/
def maxLead : List FVal → Option Int
  | [] => none
  | .fin _ m e :: ps =>
    if m = 0 then maxLead ps
    else match maxLead ps with
      | none => some (leadExp m e)
      | some x => some (max x (leadExp m e))
  | _ :: ps => maxLead ps

/-- The chunk sum of R92 as an FP32 word. -/
def chunkSum (ps : List FVal) : W32 :=
  if ps.any isNan || (ps.any (· == .inf false) && ps.any (· == .inf true)) then 0x7FC00000
  else if ps.any (· == .inf false) then 0x7F800000
  else if ps.any (· == .inf true) then 0xFF800000
  else
    match maxLead ps with
    | none => if ps ≠ [] ∧ ps.all negOf then 0x80000000 else 0
    | some x =>
      let q := x - 36
      let t := ps.foldl (fun acc p => acc + truncTo q p) 0
      if t = 0 then 0 else toFp32 .rne (.fin (decide (t < 0)) t.natAbs q)

/-- Saturation to INT32. -/
def satI32 (i : Int) : Int := if i > 2147483647 then 2147483647 else if i < -2147483648 then -2147483648 else i

/-- The integer value of an INT8 code. -/
def i8 (v : Nat) : Int := if 128 ≤ v % 256 then (v % 256 : Int) - 256 else (v % 256 : Int)

end Sys2Proof.Machine
end

