-- ==== Sys2Proof/Machine/Matrix.lean ====
section
/-!
DEFINITION. Operands and passes of the matrix datapath (03, 04): array descriptors (R46), operand layout (R194, R196), the
weight and activation elements of a chunk, one pass (R92 to R94, R103), the drain (R96 to R98, R104, R106), and cycle
counts (R53 to R57, R63 to R67).
-/
namespace Sys2Proof.Machine

/-- A 32-bit word of focal memory of a tile, as decoded data. -/
def focalWord (s : State) (t off : Nat) : Nat := leNat (readBytes s (focalAddr t off) 4).1

/-- The fields of eight descriptor words (R46). -/
def adescOf (w : List Nat) : ADesc :=
  let w0 := w.getD 0 0
  let w1 := w.getD 1 0
  let w2 := w.getD 2 0
  { m := bits w0 0 16 + 1, k := bits w0 16 14 + 1, n := bits w1 0 14 + 1, s := 4 * (bits w1 14 9 + 1),
    aFmt := bits w1 23 3, wFmt := bits w1 26 3, oFmt := bits w1 29 3,
    finder := bit w2 0, aT := bit w2 1, wT := bit w2 2, accIn := bit w2 3, drain := bit w2 4, round := bits w2 5 2,
    aMx := bit w2 7, wMx := bit w2 8, oMx := bit w2 9,
    aBase := bits (w.getD 3 0) 0 24, wBase := bits (w.getD 4 0) 0 24, oBase := bits (w.getD 5 0) 0 24,
    opIndex := bits (w.getD 6 0) 0 16 }

/-- The eight 32-bit words of 32 bytes. -/
def words8 (b : List Byte) : List Nat := (List.range 8).map (fun i => leNat ((b.drop (4 * i)).take 4))

/-- The class of a format: 0 the 16-bit, 1 the 8-bit, 2 the 4-bit class (Table: Format classes). -/
def fmtClass (c : Nat) : Nat := if c ≤ 2 then 0 else if c = 6 then 2 else 1

/-- The class a pair runs at: the wider (R44). -/
def pairClass (a w : Nat) : Nat := min (fmtClass a) (fmtClass w)

/-- The K-chunk of a class: 16, 32 or 64. -/
def kChunk (cls : Nat) : Nat := 16 * 2 ^ cls

/-- The accumulators hold INT32 (R88). -/
def isInt (d : ADesc) : Bool := d.aFmt == 7 && d.wFmt == 7 && !d.aMx && !d.wMx

/-- Bytes of `j` elements of a format from the start of a row. -/
def rowByte (c j : Nat) : Nat := j * elemBits c / 8

/-- Layout blocks along a row of `cols` elements (R194). -/
def ncb (c cols : Nat) : Nat := ceilDiv (cols * elemBits c) 8192

/-- The bytes of the element data of a stored matrix (R194). -/
def dataBytes (c rows cols : Nat) : Nat := 32768 * ceilDiv rows 32 * ncb c cols

/-- The window offset of the byte that holds element (i, j) (R194). -/
def elemOff (base c cols i j : Nat) : Nat :=
  let b := rowByte c j
  base + 32768 * ((i / 32) * ncb c cols + b / 1024) + 1024 * (i % 32) + b % 1024

/-- Element (i, j) of a stored matrix in a tile's window, and whether a word that holds it is poisoned. -/
def elemAt (s : State) (t base c cols i j : Nat) : Nat × Bool :=
  let r := readBytes s (focalAddr t (elemOff base c cols i j)) (max 1 (elemBits c / 8))
  let v := leNat r.1
  (if c = 6 then (if j % 2 = 0 then v % 16 else v / 16) else v, r.2.any id)

/-- A scale byte of a tile's window with its mark. -/
def scaleAt (s : State) (t off : Nat) : Byte × Bool :=
  let r := readBytes s (focalAddr t off) 1
  (r.1.headD 0, r.2.any id)

/-- An operand element with its scale applied, its value and its mark. -/
structure OpElem where
  v : FVal
  raw : Nat
  poison : Bool
  deriving DecidableEq, Repr

/-- Element (i, k) of the activation operand (R61, R194, R196). -/
def actElem (s : State) (t : Nat) (d : ADesc) (i k : Nat) : OpElem :=
  let e := if d.aT then elemAt s t d.aBase d.aFmt d.m k i else elemAt s t d.aBase d.aFmt d.k i k
  if d.aMx then
    let sb := d.aBase + (if d.aT then dataBytes d.aFmt d.k d.m else dataBytes d.aFmt d.m d.k)
    let sc := scaleAt s t (sb + if d.aT then (k / 32) * d.m + i else i * ceilDiv d.k 32 + k / 32)
    ⟨operandVal d.aFmt e.1 (some sc.1), e.1, e.2 || sc.2⟩
  else ⟨operandVal d.aFmt e.1 none, e.1, e.2⟩

/-- Element (k, n) of the weight operand as it is stored: its code, its mark, and its scale where it carries one. -/
def wCode (s : State) (t : Nat) (d : ADesc) (k n : Nat) : Nat × Bool × Option Byte :=
  let e := if d.wT then elemAt s t d.wBase d.wFmt d.k n k else elemAt s t d.wBase d.wFmt d.n k n
  if d.wMx then
    let sb := d.wBase + (if d.wT then dataBytes d.wFmt d.n d.k else dataBytes d.wFmt d.k d.n)
    let sc := scaleAt s t (sb + if d.wT then n * ceilDiv d.k 32 + k / 32 else (k / 32) * d.n + n)
    (e.1, e.2 || sc.2, some sc.1)
  else (e.1, e.2, none)

/-- Element (k, n) of the weight operand. -/
def wElem (s : State) (t : Nat) (d : ADesc) (k n : Nat) : OpElem :=
  let e := wCode s t d k n
  ⟨operandVal d.wFmt e.1 e.2.2, e.1, e.2.1⟩

/-- Stripes of an operation, and its accumulations (R51). -/
def stripes (d : ADesc) : Nat := ceilDiv d.m d.s
def groups (d : ADesc) : Nat := ceilDiv d.n 128
def accumulations (d : ADesc) : Nat := stripes d * groups d
/-- Chunks of an operation (R60). -/
def chunks (d : ADesc) : Nat := ceilDiv d.k (kChunk (pairClass d.aFmt d.wFmt))
/-- Rows of the stripe of accumulation `a`. -/
def accRows (d : ADesc) (a : Nat) : Nat := min d.s (d.m - a % stripes d * d.s)
/-- Blocks of 32 columns in use in the N group of accumulation `a`. -/
def accBlocks (d : ADesc) (a : Nat) : Nat := min 4 (ceilDiv d.n 32 - 4 * (a / stripes d))

/-- The key of an accumulator entry: array, row and column (R42). -/
def accKey (array row col : Nat) : Nat := array * 65536 + row * 32 + col

/-- The parity bit of an entry: that of its 32 bits, even parity (assumption 102). -/
def parityOf (v : W32) : Bool := (List.range 32).foldl (fun p i => p ^^ v.getLsbD i) false

/-- An entry as the accumulator writes it, with its parity bit (R42). -/
def accEntry (v : W32) (poison : Bool) : AccEntry := { v := v, poison := poison, parity := parityOf v }

/-- Lists cut into pieces of `k`, by fuel. -/
def chunksOf {α : Type} (k : Nat) (l : List α) : Nat → List (List α)
  | 0 => []
  | n + 1 => if l.isEmpty then [] else l.take k :: chunksOf k (l.drop k) n

/-- The live positions of chunk `kc` of K (R52, R60). -/
def chunkKs (d : ADesc) (kc : Nat) : List Nat :=
  let kch := kChunk (pairClass d.aFmt d.wFmt)
  (List.range (min kch (d.k - kc * kch))).map (· + kc * kch)

/-- The weight set that the shadow load reads for chunk `kc` of accumulation `a`: the live columns of the N group (R40, R52, R54). -/
def loadSet (s : State) (t : Nat) (d : ADesc) (a kc : Nat) : WeightSet :=
  let n0 := 128 * (a / stripes d)
  let ks := chunkKs d kc
  let es := (List.range (min 128 (d.n - n0))).flatMap (fun n => ks.map (fun k => wCode s t d k (n0 + n)))
  { fmt := d.wFmt, rows := ks.length, elems := es.map (fun e => (e.1, e.2.1)), scales := es.filterMap (fun e => e.2.2) }

/-- The columns of a weight set as operand elements. -/
def setCols (w : WeightSet) : List (List OpElem) :=
  chunksOf w.rows ((w.elems.zipIdx).map (fun e => ⟨operandVal w.fmt e.1.1 w.scales[e.2]?, e.1.1, e.1.2⟩)) 128

/-- One entry after one pass (R92 to R94, R103): the new entry and whether an INT32 sum saturated. -/
def passEntry (int first : Bool) (old : AccEntry) (as ws : List OpElem) : AccEntry × Bool :=
  let p := (as ++ ws).any (·.poison)
  if int then
    let c : Int := (as.zip ws).foldl (fun acc e => acc + i8 e.1.raw * i8 e.2.raw) 0
    let v := if first then c else old.v.toInt + c
    (accEntry (BitVec.ofInt 32 (satI32 v)) (p || (!first && old.poison)), satI32 v != v)
  else
    let c := chunkSum ((as.zip ws).map (fun e => mulV e.1.v e.2.v))
    (accEntry (if first then c else fAdd .rne old.v c) (p || (!first && old.poison)), false)

/-- What a pass gives: the accumulators, INT32 saturations, and row groups and weight sets with a non-finite element. -/
structure PassOut where
  acc : NMap AccEntry
  sat : Nat
  nanIn : Nat
  deriving DecidableEq, Repr

/-- A value that is NaN or infinite (R106). -/
def badElem (e : OpElem) : Bool := isNan e.v || isInf e.v

/-- One column of one row of a pass. -/
def passCell (int first : Bool) (half : Nat) (as : List OpElem) (row : Nat) (acc : NMap AccEntry × Nat)
    (cw : Nat × List OpElem) : NMap AccEntry × Nat :=
  let key := accKey (cw.1 / 32 % 4) (row + half) (cw.1 % 32)
  let r := passEntry int first (mget acc.1 key {}) as cw.2
  (mput natLt acc.1 key r.1 {}, acc.2 + r.2.toNat)

/-- One pass: chunk `kc` of accumulation `a` against its weight set (R50 to R53, R92 to R94, R103, R106). -/
def runPass (s : State) (t : Nat) (d : ADesc) (w : WeightSet) (acc : NMap AccEntry) (a kc : Nat) : PassOut :=
  let ks := chunkKs d kc
  let r0 := a % stripes d * d.s
  let n0 := 128 * (a / stripes d)
  let rows := accRows d a
  let cols := (List.range (min 128 (d.n - n0))).map (· + n0)
  let first := kc == 0 && !(d.accIn && a == 0)
  let half := if d.s ≤ 1024 then 1024 * (a % 2) else 0
  let ws := cols.zip (setCols w)
  let as := (List.range rows).map (fun i => (i, ks.map (fun k => actElem s t d (r0 + i) k)))
  let r := as.foldl (fun st ra => ws.foldl (passCell (isInt d) first half ra.2 ra.1) st) (acc, 0)
  let wBad := if ws.any (fun c => c.2.any badElem) then 1 else 0
  let aBad := (List.range (ceilDiv rows 4)).foldl
    (fun n g => n + if (as.drop (4 * g)).take 4 |>.any (fun ra => ra.2.any badElem) then 1 else 0) 0
  ⟨r.1, r.2, wBad + aBad⟩

/-! ## The drain -/

/-- The shared exponent offset of an output format (R98). -/
def emaxOf (c : Nat) : Int := if c = 3 then 8 else if c = 4 then 15 else if c = 5 then 4 else if c = 6 then 2 else 0

/-- The largest magnitude of a block as a value to compare exponents by. -/
def blockMax (vs : List FVal) : Option Int := maxLead vs

/-- The scale byte and element codes of an output block, with the count of saturations (R98). -/
def mxBlock (c : Nat) (vs : List (FVal × RMode)) : Byte × List Nat × Nat :=
  if vs.any (fun v => isNan v.1 || isInf v.1) then (0xFF, vs.map (fun _ => 0), 0)
  else
    match blockMax (vs.map (·.1)) with
    | none => (127, vs.map (fun v => if c ≠ 7 && negOf v.1 then signBit c else 0), 0)
    | some l =>
      let x := max (-127) (min 127 (l - emaxOf c))
      let es := vs.map (fun v =>
        match v.1 with
        | .fin n m e => convert c v.2 (.fin n m (e - x + if c = 7 then 6 else 0))
        | _ => (0, false))
      (BitVec.ofNat 8 (x + 127).toNat, es.map (·.1), es.foldl (fun n e => n + e.2.toNat) 0)

/-- Element codes packed into bytes (R85). -/
def packElems (c : Nat) : List Nat → List Byte
  | [] => []
  | [e] => if c = 6 then [BitVec.ofNat 8 (e % 16)] else leBytes e (elemBits c / 8)
  | e :: f :: r =>
    if c = 6 then BitVec.ofNat 8 (e % 16 + 16 * (f % 16)) :: packElems c r
    else leBytes e (elemBits c / 8) ++ packElems c (f :: r)

/-- What the drain counts (R106). -/
structure DrainCount where
  nan : Nat := 0
  inf : Nat := 0
  sat : Nat := 0
  poisonWords : Nat := 0
  watched : Bool := false
  poisonWatched : Option Nat := none
  deriving DecidableEq, Repr

/-- The watched range of a tile covers a byte of its window (FIN_WATCH, R106). -/
def inWatch (s : State) (t off : Nat) : Bool :=
  getB s F.FIN_WATCH_ENABLE t && decide (getF s F.FIN_WATCH_BASE t * 1024 ≤ off) &&
    decide (off < getF s F.FIN_WATCH_LIMIT t * 1024)

/-- The watched range of a tile meets `n` bytes from an offset. -/
def watchMeets (s : State) (t off n : Nat) : Bool :=
  getB s F.FIN_WATCH_ENABLE t && decide (getF s F.FIN_WATCH_BASE t < getF s F.FIN_WATCH_LIMIT t) &&
    decide (off < getF s F.FIN_WATCH_LIMIT t * 1024) && decide (getF s F.FIN_WATCH_BASE t * 1024 < off + n)

/-- The entries of one row of an accumulation, over `w` columns; a column beyond N drains as +0 (R52). -/
def rowEntries (acc : NMap AccEntry) (d : ADesc) (half row n0 w : Nat) : List AccEntry :=
  (List.range w).map (fun j =>
    if n0 + j < d.n then mget acc (accKey (j / 32) (row + half) (j % 32)) {} else {})

/-- The marks of the 32-byte words that hold a row of scale bytes from an offset: a word is marked when any block of the scales it
holds is poisoned (R104). -/
def scaleMarks (sb : Nat) (ps : List Bool) : List Bool :=
  (List.range ((sb % 32 + ps.length + 31) / 32)).map (fun w => ps.zipIdx.any (fun e => e.1 && (sb % 32 + e.2) / 32 == w))

/-- One row of an accumulation drained (R56, R96 to R98, R104, R106). DESIGN CHOICE (assumption 105): a row with a NaN or an infinite
entry is written within the watched range when any byte of it, scales included, lies there. -/
def drainRow (step seed : Nat) (t : Nat) (d : ADesc) (r0 n0 w : Nat) (row : Nat) (es : List AccEntry)
    (sc : State × DrainCount) : State × DrainCount :=
  let s := sc.1
  let i := r0 + row
  let mode (j : Nat) : RMode :=
    modeOf d.round (if d.round = 2 then drawWord seed (i * d.n + n0 + j) d.opIndex t 0 step else 0)
  let live := d.n - n0
  let int := isInt d
  let vals := (List.range w).zip es |>.map (fun e => (ofFp32 e.2.v, mode e.1))
  let blocks := chunksOf 32 vals 4
  let mx := blocks.map (mxBlock d.oFmt)
  let codes : List (Nat × Bool) :=
    if int then es.map (fun e => (e.v.toNat, false))
    else if d.oMx then (mx.map (fun b => b.2.1.map (fun c => (c, false)))).flatten
    else vals.map (fun v => convert d.oFmt v.2 v.1)
  let bytes := packElems d.oFmt (codes.map (·.1))
  let off := elemOff d.oBase d.oFmt d.n i n0
  let perWord := 256 / elemBits d.oFmt
  let marks := (chunksOf perWord es 16).map (fun l => l.any (·.poison))
  let s := writeBytes s (focalAddr t off) bytes marks
  let sb := d.oBase + dataBytes d.oFmt d.m d.n + i * ceilDiv d.n 32 + n0 / 32
  let scMarks := if d.oMx then scaleMarks sb ((chunksOf 32 es 4).map (fun l => l.any (·.poison))) else []
  let s := if d.oMx then writeBytes s (focalAddr t sb) (mx.map (·.1)) scMarks else s
  let liveVals := if int then [] else (vals.take live).map (·.1)
  let nan := (liveVals.filter isNan).length
  let inf := (liveVals.filter isInf).length
  let sat := (codes.filter (·.2)).length + (if d.oMx then (mx.map (·.2.2)).foldl (· + ·) 0 else 0)
  let c := sc.2
  let meets := watchMeets s t off bytes.length || (d.oMx && watchMeets s t sb mx.length)
  (s, { c with
    nan := c.nan + nan
    inf := c.inf + inf
    sat := c.sat + sat
    poisonWords := c.poisonWords + ((marks ++ scMarks).filter id).length
    watched := c.watched || (decide (0 < nan + inf) && meets)
    poisonWatched := if c.poisonWatched.isNone && (marks ++ scMarks).any id && meets then some off else c.poisonWatched })

/-- The counts of a drain posted in the finite monitors, with the poison consumed in a watched range (R106, R304). -/
def postDrain (s : State) (t : Nat) (c : DrainCount) : State :=
  let s := incF s F.FIN_NAN_OUT_COUNT t c.nan
  let s := incF s F.FIN_INF_OUT_COUNT t c.inf
  let s := incF s F.FIN_SAT_COUNT t c.sat
  let s := incF s F.FIN_POISON_OUT_COUNT t c.poisonWords
  let s := if 0 < c.nan + c.inf then setB s F.FIN_STEP_NONFINITE_ANY t true else s
  let s := if 0 < c.sat then setB s F.FIN_STEP_SAT_ANY t true else s
  let s := if 0 < c.poisonWords then setB s F.FIN_STEP_POISON_OUT t true else s
  let s := if c.watched then setB s F.FIN_STEP_NONFINITE_WATCHED t true else s
  match c.poisonWatched with
  | some off => consumePoison s (focalAddr t off) C.POISON_WATCHED_T t
  | none => s

/-- The drain of accumulation `a` into the focal store. -/
def runDrain (s : State) (t : Nat) (d : ADesc) (acc : NMap AccEntry) (a : Nat) : State :=
  let half := if d.s ≤ 1024 then 1024 * (a % 2) else 0
  let r0 := a % stripes d * d.s
  let n0 := 128 * (a / stripes d)
  let w := 32 * accBlocks d a
  let step := getF s F.SEG_STEP_STEP 0
  let r := (List.range (accRows d a)).foldl
    (fun sc row => drainRow step s.act.seed t d r0 n0 w row (rowEntries acc d half row n0 w) sc) (s, {})
  postDrain r.1 t r.2

/-! ## The finder path (R63 to R68) -/

/-- One row group of the finder path: its results by the same chunk and reduction order as the arrays (R68), and the
row groups and weight sets with a non-finite element (R106). -/
def finderRow (s : State) (t : Nat) (d : ADesc) (i n : Nat) : AccEntry × Nat :=
  (List.range (chunks d)).foldl (fun st kc =>
    let ks := chunkKs d kc
    let r := passEntry (isInt d) (kc == 0) st.1 (ks.map (fun k => actElem s t d i k)) (ks.map (fun k => wElem s t d k n))
    (r.1, st.2 + r.2.toNat)) ({}, 0)

/-- The chunks of a finder row group, and of the weight sets streamed against it, that hold a non-finite element. -/
def finderBad (s : State) (t : Nat) (d : ADesc) (g : Nat) : Nat :=
  let rows := (List.range (min 4 (d.m - 4 * g))).map (· + 4 * g)
  (List.range (chunks d)).foldl (fun n kc =>
    let ks := chunkKs d kc
    let a := rows.any (fun i => ks.any (fun k => badElem (actElem s t d i k)))
    let w := (List.range (groups d)).foldl (fun m ng =>
      m + if ((List.range (min 128 (d.n - 128 * ng))).any (fun j => ks.any (fun k => badElem (wElem s t d k (128 * ng + j)))))
        then 1 else 0) 0
    n + a.toNat + w) 0

/-- Entries of an array of the accumulators left out. -/
def clearAcc (acc : NMap AccEntry) (array : Nat) : NMap AccEntry := acc.filter (fun e => e.1 / 65536 != array)

/-- Position `j` of row `row` of a finder row group in an accumulator: 512 accumulator rows of 32 columns for each of the four rows
(assumption 103). -/
def finderKey (array row j : Nat) : Nat := accKey array (512 * row + j / 32) (j % 32)

/-- The rows of A that finder row group `g` holds in accumulator A: their codes (R63). -/
def finderRows (s : State) (t : Nat) (d : ADesc) (g : Nat) : List (Nat × AccEntry) :=
  (List.range (min 4 (d.m - 4 * g))).flatMap (fun row => (List.range d.k).map (fun k =>
    let e := actElem s t d (4 * g + row) k
    (finderKey 0 row k, accEntry (BitVec.ofNat 32 e.raw) e.poison)))

/-- The products of finder row group `g`, row by row, each with its INT32 saturations. -/
def finderCells (s : State) (t : Nat) (d : ADesc) (g : Nat) : List (List (AccEntry × Nat)) :=
  (List.range (min 4 (d.m - 4 * g))).map (fun row => (List.range d.n).map (fun n => finderRow s t d (4 * g + row) n))

/-- The accumulators after row group `g` of a finder operation: its rows in A, its products in B for an even group and in C for
an odd one (R63, R65). -/
def finderAcc (s : State) (t : Nat) (d : ADesc) (g : Nat) (acc : NMap AccEntry) : NMap AccEntry :=
  let dst := 1 + g % 2
  let out := ((finderCells s t d g).zipIdx).flatMap (fun r => (r.1.zipIdx).map (fun c => (finderKey dst r.2 c.2, c.1.1)))
  (finderRows s t d g ++ out).foldl (fun acc e => mput natLt acc e.1 e.2 {}) (clearAcc (clearAcc acc 0) dst)

/-- Row group `g` of a finder operation drained (R63). -/
def runFinder (s : State) (t : Nat) (d : ADesc) (g : Nat) : State :=
  let w := 32 * ceilDiv d.n 32
  let step := getF s F.SEG_STEP_STEP 0
  let r := ((finderCells s t d g).zipIdx).foldl (fun (sc : State × DrainCount) x =>
    let row := x.2
    let cells := (x.1 ++ List.replicate (w - d.n) (({} : AccEntry), 0))
    let sat := (cells.map (·.2)).foldl (· + ·) 0
    let sc := (List.range (groups d)).foldl (fun sc ng =>
      drainRow step s.act.seed t d (4 * g) (128 * ng) (min 128 (w - 128 * ng)) row
        (((cells.map (·.1)).drop (128 * ng)).take 128) sc) sc
    (sc.1, { sc.2 with sat := sc.2.sat + sat })) (s, {})
  postDrain r.1 t r.2

/-! ## Cycle counts -/

/-- Cycles of the first weight load of an operation (R54). -/
def loadCycles (d : ADesc) : Nat := if d.wT && (d.wFmt == 1 || d.wFmt == 2) then 8 else 4

/-- Cycles of one pass of accumulation `a` (R53). -/
def passCycles (d : ADesc) (a : Nat) : Nat := ceilDiv (accRows d a) 4 + 12

/-- Cycles of the drain of `r` rows of `w` columns (R56). -/
def drainCycles (d : ADesc) (r w : Nat) : Nat := ceilDiv (r * w * elemBits d.oFmt) (8 * 384)

/-- Elements the finder streams in a cycle (R66). -/
def finderRate (d : ADesc) : Nat :=
  if d.wT && (d.wFmt == 1 || d.wFmt == 2) then 256 else 512 * 2 ^ pairClass d.aFmt d.wFmt

/-- Cycles in which a finder row group streams weights. -/
def finderStream (d : ADesc) : Nat := ceilDiv (d.k * d.n) (finderRate d)

/-- Cycles of the load of the rows of finder row group `g` (R67). -/
def finderLoad (d : ADesc) (g : Nat) : Nat := ceilDiv (min 4 (d.m - 4 * g) * d.k * elemBits d.aFmt) 8192

/-- Cycles of finder row group `g` (R67). -/
def finderCycles (d : ADesc) (g : Nat) : Nat := finderLoad d g + finderStream d + 12

/-- The row groups of a finder operation, or the accumulations of an array operation. -/
def pieces (d : ADesc) : Nat := if d.finder then ceilDiv d.m 4 else accumulations d

/-- The drain end of piece `a`, given the time its last partial sum is in and the drain ends before it (R56, R60). -/
def drainEnd (d : ADesc) (a t : Nat) (ends : List Nat) : Nat :=
  if d.drain then
    max t (ends.getLastD 0) +
      (if d.finder then drainCycles d (min 4 (d.m - 4 * a)) (32 * ceilDiv d.n 32)
       else drainCycles d (accRows d a) (32 * accBlocks d a))
  else t

/-- When the next piece `a` may begin, after the end `t` of the piece before it (R57, R63). -/
def nextStart (d : ADesc) (a t : Nat) (ends : List Nat) : Nat :=
  if d.finder ∨ d.s ≤ 1024 then (if 2 ≤ a then max t (ends.getD (a - 2) 0) else t)
  else max t (ends.getD (a - 1) 0)

/-- The drain ends of a finder operation from row group `a` at `t`, row group by row group (R63, R66, R67). -/
def finderEnds (d : ADesc) (a t : Nat) (ends : List Nat) : Nat → List Nat
  | 0 => ends
  | n + 1 =>
    let t := nextStart d a t ends + finderCycles d a
    finderEnds d (a + 1) t (ends ++ [drainEnd d a t ends]) n

/-- The cycles in which the row groups of a finder operation that starts at `t` stream weights: each span's first cycle and its
length (R63, R66, R67). -/
def finderSpans (d : ADesc) (a t : Nat) (ends : List Nat) : Nat → List (Nat × Nat)
  | 0 => []
  | n + 1 =>
    let st := nextStart d a t ends
    let t := st + finderCycles d a
    (st + finderLoad d a, finderStream d) :: finderSpans d (a + 1) t (ends ++ [drainEnd d a t ends]) n

/-- The cycles an operation takes in isolation, as the listing of R60 counts them, piece by piece. -/
def opCyclesFrom (d : ADesc) (a t : Nat) (ends : List Nat) : Nat → Nat
  | 0 => ends.getLastD t
  | n + 1 =>
    let st := nextStart d a t ends
    let t := st + if d.finder then finderCycles d a else chunks d * passCycles d a
    opCyclesFrom d (a + 1) t (ends ++ [drainEnd d a t ends]) n

/-- The cycles of an operation (R60, R67). -/
def opCycles (d : ADesc) : Nat := opCyclesFrom d 0 (if d.finder then 0 else loadCycles d) [] (pieces d)

end Sys2Proof.Machine
end

