-- ==== Sys2Proof/Machine/Requests.lean ====
section
/-!
DEFINITION. Requests to slices and channels (09): quotas and congestion (R270 to R272), queues, ETA hints (R277), and the
units of state that requests and tiles are kept in.
-/
namespace Sys2Proof.Machine

/-! ## Units of state -/

def getEph (s : State) (t : Nat) : EphSt := mget s.eph.tiles t {}
def setEph (s : State) (t : Nat) (e : EphSt) : State := { s with eph := { s.eph with tiles := mput natLt s.eph.tiles t e {} } }
def getArr (s : State) (t : Nat) : ArrSt := mget s.arr t {}
def setArr (s : State) (t : Nat) (a : ArrSt) : State := { s with arr := mput natLt s.arr t a {} }
def getLane (s : State) (t : Nat) : LaneSt := mget s.lane.tiles t {}
def setLane (s : State) (t : Nat) (l : LaneSt) : State := { s with lane := { s.lane with tiles := mput natLt s.lane.tiles t l {} } }
def getSlice (s : State) (i : Nat) : SliceSt := mget s.deep.slices i {}
def setSlice (s : State) (i : Nat) (x : SliceSt) : State := { s with deep := { s.deep with slices := mput natLt s.deep.slices i x {} } }
def getChan (s : State) (c : Nat) : ChanSt := mget s.deep.chans c {}
def setChan (s : State) (c : Nat) (x : ChanSt) : State := { s with deep := { s.deep with chans := mput natLt s.deep.chans c x {} } }

/-- A lamp run in progress stops (R266). -/
def stopLamp (s : State) (c : Nat) : State :=
  let h := getChan s c
  if h.lamp.isSome then setB (setB (setChan s c { h with lamp := none }) F.LAMP_STATUS_BUSY c false) F.LAMP_STATUS_DONE c true
  else s
def getSet (s : State) (i set : Nat) : List CLine := mget s.deep.sets (i, set) []
def setSet (s : State) (i set : Nat) (x : List CLine) : State := { s with deep := { s.deep with sets := mput pairLt s.deep.sets (i, set) x [] } }

/-! ## Addresses of requests -/

/-- The slice whose cache serves an LPDDR address, with the channel, the channel-local page and the region; none where the page
cannot be reached (R259). -/
def sliceOf (s : State) (a : Nat) : Option (Nat × Nat × Nat × Region) :=
  match homeOf s a with
  | some (c, p, r) =>
    let pl := placeOf s c p
    if s.store.short.contains pl then none else some (servingSlice s pl, c, p, r)
  | none => none

/-- The slice of a plate scratch address, when the address lies in its carved part and the slice serves (R202, R206). -/
def scratchSlice (s : State) (a : Nat) : Option Nat :=
  if scratchBase ≤ a ∧ a < scratchBase + 192 * 0x8000000 then
    let i := (a - scratchBase) / 0x8000000
    let off := (a - scratchBase) % 0x8000000
    if off < getF s F.SLC_CFG_CARVE i * 0x1000000 ∧ getB s F.SLC_STATUS_SHUTTERED i = false ∧
        getB s F.SLC_STATUS_FOLDED i = false then some i else none
  else none

/-- The home slice that a request to an address goes to; none for an unmapped place (R202). -/
def targetSlice (s : State) (a : Nat) : Option Nat :=
  match sliceOf s a with
  | some r => some r.1
  | none => scratchSlice s a

/-- A copy of a channel's pages runs (R261). -/
def copying (s : State) : Bool := s.deep.chans.any (fun e => e.2.copy.isSome)

/-! ## Quotas (R270 to R272) -/

/-- The key of an instance and band in the table of outstanding counts. -/
def instKey (cls inst band : Nat) : Nat × Nat := (cls * 1024 + inst, band)

/-- Transactions an instance has outstanding in a band. -/
def outstanding (s : State) (cls inst band : Nat) : Nat := mget s.deep.outstanding (instKey cls inst band) 0

def setOutstanding (s : State) (cls inst band n : Nat) : State :=
  { s with deep := { s.deep with outstanding := mput pairLt s.deep.outstanding (instKey cls inst band) n 0 } }

/-- The marks in use (BND_MARKS, R283): slice high, slice low, channel high, channel low. -/
def marks (s : State) : Nat × Nat × Nat × Nat :=
  let sh := getF s F.BND_MARKS_SL_HIGH 0
  let sl := getF s F.BND_MARKS_SL_LOW 0
  let ch := getF s F.BND_MARKS_CH_HIGH 0
  let cl := getF s F.BND_MARKS_CH_LOW 0
  let a := if sl < sh ∧ sh ≤ 120 then (sh, sl) else (0x60, 0x30)
  let b := if cl < ch ∧ ch ≤ 56 then (ch, cl) else (0x30, 0x18)
  (a.1, a.2, b.1, b.2)

/-- A queue of requests: of a slice port or of a channel controller. -/
def getQ (s : State) : ReqTarget → ReqQueue
  | .slice i => (getSlice s i).rq
  | .chan c => (getChan s c).rq

def setQ (s : State) (q : ReqQueue) : ReqTarget → State
  | .slice i => setSlice s i { getSlice s i with rq := q }
  | .chan c => setChan s c { getChan s c with rq := q }

/-- The capacity of a queue (R271). -/
def qCap : ReqTarget → Nat
  | .slice _ => 128
  | .chan _ => 64

/-- The congestion bit after a change of a queue's length (R271). -/
def congest (s : State) (t : ReqTarget) (q : ReqQueue) : ReqQueue :=
  let m := marks s
  let hi := match t with
    | .slice _ => m.1
    | .chan _ => m.2.2.1
  let lo := match t with
    | .slice _ => m.2.1
    | .chan _ => m.2.2.2
  { q with congested := if hi ≤ q.queue.length then true else if q.queue.length ≤ lo then false else q.congested }

/-- The ETA hint of a transaction in a queue, in units of 8 cycles: transactions of equal or higher rank ahead (R277). -/
def etaOf (q : ReqQueue) (band : Nat) : Nat :=
  let n := (q.queue.filter (fun x => decide (band ≤ x.band))).length
  min 255 n

/-- The channel that holds the page of an LPDDR address now. -/
def chanOf (s : State) (a : Nat) : Option Nat :=
  match homeOf s a with
  | some (c, p, _) => some (placeOf s c p)
  | none => none

/-- The slice whose port an address is sent to: the home slice, the slice of a scratch address, or slice 0 for a place that
no slice holds; an unmapped place is found there (R202). -/
def routeSlice (s : State) (a : Nat) : Nat :=
  match sliceOf s a with
  | some r => r.1
  | none => if scratchBase ≤ a ∧ a < scratchBase + 192 * 0x8000000 then (a - scratchBase) / 0x8000000 else 0

/-- A target of a request to an address posts congestion: its home slice, or the channel of its page (R271, R272). -/
def targetCongested (s : State) (a : Nat) : Bool :=
  (getSlice s (routeSlice s a)).rq.congested || (match chanOf s a with
    | some c => (getChan s c).rq.congested
    | none => false)

/-- Whether a master may issue a request of a band (R270, R272). -/
def mayIssue (s : State) (x : Txn) : Bool :=
  let gq := getF s F.BND_QUOTA_GQ (x.cls * 8 + x.band)
  let sq := getF s F.BND_QUOTA_SQ (x.cls * 8 + x.band)
  let o := outstanding s x.cls x.inst x.band
  if targetCongested s x.addr then decide (o < gq) else decide (o < gq + sq)

/-- A request refused by a target waits until its hint has elapsed (R277). -/
def refuse (s : State) (x : Txn) (t : ReqTarget) (eta : Nat) : State :=
  { s with deep := { s.deep with refused := s.deep.refused ++ [⟨x, t, eta, mountCyc s + 8 * eta, false⟩] } }

/-- A transaction that ended with RETRY waits to be issued again (R37). -/
def retryLater (s : State) (x : Txn) (t : ReqTarget) : State :=
  { s with deep := { s.deep with refused := s.deep.refused ++ [⟨x, t, 0, mountCyc s, true⟩] } }

/-- A request enters the queue of a target, or is refused with a hint when the queue is full (R271, R277). -/
def place (s : State) (x : Txn) (t : ReqTarget) : State :=
  let q := getQ s t
  if qCap t ≤ q.queue.length then refuse s x t (etaOf q x.band)
  else setQ s (congest s t { q with queue := q.queue ++ [{ x with born := mountCyc s }] }) t

/-- A request is issued to the slice of its address: it is outstanding from now (R269). -/
def enqueue (s : State) (x : Txn) : State :=
  place (setOutstanding s x.cls x.inst x.band (outstanding s x.cls x.inst x.band + 1)) x (.slice (routeSlice s x.addr))

/-- A mover holds a transaction of a transfer with a hint above 4, and the hint has not elapsed (R277). -/
def hintedXfer (s : State) (inst id : Nat) : Bool :=
  s.deep.refused.any (fun r => r.txn.cls == 0 && r.txn.inst == inst && r.txn.owner == .xfer id && decide (4 < r.eta) && decide (mountCyc s < r.until_))

/-- The transaction waits for a hint of its transfer, while those of the mover's other transfers go on (R277). -/
def waitsHint (s : State) (x : Txn) : Bool :=
  match x.owner with
  | .xfer id => x.cls == 0 && hintedXfer s x.inst id
  | _ => false

/-- The requests that a master holds in a band and that no hint keeps, in the order in which they were formed (R272). -/
def heldOf (s : State) (cls inst band : Nat) : List Txn :=
  s.deep.heldReq.filter (fun h => h.cls == cls && h.inst == inst && h.band == band && !waitsHint s h)

/-- A request formed by a master: issued, or held in its master behind its earlier requests (R272). -/
def submit (s : State) (x : Txn) : State :=
  if (heldOf s x.cls x.inst x.band).isEmpty && !waitsHint s x && mayIssue s x then enqueue s x
  else { s with deep := { s.deep with heldReq := s.deep.heldReq ++ [x] } }

/-- Requests in order. -/
def submitAll (s : State) (xs : List Txn) : State := xs.foldl submit s

/-- A transaction's data or acceptance has returned to its master. -/
def finishTxn (s : State) (x : Txn) (d : List Byte) (p : List Bool) : State :=
  let s := setOutstanding s x.cls x.inst x.band (outstanding s x.cls x.inst x.band - 1)
  { s with deep := { s.deep with done := s.deep.done ++ [(x, d, p)] } }

/-- The line-sized pieces of a byte range: address, length and offset from the start. Fuel bounds the count. -/
def linePieces (a n off : Nat) : Nat → List (Nat × Nat × Nat)
  | 0 => []
  | f + 1 =>
    if n = 0 then []
    else
      let k := min (256 - a % 256) n
      (a, k, off) :: linePieces (a + k) (n - k) (off + k) f

/-- A transaction number is drawn. -/
def newTxn (s : State) : State × Nat :=
  ({ s with deep := { s.deep with nextTxn := s.deep.nextTxn + 1 } }, s.deep.nextTxn)

end Sys2Proof.Machine
end

