-- ==== Sys2Proof/Machine/Recover.lean ====
section
/-!
DEFINITION. Page-code recovery (10, R291 to R293) and the codes that a home slice records about an address (07, R225, R240, R241;
10, R304).
-/
namespace Sys2Proof.Machine

/-! ## Captures -/

/-- A code of class 0x05 captured with the channel-local line of an address (R240). -/
def captureSlice (s : State) (i : Nat) (c : FaultCode) (line : Nat) : State :=
  if getB s F.SLC_CAPTURE_VALID i then s else setF (capture s F.SLC_CAPTURE_CODE F.SLC_CAPTURE_VALID i c) F.SLC_CAPTURE_LINE_LINE i line

/-- A code of class 0x05 captured and recorded by a slice. -/
def sliceEvent (s : State) (i : Nat) (c : FaultCode) (line : Nat) (origin : Nat := 0) : State :=
  record (captureSlice s i c line) c i origin

/-- The channel-local line of an address. -/
def lineOf (s : State) (a : Nat) : Nat :=
  match homeOf s a with
  | some (_, p, _) => 16 * p + a % 4096 / 256
  | none => 0

/-- The channel-local line that a plate address of a cache way holds; 0 where it holds none. -/
def plateLine (s : State) (a : Nat) : Nat :=
  if plateBase ≤ a then
    let k := (a - plateBase) / 256
    match (getSet s (k / 32768 / 16) (k % 32768)).find? (fun x => x.way == k / 32768 % 16) with
    | some x => x.line
    | none => 0
  else 0

/-- A protection code is also a code of its store's class: the slice captures it in SLC_CAPTURE, the channel in MCH_CAPTURE (R240,
R265). -/
def storeCapture (s : State) (a : Nat) (c : FaultCode) : State :=
  match mediumOf a with
  | .focal => s
  | .plate => captureSlice s (unitOf s a) c (plateLine s a)
  | .lpddr => capture s F.MCH_CAPTURE_CODE F.MCH_CAPTURE_VALID (unitOf s a) c

/-- A protection event of an address, captured by its store. -/
def storeEvent (s : State) (a : Nat) (k : ProtKind) : State := protEvent (storeCapture s a (protCode (mediumOf a) k)) a k

/-- A protection code of a slice about an address: captured with its page and its line, and recorded. -/
def sliceProt (s : State) (i a : Nat) (c : FaultCode) : State :=
  let s := if getB s F.PROT_CAPTURE_S_VALID i then s
    else setF (capture s F.PROT_CAPTURE_S_CODE F.PROT_CAPTURE_S_VALID i c) F.PROT_CAPTURE_PAGE_S_PAGE i (storePage s a)
  sliceEvent s i c (lineOf s a)

/-- A read of a committed page that returns a poisoned word (R304, R305): COMMITTED_POISON, POISON_FREE and STATE_INTACT
cleared. -/
def committedPoison (s : State) (a : Nat) : State :=
  clearIntact (clearVerdict (sliceProt s (routeSlice s a) a C.COMMITTED_POISON_S) vPoisonFree)

/-- The address lies in a region that the store partition marks watched (R225). -/
def watchedAddr (s : State) (a : Nat) : Bool :=
  match homeOf s a with
  | some (_, _, r) => r.watched
  | none => false

/-- A poisoned word written into a watched region by an accepted write (R225, R304). -/
def notePoisonWrite (s : State) (i a : Nat) (ps : List Bool) : State :=
  if ps.any id && watchedAddr s a then clearVerdict (sliceProt s i a C.POISON_WATCHED_S) vPoisonFree else s

/-- An access to an unmapped place (R202). -/
def unmapped (s : State) (i a : Nat) : State := sliceEvent s i C.ADDRESS_UNMAPPED (lineOf s a)

/-! ## Recovery (R292, R293) -/

/-- Words of the page of an address that are UNCORRECTABLE, by index. -/
def badWords (s : State) (page : Nat) : List Nat :=
  (List.range 128).filter (fun w => (readWord s (page + 32 * w)).1 == .uncorrectable)

/-- Byte lane sums of the page's words other than `skip`: xor of α^w times byte j (R288). -/
def laneSums (s : State) (page skip : Nat) : List Byte :=
  (List.range 128).foldl (fun acc w =>
    if w = skip then acc
    else
      let d := (decodeWord s (page + 32 * w)).2.1
      let al := alphaPow w
      (acc.zip d).map (fun e => e.1 ^^^ gfMul al e.2)) (List.replicate 32 0)

/-- The inverse of α^w: α^(255 − w). -/
def alphaInv (w : Nat) : Byte := alphaPow (255 - w % 255)

/-- The data of word `w` that the page code gives, for page-code symbols `ps`. -/
def recoverData (sums : List Byte) (ps : List Nat) (w : Nat) : List Byte :=
  (sums.zip ps).map (fun e => gfMul (alphaInv w) (e.1 ^^^ BitVec.ofNat 8 e.2))

/-- The page bits of the word at an address as the decoder delivers them: a corrected symbol 34 has its bits corrected (R286). -/
def decodedPageBits (s : State) (a : Nat) : Nat :=
  let r := rawWord s a
  let top := topSymbol s a r.poison
  match (decodeWord s a).1 with
  | .corrected 34 => bits (top ^^^ (syndromes 1 ([r.c0, r.c1] ++ r.data ++ [top])).1).toNat 1 2
  | _ => pageBits s a

/-- The page-code symbols of a page: on LPDDR6 from its words as decoded (R289, R292). -/
def pageSyms (s : State) (page : Nat) : List Nat :=
  if mediumOf page = .lpddr ∧ isLp5x s = false then
    (List.range 32).map (fun j => (List.range 4).foldl (fun n k => n + 4 ^ k * decodedPageBits s (page + 32 * (4 * j + k))) 0)
  else (List.range 32).map (pageSym s page)

/-- A recovered word: its data, whether it is written poisoned, and the two page bits found in it on LPDDR6. -/
structure Recovered where
  data : List Byte
  poison : Bool
  pageBits : Nat
  deriving DecidableEq, Repr

/-- The candidate of R293 with page bits `v` in an LPDDR6 word: accepted when its check symbols match in both symbols, or match
inverted in both, which marks it poisoned as a stored poison bit does. -/
def candidate (s : State) (page w : Nat) (sums : List Byte) (ps : List Nat) (v : Nat) : Option Recovered :=
  let j := w / 4
  let p := ps.getD j 0
  let sh := 2 * (w % 4)
  let p' := p - bits p sh 2 * 2 ^ sh + v * 2 ^ sh
  let d := recoverData sums (ps.set j p') w
  let r := rawWord s (page + 32 * w)
  let plain := checkSymbols d (BitVec.ofNat 8 (2 * v))
  let marked := checkSymbols d (BitVec.ofNat 8 (1 + 2 * v))
  if plain = (r.c0, r.c1) then some ⟨d, r.poison, v⟩
  else if (marked.1 ^^^ 0xFF, marked.2 ^^^ 0xFF) = (r.c0, r.c1) then some ⟨d, true, v⟩
  else none

/-- The recovery of word `w` of a page from the page code (R292, R293). -/
def recoverWord (s : State) (page w : Nat) : Option Recovered :=
  if pageCodeOn s page then
    let sums := laneSums s page w
    let ps := pageSyms s page
    if mediumOf page = .lpddr ∧ isLp5x s = false then
      match (List.range 4).filterMap (candidate s page w sums ps) with
      | [c] => some c
      | _ => none
    else
      let d := recoverData sums ps w
      let r := rawWord s (page + 32 * w)
      let lp5 := mediumOf page == .lpddr
      let c := checkSymbols d (if lp5 then 0 else BitVec.ofNat 8 r.poison.toNat)
      some ⟨d, (r.poison && !lp5) || c.1 ^^^ 0xFF == r.c0 || c.2 ^^^ 0xFF == r.c1, 0⟩
  else none

/-- The page bits that a recovered LPDDR6 word carries are those of the candidate accepted. -/
def putPageBits (s : State) (page w v : Nat) : State :=
  if mediumOf page = .lpddr ∧ isLp5x s = false then
    let key := page / 4096 * 32 + w / 4
    let p := mget s.store.pcode key 0
    let sh := 2 * (w % 4)
    { s with store := { s.store with pcode := mput natLt s.store.pcode key (p - bits p sh 2 * 2 ^ sh + v * 2 ^ sh) 0 } }
  else s

/-- A word left poisoned: written back with the data it stores (R292). -/
def leavePoisoned (s : State) (a : Nat) : State := storeEvent (putWord s a (rawWord s a).data true) a .unrecovered

/-- A focal column or a slice that needs 8 recoveries within 1 s records REPEAT; its shutter is due (R310). -/
def noteRepeat (s : State) (a : Nat) : State :=
  let m := mediumOf a
  if m = .lpddr then s
  else
    let u := unitOf s a
    let key := ((if m = .focal then 0 else 1), u)
    let now := elapsedNs s
    let l := (now :: mget s.store.repeats key []).filter (fun x => decide (now < x + 1000000000))
    let put (l : List Nat) : State := { s with store := { s.store with repeats := mput pairLt s.store.repeats key l [] } }
    if l.length < 8 then put l
    else
      let c := if m = .focal then C.REPEAT_T else C.REPEAT_S
      let s := record (protCapture (storeCapture (put []) a c) a c) c u
      { s with store := { s.store with repeatDue := s.store.repeatDue ++ [key] } }

/-- Recovery of every word of a page that failed: one word is computed from the page code; a second failed word, a region
without page code, or no single candidate leaves them poisoned (R292). -/
def recoverPage (s : State) (page : Nat) : State :=
  let bad := badWords s page
  let s := match bad with
    | [w] =>
      let a := page + 32 * w
      match recoverWord s page w with
      | some r => noteRepeat (storeEvent (putWord (putPageBits s page w r.pageBits) a r.data r.poison) a .recovered) a
      | none => noteRepeat (leavePoisoned s a) a
    | ws => ws.foldl (fun s w => noteRepeat (leavePoisoned s (page + 32 * w)) (page + 32 * w)) s
  { s with store := { s.store with recov := s.store.recov.filter (fun r => r.page != page) } }

/-- The recovery of a word that is UNCORRECTABLE ends before the access that needs it goes on (R291, R299). -/
def recoverFirst (s : State) (a : Nat) : State :=
  if (readWord s a).1 = .uncorrectable then recoverPage s (a / 4096 * 4096) else s

/-- The events of a read of the word at an address (R290, R291). -/
def noteRead (s : State) (a : Nat) : State :=
  match (readWord s a).1 with
  | .corrected _ => storeEvent s a .corrected
  | .uncorrectable => startRecovery s a
  | _ => s

/-- The words that a range of bytes touches. -/
def wordsOf (a n : Nat) : List Nat := (List.range ((a + n + 31) / 32 - a / 32)).map (fun k => (a / 32 + k) * 32)

/-- Recovery of the words of a range ends. -/
def recoverRange (s : State) (a n : Nat) : State := (wordsOf a n).foldl recoverFirst s

/-- Whether a range of bytes covers a word in part. -/
def narrowRange (a n : Nat) : Bool := a % 32 != 0 || n % 32 != 0

/-- Bytes written to the focal store by a lane, a drain or a landing: the old word of a narrow write is recovered first (R299). -/
def focalWrite (s : State) (a : Nat) (d : List Byte) (ps : List Bool) : State :=
  writeBytes (if narrowRange a d.length then recoverRange s a d.length else s) a d ps

/-- The words of a range read by an access: a corrected one is recorded (R290). -/
def noteRange (s : State) (a n : Nat) : State := (wordsOf a n).foldl noteRead s

end Sys2Proof.Machine
end

