-- ==== Sys2Proof/Machine/CoaddOps.lean ====
section
/-!
DEFINITION. The operators of co-add (07, R215, R224, R225) and their application to stored words.
-/
namespace Sys2Proof.Machine

/-! ## Operators (R215, R224) -/

/-- What the elements of a co-add give: bytes, and the counts of non-finite results and saturations. -/
structure CoaddOut where
  bytes : List Byte
  nonfinite : Nat
  sat : Bool
  deriving DecidableEq, Repr

/-- The width in bytes of an operator's element. -/
def coaddWidth (op : Nat) : Nat := if op = 2 ∨ op = 3 ∨ op = 6 then 2 else 4

/-- A signed 32-bit number. -/
def i32 (n : Nat) : Int := (BitVec.ofNat 32 n).toInt

/-- One element: the code of the result, whether it is non-finite and whether it saturated. -/
def coaddElem (op : Nat) (r : Nat) (x y : Nat) : Nat × Bool × Bool :=
  let bad (v : FVal) : Bool := isNan v || isInf v
  let f32 (mode : RMode) : Nat × Bool × Bool :=
    let w := toFp32 mode (addV (decodeElem 0 x) (decodeElem 0 y))
    (w.toNat, nonFinite w, false)
  let b16 (mode : RMode) : Nat × Bool × Bool :=
    let w := toBf16 mode (addV (decodeElem 1 x) (decodeElem 1 y))
    (w, bad (decodeElem 1 w), false)
  match op with
  | 0 => f32 .rne
  | 1 => f32 (.stoch r)
  | 2 => b16 .rne
  | 3 => b16 (.stoch r)
  | 4 =>
    let t := i32 x + i32 y
    ((BitVec.ofInt 32 (satI32 t)).toNat, false, decide (satI32 t ≠ t))
  | 5 => let w := toFp32 .rne (maxV (decodeElem 0 x) (decodeElem 0 y)); (w.toNat, nonFinite w, false)
  | 6 => let w := toBf16 .rne (maxV (decodeElem 1 x) (decodeElem 1 y)); (w, bad (decodeElem 1 w), false)
  | _ => ((BitVec.ofInt 32 (max (i32 x) (i32 y))).toNat, false, false)

/-- Where a co-add draws its random words: from the TAG of a transfer, or, for a collective, from its number and the block's sequence
number (assumption 52). -/
inductive DrawKey where
  | tag (t : Nat)
  | coll (id seq : Nat)
  deriving DecidableEq, Repr

/-- The random word of an element at an address (R99 in stream 2, R224). -/
def coaddDraw (s : State) (op : Nat) (key : DrawKey) (a : Nat) : Nat :=
  if op = 1 ∨ op = 3 then
    match key with
    | .coll id q => (Config.collDraw [s.act.seed, getF s F.SEG_STEP_STEP 0, id, q, a]).toNat
    | .tag tag => drawWord s.act.seed (a / coaddWidth op % 4294967296) (bits tag 0 16) (bits tag 26 6) 2 (getF s F.SEG_STEP_STEP 0)
  else 0

/-- Elements of incoming bytes combined with the bytes at an address. -/
def coaddBytes (s : State) (op : Nat) (tag : DrawKey) (a : Nat) (inc old : List Byte) : CoaddOut :=
  let w := coaddWidth op
  (List.range (inc.length / w)).foldl (fun acc k =>
    let e := coaddElem op (coaddDraw s op tag (a + k * w)) (leNat ((inc.drop (k * w)).take w)) (leNat ((old.drop (k * w)).take w))
    { bytes := acc.bytes ++ leBytes e.1 w, nonfinite := acc.nonfinite + e.2.1.toNat, sat := acc.sat || e.2.2 }) ⟨[], 0, false⟩

/-- The monitors of a slice after a co-add wrote results at an address (R225). -/
def coaddFlags (s : State) (i a : Nat) (o : CoaddOut) : State :=
  let s := if 0 < o.nonfinite then setB s F.SLC_FIN_NONFINITE_ANY i true else s
  let s := if 0 < o.nonfinite ∧ watchedAddr s a then setB s F.SLC_FIN_NONFINITE_COADD i true else s
  let s := if o.sat then setB s F.SLC_FIN_SAT_ANY i true else s
  incF s F.SLC_FIN_COUNT_COUNT i o.nonfinite

/-! ## Applying co-add data (R223 to R225) -/

/-- Pieces of a range at 32-byte words: address, length, offset. -/
def wordPieces (a n off : Nat) : Nat → List (Nat × Nat × Nat)
  | 0 => []
  | f + 1 =>
    if n = 0 then []
    else
      let k := min (32 - a % 32) n
      (a, k, off) :: wordPieces (a + k) (n - k) (off + k) f

/-- Data combined into the store word by word through `wr`, which writes bytes with a mark, and `rd`, which reads them. A
result word is poisoned when the incoming word or the old word is (R224). -/
def coaddInto (s : State) (i op : Nat) (tag : DrawKey) (a : Nat) (d : List Byte) (ps : List Bool) (rd : State → Nat → Nat → List Byte × List Bool)
    (wr : State → Nat → List Byte → List Bool → State) : State :=
  (wordPieces a d.length 0 (d.length / 32 + 2)).foldl (fun s p =>
    let old := rd s p.1 p.2.1
    let o := coaddBytes s op tag p.1 ((d.drop p.2.2).take p.2.1) old.1
    let bad := ps.getD ((a % 32 + p.2.2) / 32) false || old.2.any id
    let s := coaddFlags (wr s p.1 o.bytes [bad]) i p.1 o
    notePoisonWrite s i p.1 [bad]) s

end Sys2Proof.Machine
end

