-- ==== Sys2Proof/Machine/EphOps.lean ====
section
/-!
DEFINITION. Operations of the ephemeris (05): bundles and descriptors (R112, R115), issue (R111), retirement (R118),
sync-group stalls (R130), extents (R120), landings, and overruns (R123).
-/
namespace Sys2Proof.Machine

/-! ## Segment time and stalls -/

/-- The segment cycle counter (R110). -/
def segCycle (s : State) : Nat := getF s F.SEG_CYCLE_CYCLE 0

/-- A pause slot or a debug halt holds the device (R127, R152). -/
def paused (s : State) : Bool := s.eph.inSlot || s.eph.debugHalt

/-- A sync-group stall holds the tiles: a cause is in force, or the last one cleared in this cycle (R130). -/
def stalled (s : State) : Bool := !s.eph.causes.isEmpty || s.eph.stallLeaving

/-- The datapath cycle of a tile: dome cycles less those in which it was held (R71, R130; assumption 20). -/
def dpTime (s : State) (t : Nat) : Nat := s.clk.cyc - s.clk.held - s.clk.stalled + (getArr s t).exempt

/-- A cause joins the sync-group stall; the first one starts it (R130, R141). -/
def addCause (s : State) (t cause key : Nat) : State :=
  let c : StallCause := ⟨t, cause, key⟩
  if s.eph.causes.contains c then s
  else
    { s with eph := { s.eph with
        causes := s.eph.causes ++ [c]
        stallStart := if s.eph.causes.isEmpty then some (elapsedNs s) else s.eph.stallStart } }

/-- Causes that a test names clear; with the last one the stall ends after the cycle in progress (R130). -/
def dropCauses (s : State) (t : Nat) (p : StallCause → Bool) : State :=
  let cs := s.eph.causes.filter (fun c => !(c.tile == t && p c))
  { s with eph := { s.eph with
      causes := cs
      stallStart := if cs.isEmpty then none else s.eph.stallStart
      stallLeaving := s.eph.stallLeaving || (cs.isEmpty && !s.eph.causes.isEmpty) } }

/-- One cause clears. -/
def clearCause (s : State) (t cause key : Nat) : State :=
  dropCauses s t (fun c => c.cause == cause && c.key == key)

/-- Lateness that a tile caused raises EPH_LATE_MAX (R123, R126). -/
def noteLate (s : State) (t start : Nat) : State :=
  let l := getF s F.STALL_CYCLES_COUNT 0 - start
  if getF s F.EPH_LATE_MAX_CYCLES t < l then setF s F.EPH_LATE_MAX_CYCLES t l else s

/-- The overrun capture and count, with SLACK_OK cleared (R123, R126). -/
def noteOverrun (s : State) (t : Nat) (join : Bool) (x : Nat) : State :=
  let s := incF s F.OVERRUN_COUNT_COUNT 0 1
  let s := if getB s F.OVERRUN_CAPTURE_VALID 0 then s
    else
      let s := setF s F.OVERRUN_CAPTURE_TILE 0 t
      let s := setB s F.OVERRUN_CAPTURE_JOIN 0 join
      let s := setF s F.OVERRUN_CAPTURE_XDESC 0 x
      setB s F.OVERRUN_CAPTURE_VALID 0 true
  clearVerdict s vSlackOk

/-! ## Bundles (R112) and transfer descriptors (R115) -/

def bWait (w : Nat) : Nat := bits w 0 16
def bCtl (w : Nat) : Nat := bits w 20 4
def bAdesc (w : Nat) : Nat := bits w 32 16
def bMop (w : Nat) : Nat := bits w 64 4
def bMxd (w : Nat) : Nat := bits w 68 16
def bNop (w : Nat) : Nat := bits w 128 4
def bNxd (w : Nat) : Nat := bits w 132 16
def bLop (w : Nat) : Nat := bits w 160 4
def bToken (w : Nat) : Nat := bits w 164 4
def bTask (w : Nat) : Nat := bits w 168 16
def bGroups (w : Nat) : Nat := bits w 184 5 + 1
def bBand (w : Nat) : Nat := bits w 189 3

/-- The slots of a bundle that are to be issued. -/
def slotsOf (w : Nat) : SlotsLeft :=
  ⟨bCtl w != 0, bit w 16, bit w 17, bit w 18, bit w 19⟩

/-- No slot is left. -/
def noSlots (l : SlotsLeft) : Bool := !l.ctl && !l.arr && !l.mov && !l.net && !l.lane

/-- The work that keeps a bundle unretired: its valid slots (R118). -/
def workOf (w : Nat) : Nat := (bit w 16).toNat + (bit w 17).toNat + (bit w 18).toNat + (bit w 19).toNat

/-- Fields of a transfer descriptor, given as one 256-bit number. -/
def xSize (x : Nat) : Nat := bits x 0 24
def xBand (x : Nat) : Nat := bits x 24 3
def xOpx (x : Nat) : Nat := bits x 27 4
def xLocal (x : Nat) : Nat := bits x 32 24
def xRemote (x : Nat) : Nat := bits x 64 48
def xArrival (x : Nat) : Nat := bits x 128 32
def xSlack (x : Nat) : Nat := bits x 160 24
def xTag (x : Nat) : Nat := bits x 192 32

/-- The segment cycle at which a bundle issues that follows the last one issued (R111). -/
def cycleOf (e : EphSt) (w : Nat) : Nat :=
  match e.lastIssue with
  | none => bWait w
  | some c => c + bWait w + 1

/-- The segment cycle at which the bundle at the front of a tile's queue issues. -/
def issueCycle (e : EphSt) (f : Fetched) : Nat := cycleOf e f.word

/-- The front bundle has reached its issue cycle and nothing holds the segment clock. -/
def isDue (s : State) (e : EphSt) (f : Fetched) : Bool :=
  s.eph.inSegment && !paused s && !stalled s && decide (issueCycle e f ≤ segCycle s)

/-- The front bundle has issued in full: it leaves the queue and EPH_PC names it. -/
def popBundle (s : State) (t : Nat) : State :=
  let e := getEph s t
  match e.queue with
  | [] => s
  | f :: q =>
    let s := setEph s t { e with queue := q, lastIssue := some (issueCycle e f) }
    setF s F.EPH_PC_PC t f.idx

/-- Bundles with no slot to issue pass when their cycle comes (R111). -/
def settle (s : State) (t : Nat) : Nat → State
  | 0 => s
  | n + 1 =>
    match (getEph s t).queue with
    | [] => s
    | f :: _ => if noSlots f.left && isDue s (getEph s t) f then settle (popBundle s t) t n else s

/-- Settling for as many bundles as the queue holds. -/
def settleAll (s : State) (t : Nat) : State := settle s t (getEph s t).queue.length

/-- The front bundle's slots after one has issued; a bundle whose last slot issued leaves the queue. -/
def slotDone (s : State) (t : Nat) (l : SlotsLeft) : State :=
  let e := getEph s t
  match e.queue with
  | [] => s
  | f :: q =>
    let known := e.unretired.any (fun u => u.idx == f.idx)
    let un := if known || workOf f.word == 0 then e.unretired else e.unretired ++ [⟨f.idx, workOf f.word⟩]
    let s := setEph s t { e with queue := { f with left := l } :: q, unretired := un }
    if noSlots l then popBundle s t else s

/-- The work of one slot of a bundle has ended (R118). -/
def retireSlot (s : State) (t idx : Nat) : State :=
  let e := getEph s t
  setEph s t { e with unretired :=
    (e.unretired.map (fun u => if u.idx = idx then { u with pending := u.pending - 1 } else u)).filter (fun u => u.pending != 0) }

/-- The datapath of a tile is busy: an operation, a pending re-run or an owner (R119, R172). -/
def dpBusy (s : State) (t : Nat) : Bool :=
  let a := getArr s t
  a.op.isSome || a.rerun.isSome || !a.rest.isEmpty || a.owner.isSome

/-- What a slot's row finds: the bundle whose slot issues now, or none; a bundle whose array slot finds the datapath
busy is held and raises a stall (R119). -/
def frontDue (s : State) (t : Nat) (slot : SlotsLeft → Bool) : Option Fetched :=
  match (getEph s t).queue with
  | [] => none
  | f :: _ =>
    if slot f.left && isDue s (getEph s t) f && !(f.left.arr && dpBusy s t) then some f else none

/-- The front bundle is due but its array slot finds the datapath busy (R119): the bundle's index. -/
def busyDue (s : State) (t : Nat) : Option Nat :=
  match (getEph s t).queue with
  | [] => none
  | f :: _ => if f.left.arr && isDue s (getEph s t) f && dpBusy s t then some f.idx else none

/-- Such a bundle raises the stall of R119. -/
def holdBusy (s : State) (t : Nat) : State :=
  match busyDue s t with
  | some i => addCause s t 3 i
  | none => s

/-! ## Extents and landings (R120, R304) -/

/-- Two byte ranges meet. -/
def meets (a n b m : Nat) : Bool := decide (a < b + m) && decide (b < a + n)

/-- The focal extents of an operation, scales included (R196): A, W and O as offset and length. -/
def opExtents (d : ADesc) : List (Nat × Nat) :=
  let da := if d.aT then dataBytes d.aFmt d.k d.m else dataBytes d.aFmt d.m d.k
  let dw := if d.wT then dataBytes d.wFmt d.n d.k else dataBytes d.wFmt d.k d.n
  let o := dataBytes d.oFmt d.m d.n
  [ (d.aBase, da + if d.aMx then d.m * ceilDiv d.k 32 else 0),
    (d.wBase, dw + if d.wMx then d.n * ceilDiv d.k 32 else 0),
    (d.oBase, o + (if d.oMx then d.m * ceilDiv d.n 32 else 0)) ]

/-- The operations in progress on a tile's datapath: the one that runs, those of a re-run that pends, and those of a re-run chain still
to come (R76, R141). -/
def opsOn (a : ArrSt) : List ADesc :=
  (match a.op with | some o => [o.desc] | none => []) ++ (match a.rerun with | some r => r.ops | none => []) ++ a.rest

/-- Bytes of a window fall in an extent of an operation in progress. -/
def opHeld (s : State) (t off n : Nat) : Bool :=
  (opsOn (getArr s t)).any (fun d => (opExtents d).any (fun e => meets e.1 e.2 off n))

/-- A write of `n` bytes at a window offset is held: it would fall in an extent of an operation in progress, or of a
SEND that has not retired (R120). DEDUCED (assumption 106): an operation whose re-run pends is still in progress. -/
def extentHeld (s : State) (t off n : Nat) : Bool :=
  opHeld s t off n || s.eph.xfers.any (fun x => x.tile == t && x.kind == .send && meets x.loc x.size off n)

/-- Data written in a tile's window by a landing of the mover; a poisoned word in the watched range is consumed
(R304). -/
def landBytes (s : State) (t off : Nat) (d : List Byte) (ps : List Bool) : State :=
  let s := writeBytes s (focalAddr t off) d ps
  if ps.any id && watchMeets s t off d.length then
    consumePoison s (focalAddr t off) C.POISON_WATCHED_T t
  else s

/-! ## Transfers -/

/-- The transfer of a number. -/
def findX (s : State) (id : Nat) : Option Xfer := s.eph.xfers.find? (fun x => x.id == id)

/-- A transfer replaced by its new form. -/
def putX (s : State) (x : Xfer) : State :=
  { s with eph := { s.eph with xfers := s.eph.xfers.map (fun y => if y.id = x.id then x else y) } }

/-- A transfer has completed: its slot retires, its lateness is noted and its causes clear (R118, R123). -/
def endXfer (s : State) (x : Xfer) : State :=
  let s := match x.late with
    | some st => noteLate s x.tile st
    | none => s
  let s := dropCauses s x.tile (fun c => (c.cause == 1 || c.cause == 4 || c.cause == 6) && c.key == x.id)
  let s := { s with eph := { s.eph with xfers := s.eph.xfers.filter (fun y => y.id != x.id) } }
  retireSlot s x.tile x.bundle

/-- A transfer starts from a slot of a bundle. -/
def startXfer (s : State) (t : Nat) (kind : XKind) (didx bundle desc issue left : Nat) : State × Xfer :=
  let x : Xfer :=
    { id := s.eph.nextId, tile := t, kind := kind, didx := didx, bundle := bundle, size := xSize desc, band := xBand desc,
      opx := xOpx desc, loc := xLocal desc, remote := xRemote desc, arrival := xArrival desc, slack := xSlack desc,
      tag := xTag desc, issue := issue, left := left, got := [], late := none, retry := false }
  ({ s with eph := { s.eph with xfers := s.eph.xfers ++ [x], nextId := s.eph.nextId + 1 } }, x)

/-- The cycle at which a slot of the front bundle issues. -/
def slotCycle (s : State) (t : Nat) (f : Fetched) : Nat := issueCycle (getEph s t) f

/-- The transactions of a transfer over its remote range (R269); the lines of one source block of a TURN form a locked sequence
(Table: Locked sequences formed by the device). -/
def xferTxns (s : State) (x : Xfer) (kind : TxnKind) (data : List Byte) (ps : List Bool) : List Txn :=
  (linePieces x.remote x.size 0 (x.size / 256 + 2)).map (fun p =>
    { id := s.deep.nextTxn, cls := 0, inst := x.tile, band := x.band, kind := kind, addr := p.1, len := p.2.1,
      data := (data.drop p.2.2).take p.2.1, poison := (ps.drop (p.2.2 / 32)).take (ceilDiv p.2.1 32),
      owner := .xfer x.id, offset := p.2.2, born := 0, hinted := false, locked := kind == .turnRead
      last := (p.2.2 + p.2.1) % (1024 * 2 ^ x.opx) == 0 })

/-- The channel of an LPDDR page, or the slice of a scratch page: a fragment's streams are kept by it. -/
def fragHome (s : State) (a : Nat) : Nat :=
  match homeOf s a with
  | some h => h.1
  | none => routeSlice s a

/-- The transaction of a fragment: its transfer's tile and band are its master's (R268). -/
def fragTxn (s : State) (f : Frag) : Txn :=
  let x := (findX s f.xfer).map (fun y => (y.tile, y.band))
  { id := f.id, cls := 0, inst := (x.map (·.1)).getD 0, band := (x.map (·.2)).getD 0, kind := .coadd, addr := f.addr, len := f.data.length
    data := [], poison := [], owner := .xfer f.xfer, offset := 0, born := 0, hinted := false, locked := false, last := false }

/-- Transactions numbered one after another and submitted. -/
def submitNew (s : State) (xs : List Txn) : State :=
  xs.foldl (fun s x =>
    let r := newTxn s
    submit r.1 { x with id := r.2 }) s

/-- The data that has returned for a transfer, in order. -/
def gotBytes (x : Xfer) : List Byte × List Bool :=
  ((x.got.map (fun e => e.2.1)).flatten, (x.got.map (fun e => e.2.2)).flatten)

/-- Results of finished transactions taken into their transfers: `done` entries of transfer owners. -/
def collect (s : State) (id : Nat) : State :=
  let mine := s.deep.done.filter (fun e => e.1.owner == .xfer id)
  let rest := s.deep.done.filter (fun e => e.1.owner != .xfer id)
  match findX s id with
  | none => s
  | some x =>
    let got := mine.foldl (fun g e => mput natLt g e.1.offset (e.2.1, e.2.2) ([], [])) x.got
    putX { s with deep := { s.deep with done := rest } } { x with got := got, left := x.left - mine.length }

/-- The transposed place of a byte of a TURN (R226): source offset `o` in the transfer, element width `b`. -/
def turnPlace (b o : Nat) : Nat :=
  let q := o / (1024 * b)
  let i := o % (1024 * b)
  let row := i / (32 * b)
  let col := i % (32 * b) / b
  32768 * (q / (32 / b)) + 1024 * col + 32 * b * (q % (32 / b)) + row * b + i % b

/-- The tile and window offset at which a transfer lands. -/
def landPlace (x : Xfer) : Nat × Nat :=
  if x.kind = .mesh then ((x.remote - focalBase) / 0x1000000, (x.remote - focalBase) % 0x1000000) else (x.tile, x.loc)

/-- The span of the window that a transfer's landing covers. -/
def landSpan (x : Xfer) : Nat :=
  if x.kind = .turn then (turnPlace (2 ^ x.opx) (x.size - 1) / 32768 + 1) * 32768 else x.size

/-- The index of a block in its transfer, modulo the wrap of SEQ. -/
def seqIndex (tag seq : Nat) : Nat := (seq + 4294967296 - tag % 4294967296) % 4294967296

/-! ## The datapath under a stall (R71, R130) -/

/-- A cause of the stall waits for the operation of its tile: an array slot that found the datapath busy (R119), or a landing held
by an extent of the operation (R120). -/
def causeWaitsOp (s : State) (c : StallCause) : Bool :=
  c.cause == 3 || (c.cause == 4 && match findX s c.key with
    | some x =>
      if x.kind = .expect then
        s.net.held.any (fun h => h.xfer == some x.id && opHeld s c.tile (x.loc + 4096 * seqIndex x.tag h.blk.seq) h.blk.payload.length)
      else opHeld s c.tile (landPlace x).2 (landSpan x)
    | none => false)

/-- The stall in force waits for the operation of a tile. -/
def stallWaitsFor (s : State) (t : Nat) : Bool := s.eph.causes.any (fun c => c.tile == t && causeWaitsOp s c)

/-- The datapath of a tile runs: no pause or halt, and no stall but one that waits for it (R71, R130). -/
def dpRuns (s : State) (t : Nat) : Bool :=
  s.clk.running && !paused s && (!stalled s || stallWaitsFor s t)

/-- The finder of a tile streams in this cycle, so that the mover and the lane unit make no focal reads (R66). -/
def finderStreams (s : State) (t : Nat) : Bool :=
  match (getArr s t).op with
  | some o => o.desc.finder && (finderSpans o.desc 0 o.passEnd [] (pieces o.desc)).any (fun e =>
      decide (e.1 ≤ dpTime s t) && decide (dpTime s t < e.1 + e.2))
  | none => false

/-! ## An operation dropped (R80, R81) -/

/-- A 64-bit count of a tile raised. -/
def addCount (s : State) (f : Field) (u n : Nat) : State := setF s f u (getF s f u + n)

/-- The first cycle of the pass under way. -/
def passStart (o : ArrOp) : Nat := o.passEnd - passCycles o.desc o.acc

/-- Cycles of the pass under way in which a row group has entered the arrays so far (ARR_STREAM). -/
def streamSoFar (s : State) (t : Nat) : Nat :=
  match (getArr s t).op with
  | some o => if o.desc.finder || decide (pieces o.desc ≤ o.acc) then 0
      else min (ceilDiv (accRows o.desc o.acc) 4) (dpTime s t - passStart o)
  | none => 0

/-- Cycles that the first pass of the accumulation under way has waited for a drain so far (ARR_WAIT). -/
def waitSoFar (s : State) (t : Nat) : Nat :=
  match (getArr s t).op with
  | some o => if o.desc.finder || o.chunk != 0 || decide (pieces o.desc ≤ o.acc) then 0
      else min o.waited (dpTime s t - (passStart o - o.waited))
  | none => 0

/-- Cycles in which the finder has streamed weights so far for row groups that have not drained (FND_STREAM). -/
def finderSoFar (s : State) (t : Nat) : Nat :=
  match (getArr s t).op with
  | some o => if o.desc.finder then
      ((finderSpans o.desc 0 o.passEnd [] (pieces o.desc)).drop o.drained).foldl (fun n e => n + min e.2 (dpTime s t - e.1)) 0
    else 0
  | none => 0

/-- The cycles that an operation has counted so far are posted: it goes no further. -/
def postSoFar (s : State) (t : Nat) : State :=
  addCount (addCount (addCount s F.ARR_STREAM_COUNT t (streamSoFar s t)) F.ARR_WAIT_COUNT t (waitSoFar s t)) F.FND_STREAM_COUNT t (finderSoFar s t)

/-- The work of a tile's datapath is abandoned, with its chain (R80, Table: Concurrent causes). -/
def dropArray (s : State) (t : Nat) : State :=
  let s := postSoFar s t
  let s := [F.ARR_STATUS_BUSY, F.ARR_STATUS_FINDER, F.ARR_STATUS_RERUN, F.ARR_STATUS_CHAIN].foldl (fun s f => setB s f t false) s
  setArr s t { getArr s t with op := none, rerun := none, rest := [], chain := [] }

/-- A pending slew of the column of a physical tile is noted, or DEGRADED_NO_SPARE recorded (R391, R393). -/
def colOf (phys : Nat) : Nat := phys / 144 * 16 + phys % 16

/-- The physical tile that hosts a logical tile (R187, R391). -/
def physOf (s : State) (t : Nat) : Nat :=
  let d := t / 128
  let c := t % 16
  144 * d + 16 * ((mget s.tower.cols (d * 16 + c) {}).rows.getD (t % 128 / 16) 0) + c

/-- The logical tile that a physical tile hosts, if any. -/
def logicalOf (s : State) (p : Nat) : Option Nat :=
  let d := p / 144
  let r := p % 144 / 16
  let c := p % 16
  match (mget s.tower.cols (d * 16 + c) {}).rows.findIdx? (· == r) with
  | some i => some (128 * d + 16 * i + c)
  | none => none

/-- The unit of an event of a physical tile: its logical tile's, or its own index where it hosts none (R509). -/
def tileUnit (s : State) (p : Nat) : Nat := match logicalOf s p with
  | some t => t
  | none => p

end Sys2Proof.Machine
end

