-- ==== Sys2Proof/Machine/Cache.lean ====
section
/-!
DEFINITION. The cache ways of the home slices (07): one coherent view of an address (R235), replacement and write-back (R203 to
R205, R302), the thrash window (R211), the streak detector (R212 to R214), overflow co-adds in order (R223), the requests that
a slice sends to a channel (R268, R276), and the accesses of the engines of the device (R202, R203).
-/
namespace Sys2Proof.Machine

/-- Where the line of an LPDDR address is cached: slice, channel, channel-local line and set (R200, R236). -/
structure LinePlace where
  slice : Nat
  chan : Nat
  line : Nat
  set : Nat
  region : Region
  deriving DecidableEq, Repr

/-- The place of the line of an LPDDR address. -/
def linePlace (s : State) (a : Nat) : Option LinePlace :=
  match sliceOf s a with
  | some (i, c, p, r) => let l := 16 * p + a % 4096 / 256; some ⟨i, c, l, l % 32768, r⟩
  | none => none

/-- The cached line of a place. -/
def cachedLine (s : State) (q : LinePlace) : Option CLine :=
  (getSet s q.slice q.set).find? (fun x => x.chan == q.chan && x.line == q.line)

/-- The plate address of byte 0 of a cached line. -/
def lineData (q : LinePlace) (x : CLine) : Nat := plateAddr q.slice x.way q.set

/-- A word of a line that was not filled: the dirty bytes lie over the word of the channel (R205). -/
def mergeWord (d : List Byte) (ch : List Byte) (mask : List Bool) : List Byte :=
  (List.range 32).map (fun i => if mask.getD i false then d.getD i 0 else ch.getD i 0)

/-- The word at an address as it stands in its line or in its store (R235): its data and its mark. -/
def cohWord (s : State) (a : Nat) : List Byte × Bool :=
  let w := a / 32 * 32
  if mediumOf a ≠ .lpddr then (readWord s w).2
  else
    match linePlace s w with
    | none => (List.replicate 32 0, true)
    | some q =>
      match cachedLine s q with
      | none => (readWord s w).2
      | some x =>
        let pw := (readWord s (lineData q x + w % 256)).2
        let mask := (x.dirty.drop (w % 256)).take 32
        if x.filled || (mask.length == 32 && mask.all id) then pw
        else if mask.any id then
          let cw := (readWord s w).2
          (mergeWord pw.1 cw.1 mask, pw.2 || cw.2)
        else (readWord s w).2

/-- Words from an address. -/
def cohWords (s : State) (a : Nat) : Nat → List Byte × List Bool
  | 0 => ([], [])
  | n + 1 =>
    let r := cohWord s a
    let t := cohWords s (a + 32) n
    (r.1 ++ t.1, r.2 :: t.2)

/-- `n` bytes from an address as they stand in the lines and stores, with the marks of the words touched. -/
def cohRead (s : State) (a n : Nat) : List Byte × List Bool :=
  let w0 := a / 32
  let r := cohWords s (w0 * 32) ((a + n + 31) / 32 - w0)
  ((r.1.drop (a % 32)).take n, r.2)

/-- Mask bits set from a byte of a line. -/
def setMask (m : List Bool) (k n : Nat) : List Bool :=
  (List.range 256).map (fun i => m.getD i false || (decide (k ≤ i) && decide (i < k + n)))

/-- A line of a set replaced by its new form. -/
def putLine (s : State) (q : LinePlace) (x : CLine) : State :=
  setSet s q.slice q.set ((getSet s q.slice q.set).map (fun y => if y.way = x.way then x else y))

/-- Bytes inside one word written where they stand: into the cached line, or else to the store. -/
def cohWriteIn (s : State) (a : Nat) (d : List Byte) (poison : Bool) : State :=
  if mediumOf a ≠ .lpddr then writeIn s a d poison
  else
    match linePlace s a with
    | none => s
    | some q =>
      match cachedLine s q with
      | none => writeIn s a d poison
      | some x =>
        let w := cohWord s a
        let s := if x.filled || d.length = 32 then writeIn s (lineData q x + a % 256) d poison
          else writeWord s (lineData q x + a / 32 * 32 % 256) (mergeBytes w.1 (a % 32) d) (poison || w.2)
        putLine s q { x with dirty := setMask x.dirty (a % 256) d.length }

/-- Bytes written over the words they touch; the count bounds the words. -/
def cohSpan (s : State) (a : Nat) (d : List Byte) (ps : List Bool) : Nat → State
  | 0 => s
  | n + 1 =>
    if d.isEmpty then s
    else
      let k := min (32 - a % 32) d.length
      cohSpan (cohWriteIn s a (d.take k) (ps.headD false)) (a + k) (d.drop k) ps.tail n

/-- Bytes written where they stand, with the marks of the touched words. -/
def cohWrite (s : State) (a : Nat) (d : List Byte) (ps : List Bool) : State := cohSpan s a d ps (d.length / 32 + 2)

/-! ## Committed pages and the write gate (R359, R362) -/

/-- A page lies in a list of page ranges. -/
def inPages (rs : List (Nat × Nat)) (p : Nat) : Bool := rs.any (fun r => decide (r.1 ≤ p) && decide (p < r.1 + r.2))

/-- The page of an address is a committed-state page. -/
def isCommitted (s : State) (a : Nat) : Bool := mediumOf a == .lpddr && inPages s.act.committed (a / 4096)

/-- The committed pages in order. -/
def committedPages (s : State) : List Nat := s.act.committed.flatMap (fun r => (List.range r.2).map (fun i => r.1 + i))

/-- The base addresses of cached lines that a test picks leave their sets. -/
def dropCached (s : State) (p : CLine → Bool) : State :=
  { s with deep := { s.deep with sets := (s.deep.sets.map (fun e => (e.1, e.2.filter (fun x => !p x)))).filter (fun e => !e.2.isEmpty) } }

/-! ## Lines (R203 to R205) -/

/-- Cache ways of a slice (R206). -/
def cacheWays (s : State) (i : Nat) : Nat := 16 - 2 * getF s F.SLC_CFG_CARVE i

/-- A line is held: a fragment in the co-add window targets it (R222). -/
def lineHeld (s : State) (i : Nat) (x : CLine) : Bool :=
  (getSlice s i).window.any (fun f => decide (f.addr < x.base + 256) && decide (x.base < f.addr + f.data.length))

/-- Words moved count in MCH_RD or MCH_WR of the channel of an address (assumption 43). -/
def countWords (s : State) (f : Field) (a n : Nat) : State :=
  match chanOf s a with
  | some k => setF s f k (getF s f k + n)
  | none => s

/-! ## Requests of a slice to a channel (R268, R271, R276) -/

/-- A request of a slice to the channel of an LPDDR address on behalf of another request, whose master and band it carries (R268). -/
def chanSend (s : State) (x : Txn) (kind : TxnKind) (owner : TxnOwner) (a n : Nat) (locked last : Bool) : State :=
  match chanOf s a with
  | none => s
  | some c =>
    let r := newTxn s
    place r.1 { x with
      id := r.2, kind := kind, addr := a, len := n, data := [], poison := [], owner := owner, offset := 0, hinted := false
      locked := locked, last := last } (.chan c)

/-- A locked read and write of one line at its channel (Table: Locked sequences formed by the device). -/
def chanPair (s : State) (x : Txn) (owner : TxnOwner) (a n : Nat) : State :=
  chanSend (chanSend s x .read .other a n true false) x .write owner a n true true

/-- The requests of one write of a line's bytes to its channel: with a narrow word, a read-modify-write; with a page code to keep,
the read and the write of it (R276, R299, R300). -/
def chanWrite (s : State) (x : Txn) (a n : Nat) (narrow : Bool) : State :=
  let s := if narrow then chanPair s x .other a n else chanSend s x .write .other a n false false
  if pageCodeOn s a then chanPair s x .other (a / 4096 * 4096) 256 else s

/-! ## Write-back (R205, R236, R302) -/

/-- The dirty bytes of a line moved to its channel, word by word: a word that fails is recovered first or written back poisoned
(R205, R236, R292). -/
def moveDirty (s : State) (i set : Nat) (x : CLine) : State :=
  (List.range 8).foldl (fun s w =>
    let mask := (x.dirty.drop (32 * w)).take 32
    if mask.any id then
      let a := x.base + 32 * w
      let from_ := plateAddr i x.way set + 32 * w
      let s := recoverFirst (noteRead s from_) from_
      let s := if mask.all id then s else recoverFirst (noteRead s a) a
      let p := (readWord s from_).2
      let s := countWords s F.MCH_WR_COUNT a 1
      if mask.all id then writeWord s a p.1 p.2
      else
        let c := (readWord s a).2
        writeWord s a (mergeWord p.1 c.1 mask) (p.2 || c.2)
    else s) s

/-- Whether a line holds a word that is dirty in part. -/
def dirtyNarrow (x : CLine) : Bool :=
  (List.range 8).any (fun w => let m := (x.dirty.drop (32 * w)).take 32; m.any id && !m.all id)

/-- The 16 lines of the page of a line, when all are resident with full masks: each with its set (R302). -/
def fullPage (s : State) (i : Nat) (x : CLine) : Option (List (Nat × CLine)) :=
  let ls := (List.range 16).filterMap (fun k =>
    let l := x.line / 16 * 16 + k
    ((getSet s i (l % 32768)).find? (fun y => y.chan == x.chan && y.line == l && y.dirty.all id)).map (fun y => (l % 32768, y)))
  if ls.length = 16 then some ls else none

/-- The line of a way holds nothing that its channel does not. -/
def cleanWay (s : State) (i set way : Nat) : State :=
  setSet s i set ((getSet s i set).map (fun y => if y.way = way then { y with dirty := List.replicate 256 false, filled := true } else y))

/-- A line written back, with the rest of its page where R302 says so; `who` names the request that caused it (R268). -/
def writeBack (s : State) (who : Option Txn) (i set : Nat) (x : CLine) : State :=
  match fullPage s i x with
  | some ls =>
    let s := ls.foldl (fun s e => cleanWay (moveDirty s i e.1 e.2) i e.1 e.2.way) s
    match who with
    | some t => ls.foldl (fun s e => chanSend s t .write .other e.2.base 256 false false) s
    | none => s
  | none =>
    let s := moveDirty s i set x
    match who with
    | some t => if x.dirty.any id then chanWrite s t x.base 256 (dirtyNarrow x) else s
    | none => s

/-- A line leaves a set, written back. -/
def evict (s : State) (who : Option Txn) (i set : Nat) (x : CLine) : State :=
  let s := writeBack s who i set x
  setSet s i set ((getSet s i set).filter (fun y => y.way != x.way))

/-! ## Allocation (R203, R204) -/

/-- The way that an allocation in a set takes: a free one, or the least recently used that is neither pinned nor held (R203);
none when no way may be chosen (R204). -/
def victim (s : State) (i set : Nat) : Option (Nat × Option CLine) :=
  let l := getSet s i set
  match (List.range (cacheWays s i)).find? (fun w => l.all (fun y => y.way != w)) with
  | some w => some (w, none)
  | none => (l.reverse.find? (fun x => !x.pinned && !lineHeld s i x)).map (fun x => (x.way, some x))

/-- A new line without contents: clean zero words in its way, inserted most or least recently used. -/
def insertLine (s : State) (q : LinePlace) (way base : Nat) (pinned lru : Bool) : State :=
  let s := (List.range 8).foldl (fun s w => writeWord s (plateAddr q.slice way q.set + 32 * w) (List.replicate 32 0) false) s
  let x : CLine := { way := way, chan := q.chan, line := q.line, base := base, dirty := List.replicate 256 false, filled := false, pinned := pinned }
  let l := getSet s q.slice q.set
  setSet s q.slice q.set (if lru then l ++ [x] else x :: l)

/-- An allocation for a line; none when the set has no way for it (R203, R204). -/
def allocate (s : State) (who : Option Txn) (q : LinePlace) (base : Nat) (lru : Bool) : Option State :=
  match victim s q.slice q.set with
  | none => none
  | some (w, v) =>
    let s := match v with
      | some x => evict s who q.slice q.set x
      | none => s
    some (insertLine s q w base false lru)

/-- The line becomes the most recently used of its set (R203). -/
def touchLine (s : State) (q : LinePlace) (x : CLine) : State :=
  setSet s q.slice q.set (x :: (getSet s q.slice q.set).filter (fun y => y.way != x.way))

/-- The line of a place filled from its channel, after the recovery of words that need it (R291); dirty bytes stay over the
channel's (R205). -/
def fillLine (s : State) (q : LinePlace) (x : CLine) : State :=
  let s := recoverRange s x.base 256
  let s := countWords s F.MCH_RD_COUNT x.base 8
  let s := (List.range 8).foldl (fun s w =>
    let a := x.base + 32 * w
    let r := cohWord s a
    writeWord (noteRead s a) (plateAddr q.slice x.way q.set + 32 * w) r.1 r.2) s
  putLine s q { x with filled := true }

/-! ## Streaks (R212 to R214) -/

/-- STREAK_WINDOW in force. -/
def streakWindow (s : State) (i : Nat) : Nat :=
  let n := getF s F.SLC_CFG_STREAK_WINDOW i
  if 8 ≤ n ∧ n ≤ 63 then n else 32

/-- A stream continues at a line. -/
def continues (now win line : Nat) (x : Stream) : Bool :=
  decide (now ≤ x.at_ + win) &&
    ((line : Int) == (x.last : Int) + 1 && decide (0 ≤ x.dir) || (line : Int) == (x.last : Int) - 1 && decide (x.dir ≤ 0))

/-- A slice access to a line of a channel passes the detector; whether the line is a streak's (R212). -/
def streakStep (s : State) (i chan line : Nat) : State × Bool :=
  let c := getSlice s i
  let now := c.accesses + 1
  let key := chan * 4294967296 + line
  match c.streams.find? (continues now (streakWindow s i) key) with
  | some x =>
    let y : Stream := { last := key, dir := (key : Int) - (x.last : Int), run := x.run + 1, at_ := now }
    (setSlice s i { c with accesses := now, streams := y :: c.streams.filter (fun z => z != x) }, decide (4 ≤ y.run))
  | none =>
    (setSlice s i { c with accesses := now, streams := (⟨key, 0, 1, now⟩ :: c.streams).take 16 }, false)

/-- A slice access that names no line of a channel, to scratch, counts among those that STREAK_WINDOW is measured in (R212). -/
def countAccess (s : State) (i : Nat) : State := setSlice s i { getSlice s i with accesses := (getSlice s i).accesses + 1 }

/-- Table: Streak modes: 0 inserted most recently used, 1 least recently used, 2 not allocated. -/
def streakPlace (mode : Nat) (streak : Bool) : Nat :=
  match mode with
  | 1 => if streak then 1 else 0
  | 2 => if streak then 2 else 0
  | 3 => 1
  | 4 => 2
  | _ => 0

/-- The streak mode of the line of an address: that of the hint for its page, or else its region's (R213, R402). -/
def streakMode (s : State) (q : LinePlace) (a : Nat) : Nat :=
  match s.act.hints.find? (fun h => decide (h.1 ≤ a / 4096) && decide (a / 4096 < h.1 + h.2.1)) with
  | some h => h.2.2
  | none => q.region.streak

/-! ## The thrash window (R211) -/

/-- A window of 65,536 lookups ends (R211). -/
def thrashEnd (s : State) (i : Nat) : State :=
  let c := getSlice s i
  let excess := decide (getF s F.SLC_CFG_THRASH_LIMIT i * c.lookups < 256 * c.misses)
  let s := setSlice s i { c with lookups := 0, misses := 0 }
  if excess then incF (sliceEvent s i C.THRASH 0) F.SLC_THRASH_COUNT i 1 else s

/-- A lookup counted: hits and misses of the slice, and the thrash window where the set holds a pinned line and the line is not
pinned. -/
def countLookup (s : State) (q : LinePlace) (hit : Option CLine) : State :=
  let i := q.slice
  let f := if hit.isSome then F.SLC_HIT_COUNT else F.SLC_MISS_COUNT
  let s := setF s f i (getF s f i + 1)
  let pinnedLine := match hit with
    | some x => x.pinned
    | none => false
  if (getSet s i q.set).any (·.pinned) && !pinnedLine then
    let s := if 65536 ≤ (getSlice s i).lookups then thrashEnd s i else s
    let c := getSlice s i
    setSlice s i { c with lookups := c.lookups + 1, misses := c.misses + (if hit.isSome then 0 else 1) }
  else s

/-- A lookup of a line: counted, and past the detector; the place that its streak treatment gives a new line (R211 to R213). -/
def lookup (s : State) (q : LinePlace) (a : Nat) : State × Nat :=
  let hit := cachedLine s q
  let r := streakStep (countLookup s q hit) q.slice q.chan q.line
  let pl := streakPlace (streakMode s q a) r.2
  if hit.isNone ∧ pl ≠ 0 then (incF r.1 F.SLC_STREAK_COUNT q.slice 1, pl) else (r.1, pl)

/-! ## Answers -/

/-- A read answered: its data, with the events of its words; poison from a committed page is consumed (R304). -/
def answerRead (s : State) (x : Txn) (base : Nat) : State :=
  let a := base + x.addr % 256
  let r := readBytes s a x.len
  let s := noteRange s a x.len
  let s := if r.2.any id && isCommitted s x.addr then committedPoison s x.addr else s
  finishTxn s x r.1 r.2

/-- A write accepted at its slice: watched regions are checked and it is answered (R225, R304). -/
def answerWrite (s : State) (i : Nat) (x : Txn) : State :=
  finishTxn (notePoisonWrite s i x.addr x.poison) x [] []

/-- Bytes written into a cached line. -/
def writeLine (s : State) (q : LinePlace) (a : Nat) (d : List Byte) (ps : List Bool) (y : CLine) : State :=
  let s := writeBytes s (lineData q y + a % 256) d ps
  putLine s q { y with dirty := setMask y.dirty (a % 256) d.length }

/-- A write without a line goes to the channel with its byte mask (R204). -/
def writeThrough (s : State) (a : Nat) (d : List Byte) (ps : List Bool) : State :=
  countWords (writeBytes s a d ps) F.MCH_WR_COUNT a (wordsOf a d.length).length

/-! ## Overflow co-adds (R223) -/

/-- An access that was sent to the channel behind an overflow co-add. -/
def behindAccess (s : State) (i : Nat) (x : Txn) : State :=
  if x.kind = .write then answerWrite (writeThrough s x.addr x.data x.poison) i x
  else answerRead (countWords (recoverRange s x.addr x.len) F.MCH_RD_COUNT x.addr (wordsOf x.addr x.len).length) x (x.addr / 256 * 256)

/-- The channel's write of an overflow co-add leaves the channel. -/
def dropWrite (s : State) (id : Nat) : State :=
  { s with deep := { s.deep with
      chans := s.deep.chans.map (fun e => (e.1, { e.2 with rq := { e.2.rq with
        queue := e.2.rq.queue.filter (fun y => y.id != id), granted := e.2.rq.granted.filter (fun y => y.id != id) } }))
      refused := s.deep.refused.filter (fun r => r.txn.id != id) } }

/-- An overflow co-add ends: the channel reads the words, applies the operator and writes the result; the accesses sent behind it
follow (R223). -/
def endOverflow (s : State) (i : Nat) (o : OvfCoadd) : State :=
  let c := getSlice s i
  let s := dropWrite (setSlice s i { c with ovf := c.ovf.filter (fun e => e != o) }) o.write
  let f := o.frag
  let n := (wordsOf f.addr f.data.length).length
  let s := recoverRange s f.addr f.data.length
  let s := countWords (countWords s F.MCH_RD_COUNT f.addr n) F.MCH_WR_COUNT f.addr n
  let s := coaddInto s i f.op (.tag f.tag) f.addr f.data f.poison readBytes writeBytes
  o.behind.foldl (fun s x => behindAccess s i x) s

/-! ## Misses (R204, R205) -/

/-- The miss leaves the slice and its request leaves the channel. -/
def endMiss (s : State) (i id : Nat) : State :=
  let x := getSlice s i
  dropWrite (setSlice s i { x with pendingMiss := x.pendingMiss.filter (fun m => m.txn.id != id) }) id

/-- A read that missed is answered from its channel: the line is filled and the read answered, or the read is served from the
channel without a line (R204, R205). -/
def answerMiss (s : State) (i : Nat) (m : Miss) : State :=
  let x := m.txn
  let s := endMiss s i x.id
  match linePlace s x.addr with
  | none => finishTxn (unmapped s i x.addr) x (List.replicate x.len 0) (List.replicate (x.len / 32 + 1) true)
  | some q =>
    let base := x.addr / 256 * 256
    let got := match cachedLine s q with
      | some _ => some s
      | none => if m.place = 2 then none else allocate s (some x) q base (m.place == 1)
    let direct (s : State) : State :=
      answerRead (countWords (recoverRange s x.addr x.len) F.MCH_RD_COUNT base (wordsOf x.addr x.len).length) x base
    match got with
    | none => direct s
    | some s =>
      match cachedLine s q with
      | none => direct s
      | some y => answerRead (if y.filled then s else fillLine s q y) x (lineData q y)

/-- The accesses to the line of an address that were accepted earlier and wait for its channel are performed first (R235). -/
def settleLine (s : State) (i a : Nat) : State :=
  let c := getSlice s i
  let s := (c.ovf.filter (fun o => o.frag.addr / 256 == a / 256)).foldl (fun s o => endOverflow s i o) s
  (c.pendingMiss.filter (fun m => m.txn.addr / 256 == a / 256)).foldl (fun s m => answerMiss s i m) s

/-! ## The accesses of the engines (R202, R203, R235)

The collective, checkpoint, loader and update engines and the sequencer read and write through the home slices. An access of an
engine is performed within its command; its request is granted at once and holds no place in a queue (assumption 98). -/

/-- One line's part of an engine's read. -/
def engineLine (s : State) (a n : Nat) : State × List Byte × List Bool :=
  match linePlace s a with
  | some q =>
    let s := settleLine s q.slice a
    let r := lookup s q a
    let direct (s : State) : State × List Byte × List Bool :=
      let s := countWords (recoverRange s a n) F.MCH_RD_COUNT a (wordsOf a n).length
      (noteRange s a n, readBytes s a n)
    let inLine (s : State) (y : CLine) : State × List Byte × List Bool :=
      let s := recoverRange s (lineData q y + a % 256) n
      (noteRange s (lineData q y + a % 256) n, readBytes s (lineData q y + a % 256) n)
    match cachedLine s q with
    | some y =>
      let s := touchLine r.1 q y
      if y.filled || y.dirty.all id then inLine s y else inLine (fillLine s q y) y
    | none =>
      match (if r.2 = 2 then none else allocate r.1 none q (a / 256 * 256) (r.2 == 1)) with
      | none => direct r.1
      | some s =>
        match cachedLine s q with
        | none => direct s
        | some y => inLine (fillLine s q y) y
  | none =>
    match scratchSlice s a with
    | some i =>
      let s := recoverRange (countAccess s i) a n
      (noteRange s a n, readBytes s a n)
    | none => (unmapped s (routeSlice s a) a, List.replicate n 0, List.replicate (wordsOf a n).length true)

/-- Bytes read by an engine, with the marks of the words touched. -/
def engineGet (s : State) (a n : Nat) : State × List Byte × List Bool :=
  (linePieces a n 0 (n / 256 + 2)).foldl (fun r p =>
    let x := engineLine r.1 p.1 p.2.1
    (x.1, r.2.1 ++ x.2.1, r.2.2 ++ x.2.2)) (s, [], [])

/-- One line's part of an engine's write. -/
def enginePutLine (s : State) (a : Nat) (d : List Byte) (ps : List Bool) : State :=
  match linePlace s a with
  | some q =>
    let s := settleLine s q.slice a
    let r := lookup s q a
    let through (s : State) : State :=
      writeThrough (if narrowRange a d.length then recoverRange s a d.length else s) a d ps
    match cachedLine s q with
    | some y =>
      let s := touchLine r.1 q y
      writeLine (if narrowRange a d.length then recoverRange s (lineData q y + a % 256) d.length else s) q a d ps y
    | none =>
      match (if r.2 = 2 then none else allocate r.1 none q (a / 256 * 256) (r.2 == 1)) with
      | none => through r.1
      | some s =>
        match cachedLine s q with
        | none => through s
        | some y => writeLine s q a d ps y
  | none =>
    match scratchSlice s a with
    | some i => writeBytes (if narrowRange a d.length then recoverRange (countAccess s i) a d.length else countAccess s i) a d ps
    | none => unmapped s (routeSlice s a) a

/-- Marks of the words that a piece at an offset of a range touches. -/
def marksAt (a off n : Nat) (ps : List Bool) : List Bool :=
  let w0 := (a % 32 + off) / 32
  (ps.drop w0).take ((a % 32 + off + n + 31) / 32 - w0)

/-- Bytes written by an engine, with the marks of the words touched. -/
def enginePut (s : State) (a : Nat) (d : List Byte) (ps : List Bool) : State :=
  (linePieces a d.length 0 (d.length / 256 + 2)).foldl (fun s p =>
    enginePutLine s p.1 ((d.drop p.2.2).take p.2.1) (marksAt a p.2.2 p.2.1 ps)) s

/-! ## Tasks (R144, R145) -/

/-- A task is launched from an entry of the tile's task table: by a bundle, or by the sequencer as a commit task (R380). -/
def launchTask (s : State) (t task groups band token bundle : Nat) (commit : Bool) : State :=
  let w := words8 (readBytes s (focalAddr t (getF s F.LANE_TTAB_BASE t + 32 * task)) 32).1
  let x : Task :=
    { id := s.lane.nextTask, code := bits (w.getD 0 0) 0 24, codeLen := bits (w.getD 1 0) 0 24, args := bits (w.getD 2 0) 0 24,
      cache := bit (w.getD 3 0) 0, barLog2 := bits (w.getD 3 0) 1 5, groups := groups, band := band, token := token,
      bundle := bundle, commit := commit, resident := false, slots := [], stores := 0, late := none }
  let l := getLane s t
  let s := setLane s t { l with tasks := l.tasks ++ [x] }
  { s with lane := { s.lane with nextTask := s.lane.nextTask + 1 } }

end Sys2Proof.Machine
end

