-- ==== Sys2Proof/Machine/Crc.lean ====
section
/-!
DEFINITION. The check codes that the spec names by their standards: the CRC-16 of R14, CRC-32C, and SHA-384 (assumption 14).
-/
namespace Sys2Proof.Machine

/-! ## CRC-16 (R14): polynomial 0x1021, initial value 0xFFFF, no reflection, no final inversion -/

/-- One bit step of the CRC-16. -/
def crc16Bit (c : BitVec 16) : BitVec 16 := (c <<< 1) ^^^ (if c.msb then 0x1021 else 0)

/-- `n` bit steps. -/
def crc16Bits (c : BitVec 16) : Nat → BitVec 16
  | 0 => c
  | n + 1 => crc16Bits (crc16Bit c) n

/-- The CRC-16 over bytes from a running value. -/
def crc16From (c : BitVec 16) : List Byte → BitVec 16
  | [] => c
  | b :: bs => crc16From (crc16Bits (c ^^^ (b.setWidth 16 <<< 8)) 8) bs

/-- The CRC-16 of a burst. -/
def crc16 (bs : List Byte) : BitVec 16 := crc16From 0xFFFF bs

/-! ## CRC-32C: the Castagnoli polynomial, reflected -/

/-- One bit step. -/
def crc32cBit (c : W32) : W32 := (c >>> 1) ^^^ (if c.getLsbD 0 then 0x82F63B78 else 0)

/-- `n` bit steps. -/
def crc32cBits (c : W32) : Nat → W32
  | 0 => c
  | n + 1 => crc32cBits (crc32cBit c) n

/-- The CRC over bytes from a running value. -/
def crc32cFrom (c : W32) : List Byte → W32
  | [] => c
  | b :: bs => crc32cFrom (crc32cBits (c ^^^ b.setWidth 32) 8) bs

/-- The CRC-32C of bytes, as a number. -/
def crc32c (bs : List Byte) : Nat := (crc32cFrom 0xFFFFFFFF bs ^^^ 0xFFFFFFFF).toNat

/-! ## SHA-384 -/

/-- Round constants 0 to 15. -/
def shaK0 : List W64 := [
  0x428A2F98D728AE22, 0x7137449123EF65CD, 0xB5C0FBCFEC4D3B2F, 0xE9B5DBA58189DBBC,
  0x3956C25BF348B538, 0x59F111F1B605D019, 0x923F82A4AF194F9B, 0xAB1C5ED5DA6D8118,
  0xD807AA98A3030242, 0x12835B0145706FBE, 0x243185BE4EE4B28C, 0x550C7DC3D5FFB4E2,
  0x72BE5D74F27B896F, 0x80DEB1FE3B1696B1, 0x9BDC06A725C71235, 0xC19BF174CF692694]
/-- Round constants 16 to 31. -/
def shaK1 : List W64 := [
  0xE49B69C19EF14AD2, 0xEFBE4786384F25E3, 0x0FC19DC68B8CD5B5, 0x240CA1CC77AC9C65,
  0x2DE92C6F592B0275, 0x4A7484AA6EA6E483, 0x5CB0A9DCBD41FBD4, 0x76F988DA831153B5,
  0x983E5152EE66DFAB, 0xA831C66D2DB43210, 0xB00327C898FB213F, 0xBF597FC7BEEF0EE4,
  0xC6E00BF33DA88FC2, 0xD5A79147930AA725, 0x06CA6351E003826F, 0x142929670A0E6E70]
/-- Round constants 32 to 47. -/
def shaK2 : List W64 := [
  0x27B70A8546D22FFC, 0x2E1B21385C26C926, 0x4D2C6DFC5AC42AED, 0x53380D139D95B3DF,
  0x650A73548BAF63DE, 0x766A0ABB3C77B2A8, 0x81C2C92E47EDAEE6, 0x92722C851482353B,
  0xA2BFE8A14CF10364, 0xA81A664BBC423001, 0xC24B8B70D0F89791, 0xC76C51A30654BE30,
  0xD192E819D6EF5218, 0xD69906245565A910, 0xF40E35855771202A, 0x106AA07032BBD1B8]
/-- Round constants 48 to 63. -/
def shaK3 : List W64 := [
  0x19A4C116B8D2D0C8, 0x1E376C085141AB53, 0x2748774CDF8EEB99, 0x34B0BCB5E19B48A8,
  0x391C0CB3C5C95A63, 0x4ED8AA4AE3418ACB, 0x5B9CCA4F7763E373, 0x682E6FF3D6B2B8A3,
  0x748F82EE5DEFB2FC, 0x78A5636F43172F60, 0x84C87814A1F0AB72, 0x8CC702081A6439EC,
  0x90BEFFFA23631E28, 0xA4506CEBDE82BDE9, 0xBEF9A3F7B2C67915, 0xC67178F2E372532B]
/-- Round constants 64 to 79. -/
def shaK4 : List W64 := [
  0xCA273ECEEA26619C, 0xD186B8C721C0C207, 0xEADA7DD6CDE0EB1E, 0xF57D4F7FEE6ED178,
  0x06F067AA72176FBA, 0x0A637DC5A2C898A6, 0x113F9804BEF90DAE, 0x1B710B35131C471B,
  0x28DB77F523047D84, 0x32CAAB7B40C72493, 0x3C9EBE0A15C9BEBC, 0x431D67C49C100D4C,
  0x4CC5D4BECB3E42B6, 0x597F299CFC657E2A, 0x5FCB6FAB3AD6FAEC, 0x6C44198C4A475817]
/-- The round constants. -/
def shaK : List W64 := shaK0 ++ shaK1 ++ shaK2 ++ shaK3 ++ shaK4

/-- The initial hash value of SHA-384. -/
def shaInit : List W64 := [
  0xCBBB9D5DC1059ED8, 0x629A292A367CD507, 0x9159015A3070DD17, 0x152FECD8F70E5939,
  0x67332667FFC00B31, 0x8EB44A8768581511, 0xDB0C2E0D64F98FA7, 0x47B5481DBEFA4FA4]

def shaBig0 (x : W64) : W64 := x.rotateRight 28 ^^^ x.rotateRight 34 ^^^ x.rotateRight 39
def shaBig1 (x : W64) : W64 := x.rotateRight 14 ^^^ x.rotateRight 18 ^^^ x.rotateRight 41
def shaSml0 (x : W64) : W64 := x.rotateRight 1 ^^^ x.rotateRight 8 ^^^ (x >>> 7)
def shaSml1 (x : W64) : W64 := x.rotateRight 19 ^^^ x.rotateRight 61 ^^^ (x >>> 6)

/-- A big-endian word from eight bytes. -/
def beWord (bs : List Byte) : W64 := bs.foldl (fun (a : W64) b => (a <<< 8) ||| b.setWidth 64) 0

/-- The eight bytes of a word, most significant first. -/
def beBytes (w : W64) : List Byte := (List.range 8).map (fun i => (w >>> (8 * (7 - i))).setWidth 8)

/-- The words of a block and the schedule, newest first. -/
def shaSchedule (ws : List W64) : Nat → List W64
  | 0 => ws
  | n + 1 =>
    shaSchedule ((shaSml1 (ws.getD 1 0) + ws.getD 6 0 + shaSml0 (ws.getD 14 0) + ws.getD 15 0) :: ws) n

/-- One round. -/
def shaRound (v : List W64) (kw : W64 × W64) : List W64 :=
  match v with
  | [a, b, c, d, e, f, g, h] =>
    let t1 := h + shaBig1 e + ((e &&& f) ^^^ (~~~e &&& g)) + kw.1 + kw.2
    let t2 := shaBig0 a + ((a &&& b) ^^^ (a &&& c) ^^^ (b &&& c))
    [t1 + t2, a, b, c, d + t1, e, f, g]
  | _ => v

/-- One block of 128 bytes. -/
def shaBlock (h : List W64) (block : List Byte) : List W64 :=
  let w0 := (List.range 16).map (fun i => beWord ((block.drop (8 * i)).take 8))
  let ws := (shaSchedule w0.reverse 64).reverse
  let v := (shaK.zip ws).foldl shaRound h
  (h.zip v).map (fun x => x.1 + x.2)

/-- Blocks one after another; the last argument bounds their number. -/
def shaBlocks (h : List W64) (bs : List Byte) : Nat → List W64
  | 0 => h
  | n + 1 => if bs.isEmpty then h else shaBlocks (shaBlock h (bs.take 128)) (bs.drop 128) n

/-- SHA-384 of bytes: 48 bytes. -/
def sha384 (bs : List Byte) : List Byte :=
  let n := bs.length
  let pad := (239 - n % 128) % 128
  let msg := bs ++ [0x80] ++ List.replicate pad 0 ++ beBytes 0 ++ beBytes (BitVec.ofNat 64 (8 * n))
  ((shaBlocks shaInit msg (msg.length / 128 + 1)).flatMap beBytes).take 48

end Sys2Proof.Machine
end

