-- ==== Sys2Proof/Machine/ImgParse.lean ====
section
/-!
DEFINITION. The container of an image (13, R397 to R399, R408): the staged bytes, the header, the directory, the sections and
their records, and the records of Table: Section records read field by field.
-/
namespace Sys2Proof.Machine

/-! ## Staged bytes (R407 to R409) -/

/-- A field of `n` bytes at offset `o`, little-endian. -/
def fld (b : List Byte) (o n : Nat) : Nat := leNat ((b.drop o).take n)

/-- A MAC address: the number whose least significant byte is the first on the wire (assumption 15). -/
def macAt (b : List Byte) (o : Nat) : Nat := fld b o 6

/-- `n` bytes of the staged image from an offset; a granule that was never written reads as zeros (R409). -/
def stagedBytes (s : State) (off n : Nat) : Nat → List Byte
  | 0 => []
  | f + 1 =>
    if n = 0 then []
    else
      let k := min (4096 - off % 4096) n
      let part := if s.act.granules.contains (off / 4096) then (readBytes s (s.act.stagedBase + off) k).1
        else List.replicate k 0
      part ++ stagedBytes s (off + k) (n - k) f

/-- Bytes of the staged image. -/
def stgBytes (s : State) (off n : Nat) : List Byte := stagedBytes s off n (n / 4096 + 2)

/-- A refusal: its code, the byte offset of the failing record or field, and the tile (R409). -/
structure Refuse where
  code : Nat
  off : Nat := 0
  tile : Nat := 0
  deriving DecidableEq, Repr

/-! ## Header, directory and records (R397 to R399) -/

/-- A directory entry (R398). -/
structure DirEntry where
  type : Nat
  flags : Nat
  off : Nat
  len : Nat
  crc : Nat
  pads : Bool
  deriving DecidableEq, Repr

/-- The entries of the directory in a header's bytes. -/
def dirEntry (b : List Byte) : DirEntry :=
  ⟨fld b 0 2, fld b 2 2, fld b 8 8, fld b 16 8, fld b 24 4, fld b 4 4 = 0 ∧ fld b 28 4 = 0⟩

/-- The records of a section's bytes, from an image offset; none when a header is broken (R399). -/
def parseRecs (b : List Byte) (off : Nat) : Nat → Option (List Rec)
  | 0 => if b.isEmpty then some [] else none
  | f + 1 =>
    if b.isEmpty then some []
    else if b.length < 8 then none
    else
      let len := fld b 4 4
      if len % 8 ≠ 0 ∨ fld b 2 2 ≠ 0 ∨ b.length < 8 + len then none
      else
        match parseRecs (b.drop (8 + len)) (off + 8 + len) f with
        | none => none
        | some rs => some (⟨fld b 0 2, (b.drop 8).take len, off⟩ :: rs)

/-! ## Registers that an image sets (R400, R401) -/

/-- A REG entry: an address and a value. -/
def regEntries (r : Rec) : List (Nat × Nat) :=
  (List.range (r.body.length / 16)).map (fun i => (fld r.body (16 * i) 8, fld r.body (16 * i + 8) 4))

/-- A REG_TILES entry: an offset in the TIL block, a value and the tiles. -/
def tileEntries (r : Rec) : List (Nat × Nat × List Nat) :=
  (List.range (r.body.length / 72)).map (fun i =>
    let m := fld r.body (72 * i + 8) 64
    (fld r.body (72 * i) 4, fld r.body (72 * i + 4) 4, (List.range 512).filter (fun t => bit m t)))

/-- A FOCAL record: its tiles, offset and data. -/
def focalRec (r : Rec) : List Nat × Nat × List Byte :=
  let m := fld r.body 0 64
  ((List.range 512).filter (fun t => bit m t), fld r.body 64 4, (r.body.drop 72).take (fld r.body 68 4))

/-! ## Sections and their records -/

/-- The records of a kind in an image, in order. -/
def recsOf (i : Image) (kind : Nat) : List Rec :=
  (i.sects.flatMap (·.recs)).filter (fun r => r.kind == kind)

/-- The records of a kind in one section. -/
def recsIn (i : Image) (type kind : Nat) : List Rec :=
  ((i.sects.filter (fun x => x.type == type)).flatMap (·.recs)).filter (fun r => r.kind == kind)

/-- The first record of a kind. -/
def recOf (i : Image) (kind : Nat) : Option Rec := (recsOf i kind).head?

/-- A field of the first record of a kind, or a default where the record is absent (R403). -/
def recFld (i : Image) (kind o n d : Nat) : Nat :=
  match recOf i kind with
  | some r => fld r.body o n
  | none => d

/-- Page ranges of a kind: first page and pages. -/
def pageRanges (i : Image) (kind : Nat) : List (Nat × Nat) :=
  (recsOf i kind).map (fun r => (fld r.body 0 4, fld r.body 4 4))

/-- A REGION record (R199, R402). -/
def regionOf (r : Rec) : Region :=
  let m := fld r.body 8 1
  ⟨fld r.body 0 4 * 805306368, fld r.body 4 4 * 805306368, if m = 0 then none else some (m - 1), fld r.body 9 1,
   fld r.body 10 1 = 1, fld r.body 11 1 = 1⟩

/-- A ROUTE record. -/
def routeOf (r : Rec) : Route :=
  let b := r.body
  ⟨fld b 0 2, fld b 2 2, fld b 4 2, fld b 6 1, macAt b 8, fld b 16 4, fld b 20 2, fld b 22 2, fld b 24 4, fld b 28 4,
   fld b 32 4, fld b 36 4, fld b 40 4⟩

/-- The phases of a COLLECTIVE record, with the member lists that follow them. -/
def collPhases (b : List Byte) (n : Nat) : List CollPhase :=
  let heads := (List.range n).map (fun k => b.drop (8 + 64 * k))
  let step (acc : List CollPhase × Nat) (h : List Byte) : List CollPhase × Nat :=
    let p := fld h 6 2
    let ms := (List.range p).map (fun j => fld b (acc.2 + 2 * j) 2)
    (acc.1 ++ [⟨fld h 0 1, fld h 1 1, fld h 2 1, fld h 3 1, fld h 4 1, p, fld h 8 2, fld h 16 8, fld h 24 8, fld h 32 8, ms⟩],
     acc.2 + 2 * p)
  (heads.foldl step ([], 8 + 64 * n)).1

def collOf (r : Rec) : Collective := ⟨fld r.body 0 2, collPhases r.body (fld r.body 2 1)⟩

def vlanOf (r : Rec) : Vlan := ⟨fld r.body 0 2, fld r.body 2 1 = 1, fld r.body 8 24⟩
def fdbOf (r : Rec) : FdbEntry := ⟨fld r.body 0 2, macAt r.body 2, fld r.body 8 2, fld r.body 10 2, true⟩
def gatesOf (r : Rec) : Nat × List Nat :=
  (fld r.body 0 2, (List.range (fld r.body 2 2)).map (fun i => fld r.body (8 + 4 * i) 4))
def targetOf (r : Rec) : Target := ⟨fld r.body 0 1, fld r.body 1 1, fld r.body 4 4, fld r.body 8 4, (r.body.drop 16).take 224⟩
def datasetOf (r : Rec) : Dataset :=
  let b := r.body
  ⟨fld b 0 4, fld b 4 4, fld b 8 8, fld b 16 4, fld b 20 2, fld b 22 2, fld b 24 1, fld b 32 8, fld b 40 8⟩
def telemetryOf (r : Rec) : Telemetry :=
  let u := fld r.body 4 2
  ⟨fld r.body 0 4, if u = 0 then 4739 else u, fld r.body 6 2, fld r.body 8 4, fld r.body 12 4⟩
def nodeOf (r : Rec) : TreeNode := ⟨fld r.body 0 2, macAt r.body 2, fld r.body 8 2, fld r.body 10 4⟩
def taskOf (r : Rec) : CommitTask := ⟨fld r.body 0 2, fld r.body 2 2, fld r.body 4 1, fld r.body 5 1⟩

/-- The tables that an image gives its services, beside registers and focal contents. -/
def tablesOf (i : Image) : ActS :=
  { image := some i, digest := i.digest, regions := (recsOf i 0x0201).map regionOf,
    hints := (recsOf i 0x0202).map (fun r => (fld r.body 0 4, fld r.body 4 4, fld r.body 8 1)),
    committed := pageRanges i 0x0204, pinned := pageRanges i 0x0203,
    upd := (recsOf i 0x0205).flatMap (fun r => (List.range (r.body.length / 64)).map (fun k =>
      (List.range 16).map (fun w => fld r.body (64 * k + 4 * w) 4))),
    areas := (List.range 6).map (fun k => recFld i 0x0206 (4 * k) 4 0),
    seed := i.seed, job := i.job, slewReserve := recFld i 0x0101 0 1 0,
    bandCkpt := recFld i 0x0301 0 1 0, bandLoader := recFld i 0x0301 1 1 0, bandUpdate := recFld i 0x0301 2 1 0,
    linkMac := recFld i 0x0401 0 6 0, hostMac := recFld i 0x0401 6 6 0, linkIp := recFld i 0x0401 12 4 0,
    hostIp := recFld i 0x0401 16 4 0, resendMin := recFld i 0x0401 20 1 1, schedBuf := recFld i 0x0401 21 1 0,
    vlans := (recsOf i 0x0402).map vlanOf,
    portSets := (recsOf i 0x0403).map (fun r => (fld r.body 0 2, fld r.body 8 24)),
    fdb := (recsOf i 0x0404).map fdbOf, gates := (recsOf i 0x0405).map gatesOf, routes := (recsOf i 0x0406).map routeOf,
    colls := (recsOf i 0x0407).map collOf,
    synce := match recOf i 0x0408 with
      | some r => ((List.range 4).map (fun k => fld r.body (2 * k) 2)).filter (· != 0xFFFF)
      | none => [255],
    ptp := if (recsOf i 0x0409).isEmpty then [(255, 1)] else (recsOf i 0x0409).map (fun r => (fld r.body 0 2, fld r.body 2 1)),
    telemetry := (recOf i 0x040A).map telemetryOf, targets := (recsOf i 0x040B).map targetOf,
    dataset := (recOf i 0x040C).map datasetOf, caks := (recsOf i 0x040D).map (fun r => (fld r.body 0 2, r.body.drop 8)),
    cages := (recsOf i 0x040E).map (fun r => (fld r.body 0 1, fld r.body 2 2)),
    n := recFld i 0x0601 0 4 0, index := recFld i 0x0601 4 2 0, initE := recFld i 0x0601 8 1 0,
    ckptInterval := recFld i 0x0601 12 4 0, firstStep := recFld i 0x0601 16 8 0,
    parent := (recOf i 0x0602).map nodeOf, children := (recsOf i 0x0603).map nodeOf,
    commitTasks := (recsOf i 0x0604).map taskOf,
    stagger := match recOf i 0x0702 with | some r => r.body | none => [] }

end Sys2Proof.Machine
end

