-- ==== Sys2Proof/Machine/LaneOps.lean ====
section
/-!
DEFINITION. Operations of the lane unit (06): registers of a group, mask stack (R153 to R155), locks, faults (R176), focal
and global accesses (R156 to R161).
-/
namespace Sys2Proof.Machine

/-! ## Groups and tasks -/

/-- The group in a slot of a tile. -/
def getGroup (s : State) (t slot : Nat) : Option Group := mget (getLane s t).groups slot none

def putGroup (s : State) (t slot : Nat) (g : Option Group) : State :=
  let l := getLane s t
  setLane s t { l with groups := mput natLt l.groups slot g none }

/-- The group may issue: resident, active, waiting for nothing, and neither it nor the device is halted (R148, R152). -/
def runnable (s : State) (t slot : Nat) : Option Group :=
  match getGroup s t slot with
  | some g => if g.active && g.wait == .none && !g.halted && !paused s then some g else none
  | none => none

def findTask (s : State) (t id : Nat) : Option Task := (getLane s t).tasks.find? (fun x => x.id == id)

def putTask (s : State) (t : Nat) (x : Task) : State :=
  let l := getLane s t
  setLane s t { l with tasks := l.tasks.map (fun y => if y.id = x.id then x else y) }

/-- The slots whose groups belong to a task. -/
def taskSlots (s : State) (t id : Nat) : List Nat :=
  ((getLane s t).groups.filter (fun e => match e.2 with | some g => g.task == id | none => false)).map (·.1)

/-- A 32-bit focal word written by the lane unit. -/
def putFocal32 (s : State) (t off v : Nat) : State := focalWrite s (focalAddr t off) (leBytes v 4) [false]

/-- Locks freed: 0 into each word (R166, R176). -/
def freeLocks (s : State) (t : Nat) (ls : List (Nat × Nat)) : State := ls.foldl (fun s l => putFocal32 s t l.1 0) s

/-- Array ownership of a slot ends (R172). -/
def dropOwner (s : State) (t slot : Nat) : State :=
  let a := getArr s t
  if a.owner = some slot then setArr s t { a with owner := none } else s

/-- The resident groups of a tile with their slots, by slot. -/
def residents (s : State) (t : Nat) : List (Nat × Group) :=
  (List.range 32).filterMap (fun i => (getGroup s t i).map (fun g => (i, g)))

/-- The group that has waited longest; ties go to the lower slot. -/
def longest : List (Nat × Group) → Option (Nat × Group)
  | [] => none
  | e :: r => match longest r with
    | none => some e
    | some x => if x.2.since < e.2.since then some x else some e

/-- The ready pending groups that have waited longest fill the free places of the active set (R148). -/
def refill (s : State) (t : Nat) : Nat → State
  | 0 => s
  | n + 1 =>
    let gs := residents s t
    if 4 ≤ (gs.filter (fun e => e.2.active)).length then s
    else
      match longest (gs.filter (fun e => !e.2.active && e.2.wait == .none)) with
      | none => s
      | some (i, g) => refill (putGroup s t i (some { g with active := true })) t n

/-- A group leaves the active set, waiting for something, and another takes its place. -/
def leaveActive (s : State) (t slot : Nat) (g : Group) (w : GroupWait) : State :=
  refill (putGroup s t slot (some { g with active := false, wait := w, since := s.clk.laneCyc })) t 4

/-- A waiting group is ready again, past the instruction it waited at. -/
def wake (s : State) (t slot : Nat) (g : Group) : State :=
  refill (putGroup s t slot (some { g with wait := .none, since := s.clk.laneCyc, pc := g.pc + 8 })) t 4

/-- A group ends: its slot and any ownership of the arrays are free (R147, R172). -/
def endGroup (s : State) (t slot : Nat) : State :=
  let s := dropOwner s t slot
  let l := getLane s t
  let s := setLane s t { l with
    haltSlot := if l.haltSlot = some slot then none else l.haltSlot
    accesses := l.accesses.filter (fun a => a.slot != slot)
    last := merase l.last slot
    late := l.late.filter (fun r => r.slot != slot) }
  refill (putGroup s t slot none) t 4

/-- A task ends: the lane data cache is invalidated; where its JOIN came first, its LAUNCH retires, its lateness is noted and the
stall clears (R118, R123, R130, R147). A commit task that ends by a fault clears STATE_INTACT and ends COMMIT (R381). -/
def finishTask (s : State) (t : Nat) (x : Task) (faulted : Bool) : State :=
  let l := getLane s t
  let s := setLane s t { l with tasks := l.tasks.filter (fun y => y.id != x.id), lines := [] }
  let s := match x.late with
    | some st => retireSlot (noteLate s t st) t x.bundle
    | none => s
  let s := dropCauses s t (fun c => c.cause == 2 && c.key == x.id)
  if x.commit && faulted then
    let s := clearIntact s
    { s with mer := { s.mer with commitFault := true } }
  else s

/-- Every group of a task stops, its locks and ownership are released and the task ends at once (R176, R177). -/
def abortTask (s : State) (t id : Nat) (faulted : Bool) : State :=
  let slots := taskSlots s t id
  let halted := slots.any (fun i => (getLane s t).haltSlot == some i)
  let s := slots.foldl (fun s i =>
    match getGroup s t i with
    | some g => endGroup (freeLocks s t g.locks) t i
    | none => s) s
  let s := if halted then { s with eph := { s.eph with debugHalt := false, haltLeaving := false } } else s
  match findTask s t id with
  | none => s
  | some x => finishTask s t x faulted

/-- LANE_FAULT takes the first code of class 0x03 while VALID is 0, with the slot, the lowest lane and the instruction (R185). -/
def captureLane (s : State) (t slot lane pc : Nat) (c : FaultCode) : State :=
  if getB s F.LANE_FAULT_VALID t then s
  else
    let s := setF s F.LANE_FAULT_CODE t (c.code % 256)
    let s := setF s F.LANE_FAULT_GROUP t slot
    let s := setF s F.LANE_FAULT_LANE t lane
    let s := setF s F.LANE_FAULT_PC_PC t pc
    setB s F.LANE_FAULT_VALID t true

/-- A group faults with a code of class 0x03 (R176): recorded, captured, and its task aborted. -/
def groupFault (s : State) (t slot : Nat) (c : FaultCode) (lane : Nat) : State :=
  match getGroup s t slot with
  | none => s
  | some g => abortTask (record (captureLane s t slot lane g.pc c) c t) t g.task true

/-- Every task of a tile aborted, with nothing recorded (R177). -/
def abortTile (s : State) (t : Nat) : State :=
  (getLane s t).tasks.foldl (fun s x => abortTask s t x.id false) s

/-! ## Registers -/

/-- The lanes 0 to 31. -/
def lanes : List Nat := List.range 32

/-- Lane `l` of a mask. -/
def inMask (m : W32) (l : Nat) : Bool := m.getLsbD l

/-- The active lanes of a group, ascending. -/
def activeLanes (g : Group) : List Nat := lanes.filter (inMask g.mask)

def vGet (g : Group) (r l : Nat) : LaneVal := mget g.vreg (r, l) {}
def vPut (g : Group) (r l : Nat) (x : LaneVal) : Group := { g with vreg := mput pairLt g.vreg (r, l) x {} }
def sGet (g : Group) (r : Nat) : ScalVal := mget g.sreg r {}
def sPut (g : Group) (r : Nat) (x : ScalVal) : Group := { g with sreg := mput natLt g.sreg r x {} }

/-- An operand in a lane: a vector register's lane, or the low 32 bits of a scalar register (R149). -/
def operand (g : Group) (r : BitVec 6) (scal : Bool) (l : Nat) : LaneVal :=
  if scal then ⟨(sGet g r.toNat).v.setWidth 32, (sGet g r.toNat).poison⟩ else vGet g r.toNat l

/-- A result written in every active lane of a vector register. -/
def vMap (g : Group) (d : Nat) (fn : Nat → LaneVal) : Group :=
  (activeLanes g).foldl (fun acc l => vPut acc d l (fn l)) g

/-- The program counter moves past the instruction. -/
def advance (g : Group) : Group := { g with pc := g.pc + 8 }

/-- Bits as a mask. -/
def maskOf (ls : List Nat) : W32 := ls.foldl (fun m l => m ||| BitVec.ofNat 32 (2 ^ l)) 0

/-- A condition lane is true when it is nonzero and not poisoned (R153). -/
def condTrue (x : LaneVal) : Bool := x.v != 0 && !x.poison

/-- A use of a poisoned value as a condition, address or index by a lane of a group: recorded, captured and consumed (R161, R185,
R304). -/
def poisonUse (s : State) (t slot lane pc : Nat) : State :=
  clearVerdict (record (captureLane s t slot lane pc C.LANE_POISON_USE) C.LANE_POISON_USE t) vPoisonFree

/-- The same for the lanes whose values used are poisoned, in ascending order; none uses nothing. -/
def usePoison (s : State) (t slot pc : Nat) : List Nat → State
  | [] => s
  | l :: _ => poisonUse s t slot l pc

/-- Lane 0 stands for a use of the whole group: a scalar condition or address. -/
def groupUse (p : Bool) : List Nat := if p then [0] else []

/-! ## Open words of the lane unit (R99, R136) -/

/-- What names a group within a step: SEED, the step, the tile, its task's code, LAUNCH and COMMIT, its index and the words it has
drawn so far. A replay of the step gives the same names (R136). -/
def drawKey (s : State) (t : Nat) (g : Group) : List Nat :=
  let task := match findTask s t g.task with
    | some x => [x.code, x.bundle, x.commit.toNat]
    | none => [0, 0, 0]
  [s.act.seed, getF s F.SEG_STEP_STEP 0, t] ++ task ++ [g.index, g.draws]

/-- Word `k` of an instruction that draws open words (assumption 31). -/
def laneWord (s : State) (t : Nat) (g : Group) (k : Nat) : W32 := Config.laneDraw (drawKey s t g ++ [k])

/-- The group has drawn. -/
def drew (g : Group) : Group := { g with draws := g.draws + 1 }

/-! ## The mask stack (R153 to R155) -/

/-- RCV: the top entry is popped and the group goes on at its address with its mask. A rejoin entry restores the lanes
that have not exited; a waiting entry is not popped, and the group waits. -/
def doRcv (s : State) (t slot : Nat) (g : Group) : State :=
  match g.stack with
  | [] => groupFault s t slot C.MASK_UNDERFLOW 0
  | .rejoin m a :: r => putGroup s t slot (some { g with mask := m &&& ~~~g.exited, pc := a, stack := r })
  | .pend m a :: r => putGroup s t slot (some { g with mask := m &&& ~~~g.exited, pc := a, stack := r })
  | .waiting _ _ _ :: _ => leaveActive s t slot g .stackWait

/-- A code address `n` instructions from one at `pc`. -/
def branchTo (pc : Nat) (n : Int) : Nat := ((pc : Int) + 8 * n).toNat

/-- Entries drop lanes that have exited (R155). -/
def dropLanes (m : W32) : MaskEntry → MaskEntry
  | .rejoin x a => .rejoin (x &&& ~~~m) a
  | .pend x a => .pend (x &&& ~~~m) a
  | .waiting x a b => .waiting (x &&& ~~~m) a b

/-- Lanes join the nearest rejoin entry (BRK). DESIGN CHOICE (assumption 108): with no rejoin entry on the stack they leave the mask and
join nothing. -/
def joinRejoin (m : W32) : List MaskEntry → List MaskEntry
  | [] => []
  | .rejoin x a :: r => .rejoin (x ||| m) a :: r
  | e :: r => e :: joinRejoin m r

/-- The topmost pending entry becomes the entry given; the pending entry is returned (R167). -/
def swapPending (w : MaskEntry) : List MaskEntry → Option (List MaskEntry × W32 × Nat)
  | [] => none
  | .pend m a :: r => some (w :: r, m, a)
  | e :: r =>
    match swapPending w r with
    | none => none
    | some (r', m, a) => some (e :: r', m, a)

/-- Every waiting entry of a barrier becomes a pending entry (R168). -/
def releaseBar (b : Nat) : List MaskEntry → List MaskEntry
  | [] => []
  | .waiting m a b' :: r => (if b' = b then .pend m a else .waiting m a b') :: releaseBar b r
  | e :: r => e :: releaseBar b r

/-- The lanes that wait at a group barrier. -/
def waitingLanes (b : Nat) : List MaskEntry → W32
  | [] => 0
  | .waiting m _ b' :: r => (if b' = b then m else 0) ||| waitingLanes b r
  | _ :: r => waitingLanes b r

/-! ## Reads of the focal store with their events (R290, R291) -/

/-- The events of a focal read of `n` words from a word address. -/
def noteFocal (s : State) (a : Nat) : Nat → State
  | 0 => s
  | n + 1 => noteFocal (noteRead s a) (a + 32) n

/-- A focal read of a tile: the bytes, whether a word is poisoned, and its events. -/
def focalRead (s : State) (t off n : Nat) : State × List Byte × Bool :=
  let a := focalAddr t off
  let r := readBytes s a n
  (noteFocal s (a / 32 * 32) ((a + n + 31) / 32 - a / 32), r.1, r.2.any id)

/-! ## Lane addresses (R156, R161, R183) -/

/-- Bytes of an access size code. -/
def sizeBytes (sz : Nat) : Nat := 2 ^ sz

/-- The address of a lane: base + index + offset, with whether a poisoned value forms it. -/
def laneAddr (g : Group) (f : MForm) (l : Nat) : Nat × Bool :=
  let b := sGet g f.sb.toNat
  let x := if f.vx then vGet g f.vi.toNat l else {}
  (((b.v.toNat : Int) + (x.v.toNat : Int) + f.off.toInt).toNat, b.poison || x.poison)

/-- The sum that an address is, before it is cut to a natural number. -/
def laneAddrNeg (g : Group) (f : MForm) (l : Nat) : Bool :=
  let b := sGet g f.sb.toNat
  let x := if f.vx then vGet g f.vi.toNat l else {}
  decide ((b.v.toNat : Int) + (x.v.toNat : Int) + f.off.toInt < 0)

/-- An access breaks R156: misaligned, outside its space, in a place that R202 names, or of a reserved space. The first byte of an
aligned access decides its place. -/
def badAddr (s : State) (space a n : Nat) : Bool :=
  a % n != 0 ||
  (if space = 0 then decide (0xE00000 < a + n)
   else if space = 1 then !((decide (a + n ≤ installed s) && (homeOf s a).isSome) || (scratchSlice s a).isSome)
   else true)

/-- The lowest active lane whose unpoisoned address breaks R156. -/
def firstBad (s : State) (g : Group) (f : MForm) (n : Nat) : Option Nat :=
  (activeLanes g).find? (fun l =>
    let a := laneAddr g f l
    !a.2 && (laneAddrNeg g f l || badAddr s f.space.toNat a.1 n))

/-- The active lanes that form their address from a poisoned value. -/
def poisonAddrs (g : Group) (f : MForm) : List Nat := (activeLanes g).filter (fun l => (laneAddr g f l).2)

/-- The finite monitors of a value that the lane unit stores (R106). DESIGN CHOICE (assumption 105): `word` marks the stores whose value
the monitors read as FP32, which are the 32-bit vector stores, whatever computed the value, the FP32 AADD and AMAX, and ACAS; stores
of bytes and half words, STS and the integer AADD and AMAX are not FP32 values and count nothing. -/
def countStore (s : State) (t : Nat) (d : List Byte) (word : Bool) : State :=
  let v : W32 := BitVec.ofNat 32 (leNat d)
  let s := if word && isNan (ofFp32 v) then incF s F.FIN_NAN_OUT_COUNT t 1 else s
  let s := if word && isInf (ofFp32 v) then incF s F.FIN_INF_OUT_COUNT t 1 else s
  if word && nonFinite v then setB s F.FIN_STEP_NONFINITE_ANY t true else s

/-- A focal store of the lane unit with the finite monitors of R106 and the consumption of R304. -/
def laneStore (s : State) (t off : Nat) (d : List Byte) (poison word : Bool) : State :=
  let s := countStore (focalWrite s (focalAddr t off) d [poison]) t d word
  let bad := word && nonFinite (BitVec.ofNat 32 (leNat d))
  let w := watchMeets s t off d.length
  let s := if bad && w then setB s F.FIN_STEP_NONFINITE_WATCHED t true else s
  if poison && w then
    consumePoison s (focalAddr t off) C.POISON_WATCHED_T t
  else s

/-! ## The lane data cache (R157) -/

/-- The set of a line of the lane data cache. -/
def lcSet (base : Nat) : Nat := base / 256 % 32

/-- A cached line. -/
def lcFind (l : LaneSt) (base : Nat) : Option LcLine := l.lines.find? (fun x => x.base == base)

/-- A line put first of its set; the least recently used line of a full set leaves. DESIGN CHOICE (assumption 109): the spec names no
replacement of the lane data cache. -/
def lcPut (l : LaneSt) (x : LcLine) : LaneSt :=
  let others := l.lines.filter (fun y => y.base != x.base)
  let same := others.filter (fun y => lcSet y.base == lcSet x.base)
  let drop : List Nat := (same.drop 7).map (fun (y : LcLine) => y.base)
  { l with lines := x :: others.filter (fun y => !(drop.contains y.base)) }

/-- A store updates a cached copy in its line (R157). -/
def lcStore (l : LaneSt) (a : Nat) (d : List Byte) (poison : Bool) : LaneSt :=
  { l with lines := l.lines.map (fun x =>
      if x.base = a / 256 * 256 then
        { x with data := mergeBytes x.data (a % 256) d, poison := x.poison.set (a % 256 / 32) (poison || (d.length != 32 && x.poison.getD (a % 256 / 32) false)) }
      else x) }

/-- Global transactions of a lane access. -/
def laneTxn (t band : Nat) (kind : TxnKind) (a n : Nat) (d : List Byte) (p : List Bool) (o : TxnOwner) : Txn :=
  { id := 0, cls := 1, inst := t, band := band, kind := kind, addr := a, len := n, data := d, poison := p, owner := o,
    offset := 0, born := 0, hinted := false, locked := false, last := false }

/-- A lane's transaction has lost arbitration with a hint above PEND_ETA: its group leaves the active set (R148). -/
def hintLane (s : State) (x : Txn) (eta : Nat) : State :=
  let leave (t slot : Nat) : State :=
    if getF s F.LANE_CFG_PEND_ETA t < eta then
      match getGroup s t slot with
      | some g => if g.active then leaveActive s t slot g g.wait else s
      | none => s
    else s
  match x.owner with
  | .laneStore t slot _ => leave t slot
  | .laneLoad t slot => leave t slot
  | _ => s

/-- The hint of a refused transaction reaches a lane unit (R148, R277). -/
def hintRefused (s : State) (id : Nat) : State :=
  match s.deep.refused.find? (fun r => r.txn.id == id) with
  | some r => hintLane s r.txn r.eta
  | none => s

/-- Requests of the lane unit, numbered and submitted; a hint of one that is refused at once reaches its group. -/
def submitLane (s : State) (xs : List Txn) : State :=
  xs.foldl (fun s x => hintRefused (submitNew s [x]) s.deep.nextTxn) s

/-- A global store of a lane: written through to its home slice with its bytes alone, cached copies updated (R157), and counted by the
finite monitors (R106). -/
def globalStore (s : State) (t slot : Nat) (g : Group) (a : Nat) (d : List Byte) (poison word : Bool) : State :=
  let s := countStore s t d word
  let band := match findTask s t g.task with
    | some x => x.band
    | none => 0
  let s := setLane s t (lcStore (getLane s t) a d poison)
  let s := match findTask s t g.task with
    | some x => putTask s t { x with stores := x.stores + 1 }
    | none => s
  submitLane s [laneTxn t band .write a d.length d [poison] (.laneStore t slot g.task)]

/-- The bytes of a lane's global load from cached or returned lines. -/
def fromLines (ls : List LcLine) (a n : Nat) : List Byte × Bool :=
  match ls.find? (fun x => x.base == a / 256 * 256) with
  | some x => ((x.data.drop (a % 256)).take n, x.poison.getD (a % 256 / 32) false)
  | none => (List.replicate n 0, true)

end Sys2Proof.Machine
end

