-- ==== Sys2Proof/Machine/Route.lean ====
section
/-!
DEFINITION. What waits for a commit point, or happens at once with no job or in HOLD: routes and port shutters (11, R331 to
R337), a step of device time (R340) and the copies of a channel's service shutter (08, R261).
-/
namespace Sys2Proof.Machine

/-! ## Ports and routes (R331, R335) -/

def getPort (s : State) (p : Nat) : PortSt := mget s.net.ports p {}
def setPort (s : State) (p : Nat) (x : PortSt) : State := { s with net := { s.net with ports := mput natLt s.net.ports p x {} } }

/-- The port is up. -/
def portUp (s : State) (p : Nat) : Bool := getF s F.PRT_STATUS_STATE p == 2

/-- The port sends and accepts frames: up, and secured when MACSEC is set (R342); in Parked links send no frames (R452). -/
def portReady (s : State) (p : Nat) : Bool := portUp s p && (p == 255 || devState s != 8) && (!getB s F.PRT_CFG_MACSEC p || (getPort s p).secured)

/-- An event of a port: captured with its stream and recorded. -/
def portEvent (s : State) (p : Nat) (c : FaultCode) (stream : Nat := 0) : State :=
  let s := if getB s F.PRT_CAPTURE_VALID p then s
    else setF (capture s F.PRT_CAPTURE_CODE F.PRT_CAPTURE_VALID p c) F.PRT_CAPTURE_STREAM p stream
  record s c p

/-- The route entry of a stream, or of a collective's peer. -/
def routeTo (s : State) (stream : Nat) (peer : Option Nat) : Option Route :=
  s.act.routes.find? (fun r => r.stream == stream && (match peer with | some d => r.peer == d | none => true))

/-- The route is on its alternate. -/
def detoured (s : State) (r : Route) : Bool := s.net.detours.contains (r.stream, r.peer)

/-- The port that a route uses now. -/
def portOf (s : State) (r : Route) : Nat := if detoured s r then r.alternate else r.primary

/-- DETOUR of each port: a route whose primary it is uses its alternate. -/
def postDetours (s : State) : State :=
  (s.act.routes.map (·.primary)).eraseDups.foldl (fun s p =>
    setB s F.PRT_STATUS_DETOUR p (s.act.routes.any (fun r => r.primary == p && detoured s r))) s

/-- Blocks of a route that its lost port still holds go to the alternate and are re-sent there (R335). -/
def moveBlocks (s : State) (r : Route) : State :=
  { s with net := { s.net with replay := s.net.replay.map (fun t =>
      if t.port = r.primary ∧ t.hdr.stream = r.stream ∧ t.hdr.dst = r.peer then { t with port := r.alternate, resend := t.sent.isSome }
      else t) } }

/-- A route whose primary is not up goes to its alternate. -/
def detour (s : State) (r : Route) : State :=
  if detoured s r || portUp s r.primary then s
  else moveBlocks { s with net := { s.net with detours := s.net.detours ++ [(r.stream, r.peer)] } } r

/-- Every route whose primary is not up goes to its alternate. -/
def moveRoutes (s : State) : State := postDetours (s.act.routes.foldl detour s)

/-- A route has a usable port. -/
def covered (s : State) (r : Route) : Bool := portUp s r.primary || portUp s r.alternate

/-- Every route of the image has a primary or an alternate port that is up (R333). -/
def routesCovered (s : State) : Bool := s.act.routes.all (covered s)

/-- Routes whose primary has been up for 1 s and matches its neighbour return to it, at a commit point (R336). -/
def returnRoutes (s : State) : State :=
  let back (r : Route) : Bool :=
    let x := getPort s r.primary
    portUp s r.primary && x.lldpOk && (match x.upSince with | some t => decide (t + 1000000000 ≤ elapsedNs s) | none => false)
  let home := (s.act.routes.filter back).map (fun r => (r.stream, r.peer))
  postDetours { s with net := { s.net with detours := s.net.detours.filter (fun d => !home.contains d) } }

/-- A port is shuttered (R337): its routes use their alternates. -/
def shutterPort (s : State) (p : Nat) : State :=
  let s := setPort s p { getPort s p with shutterDue := false, upSince := none }
  moveRoutes (setB (setF s F.PRT_STATUS_STATE p 5) F.FLT_SHUT_PORT p true)

/-- The port shutters that wait for a commit point. -/
def shutterPorts (s : State) : State :=
  (s.net.ports.filter (fun e => e.2.shutterDue)).foldl (fun s e => shutterPort s e.1) s

/-! ## Gate control (R321) -/

/-- The gate list of a port. -/
def gatesFor (s : State) (p : Nat) : List Nat :=
  match s.act.gates.find? (fun g => g.1 == p) with
  | some g => g.2
  | none => []

/-- Time in ns from a moment `t` of the current entry's interval for which a class stays open, up to `need`. -/
def openFor (gs : List Nat) (cls i t need : Nat) : Nat → Bool
  | 0 => true
  | n + 1 =>
    let g := gs.getD (i % gs.length) 0
    if bit g cls = false then false
    else if need ≤ g / 256 - t then true
    else openFor gs cls (i + 1) 0 (need - (g / 256 - t)) n

/-- The time of a frame on a port's wire, in ns. -/
def wireNs (s : State) (p bytes : Nat) : Nat := ceilDiv (bytes * 8) (400 * 2 ^ (if p = 255 then 1 else getF s F.PRT_STATUS_WIDTH_UP p))

/-- A frame of a class may be sent now: it ends before its class's gate closes. -/
def gateOpen (s : State) (p cls bytes : Nat) : Bool :=
  let gs := gatesFor s p
  let x := getPort s p
  gs.isEmpty || openFor gs cls x.gate (nowNs s - x.gateStart) (wireNs s p bytes) 130

/-- A frame leaves. -/
def emit (s : State) (f : OutFrame) : State := { s with net := { s.net with out := s.net.out ++ [f] } }

/-- A frame waits in its pier while its class's gate at its egress port is closed, behind the frames of its class that wait there
already (R321). -/
def gateSend (s : State) (g : GatedFrame) : State :=
  if gateOpen s g.port g.frame.pcp (g.frame.len + 20) && !s.net.gated.any (fun x => x.port == g.port && x.frame.pcp == g.frame.pcp) then
    emit s (.forward g.port g.frame g.invert)
  else { s with net := { s.net with gated := s.net.gated ++ [g] } }

/-- The frames that wait at a port, tried again in their order. -/
def sendGated (s : State) (p : Nat) : State :=
  (s.net.gated.filter (fun g => g.port == p)).foldl gateSend
    { s with net := { s.net with gated := s.net.gated.filter (fun g => g.port != p) } }

/-- Every gate list starts from entry 0, at an epoch mark (R321). -/
def restartGates (s : State) : State :=
  let ports : NMap PortSt := s.net.ports.map (fun (e : Nat × PortSt) => (e.1, { e.2 with gate := 0, gateStart := nowNs s }))
  let s : State := { s with net := { s.net with ports := ports } }
  (s.net.gated.map (·.port)).eraseDups.foldl sendGated s

/-! ## Fault windows of the arrays (R78) -/

/-- The window length in use in ns (R82). -/
def windowNs (s : State) (t : Nat) : Nat :=
  match getF s F.ARR_CFG_WINDOW t with
  | 1 => 100000000
  | 2 => 10000000000
  | _ => 1000000000

/-- The fault window in which device time stands. -/
def windowAt (s : State) (t : Nat) : Nat := nowNs s / windowNs s t

/-- A fault window begins, with no fault counted in it. -/
def openWindow (s : State) (t : Nat) : State :=
  setF (setArr s t { getArr s t with window := windowAt s t }) F.ARR_FAULTS_IN_WINDOW t 0

/-- A window that device time has left gives way to the one in which it stands. -/
def syncWindow (s : State) (t : Nat) : State := if (getArr s t).window = windowAt s t then s else openWindow s t

/-! ## Device time (R340) -/

/-- Device time moved by a signed number of units of 1/217 ns. -/
def shiftTime (s : State) (d : Int) : State := { s with clk := { s.clk with dev := ((s.clk.dev : Int) + d).toNat } }

/-- A step of device time that waits for the end of COMMIT (R340). -/
def stepTime (s : State) : State :=
  match s.net.ptpDue with
  | some o => (List.range 512).foldl syncWindow (shiftTime { s with net := { s.net with ptpDue := none } } (-(o * 217)))
  | none => s

/-! ## Copies of a channel (R261) -/

/-- A copy of a service shutter (`true`) or a reopen (`false`) begins (R261, R266). -/
def startCopy (s : State) (c : Nat) (shut : Bool) : State :=
  let s := stopLamp s c
  setF (setChan s c { getChan s c with copy := some shut, due := none }) F.MCH_STATUS_STATE c 5

/-- The copies that wait for this COMMIT begin at the end of its work (R261). -/
def startCopies (s : State) : State :=
  s.deep.chans.foldl (fun s e => match e.2.due with
    | some shut => startCopy s e.1 shut
    | none => s) s

/-- With no job, or in HOLD, no commit point comes: what waits for one acts now (R261, R337). -/
def atRest (s : State) : State := startCopies (shutterPorts (stepTime s))

end Sys2Proof.Machine
end

