-- ==== Sys2Proof/Machine/MerOps.lean ====
section
/-!
DEFINITION. Operations of the meridian (12): vote frames, the rounds of a vote, the decision and its actions, snapshots and
copy-on-write, the record page, rollback, and the end of a job.
-/
namespace Sys2Proof.Machine

/-! ## Vote frames (R379) -/

/-- Bytes 0 to 55 of a vote frame. -/
def voteHead (v : VoteFrame) : List Byte :=
  leBytes v.version 1 ++ leBytes v.type 1 ++ leBytes v.level 1 ++ leBytes v.flags 1 ++ leBytes v.job 4 ++ leBytes v.step 8 ++
    leBytes v.attempt 2 ++ leBytes v.sender 2 ++ leBytes v.verdict 4 ++ leBytes v.covered 4 ++ leBytes v.missing 2 ++
    leBytes v.firstMissing 2 ++ leBytes v.mark 8 ++ leBytes v.ckpt 8 ++ leBytes 0 8

/-- A vote frame with the CRC its fields give. -/
def sealVote (v : VoteFrame) : VoteFrame := { v with crc := crc32c (voteHead v) }

/-- No checkpoint (Table: Vote frame, CKPT). -/
def noCkpt : Nat := 2 ^ 64 - 1

/-- The step counter. -/
def stepNow (s : State) : Nat := getF s F.MER_STEP_STEP 0

/-- The actions (Table: Actions). -/
def aCommit : Nat := 0
def aSkip : Nat := 1
def aSkipHalve : Nat := 2
def aReplay : Nat := 3
def aRollback : Nat := 4
def aSpare : Nat := 5
def aHalt : Nat := 6

/-- POLICY of a verdict word. -/
def policyOf (w : Nat) : Nat := bits w 8 3

/-- A frame that this device forms for its own step. -/
def mkVote (s : State) (type flags verdict covered missing first mark ckpt : Nat) : VoteFrame :=
  sealVote { version := 1, type := type, level := getF s F.MER_PHASE_LEVEL 0, flags := flags, job := s.act.job,
             step := s.mer.vstep, attempt := s.mer.attempt, sender := s.act.index, verdict := verdict,
             covered := covered, missing := min missing 65535, firstMissing := first, mark := mark, ckpt := ckpt, crc := 0 }

/-- A frame leaves by the port of a tree node. -/
def sendVote (s : State) (n : TreeNode) (v : VoteFrame) : State :=
  { s with net := { s.net with out := s.net.out ++ [.vote n.port n.mac v] } }

/-- A frame to every child. -/
def sendDown (s : State) (v : VoteFrame) : State := s.act.children.foldl (fun s n => sendVote s n v) s

/-- A frame to the parent. -/
def sendUp (s : State) (v : VoteFrame) : State :=
  match s.act.parent with
  | some p => sendVote s p v
  | none => s

/-- The checks of R379 on a frame that arrives where a type is expected. -/
def voteOk (s : State) (type : Nat) (v : VoteFrame) : Bool :=
  v.version == 1 && v.type == type && v.job == s.act.job && v.crc == crc32c (voteHead v) && policyOf v.verdict != 7 &&
    !bit v.verdict 7 && decide (v.verdict < 2 ^ 11)

/-- The tree node of a job-wide index: a child or the parent. -/
def nodeAt (s : State) (i : Nat) : Option TreeNode :=
  match s.act.children.find? (fun c => c.index == i) with
  | some c => some c
  | none =>
    match s.act.parent with
    | some p => if p.index = i then some p else none
    | none => none

/-- A frame dropped under R379 counts in PRT_DROP of the port that the image gives its sender; one from no node of the tree counts at no
port, since the command names none (DESIGN CHOICE, assumption 116). -/
def dropVote (s : State) (v : VoteFrame) : State :=
  match nodeAt s v.sender with
  | some n => incF s F.PRT_DROP_COUNT n.port 1
  | none => s

/-- This device is the root (R372). -/
def isRoot (s : State) : Bool := s.act.parent.isNone

/-- The frame belongs to the step and attempt under vote. -/
def sameRound (s : State) (v : VoteFrame) : Bool := v.step == s.mer.vstep && v.attempt == s.mer.attempt

/-- The step and attempt that the rounds to come vote on; the decisions held answer repeats of the rounds before (R376). -/
def enterRounds (s : State) : State :=
  { s with mer := { s.mer with
    vstep := stepNow s, attempt := getF s F.MER_ATTEMPT_ATTEMPT 0
    lastDown := s.mer.down <|> s.mer.lastDown, lastClose := s.mer.closeDown <|> s.mer.lastClose } }

/-! ## The verdict word (R367 to R371) -/

/-- Bits [6:0] of the device's word. -/
def verdictBits (s : State) : Nat :=
  (s.mer.verdict &&& 31) + (if s.mer.intact then 32 else 0) + (if s.mer.remains then 64 else 0)

/-- The action that the policy gives for the reasons present in a word (R371). -/
def policyFor (s : State) (w : Nat) : Nat :=
  let pick (b : Nat) (f : Field) : Nat := if bit w b then 0 else getF s f 0
  [pick 2 F.MER_POLICY_LATE, pick 0 F.MER_POLICY_NONFINITE, pick 1 F.MER_POLICY_POISON, pick 3 F.MER_POLICY_SHUTTER,
   pick 4 F.MER_POLICY_FAULT, pick 5 F.MER_POLICY_DAMAGE, pick 6 F.MER_POLICY_DEPART].foldl max 0

/-- A non-finite value was seen in a watched range of an array or in a co-add (R107). -/
def nonfiniteSeen (s : State) : Bool :=
  s.sys.regs.any (fun e => (e.1.1 == F.FIN_STEP_NONFINITE_WATCHED.id || e.1.1 == F.SLC_FIN_NONFINITE_COADD.id) && e.2 != 0)

/-! ## The record page (R361, R384) and copy-on-write (R351) -/

/-- Loss scale 2^e as FP32. -/
def fp32Pow (e : Int) : Nat := ((e + 127).toNat) * 2 ^ 23

/-- The loss-scale exponent as a signed number. -/
def lossExp (s : State) : Int := (BitVec.ofNat 8 (getF s F.MER_LSCALE_EXP 0)).toInt

/-- A signed byte field. -/
def sByte (n : Nat) : Int := (BitVec.ofNat 8 n).toInt

/-- Table: Record page. -/
def recordBytes (s : State) : List Byte :=
  let e := lossExp s
  leBytes (stepNow s) 8 ++ leBytes (getF s F.MER_CURSOR0_VALUE 0) 4 ++ leBytes (getF s F.MER_CURSOR1_VALUE 0) 4 ++
    leBytes (getF s F.MER_CURSOR2_VALUE 0) 4 ++ leBytes (BitVec.ofInt 32 e).toNat 4 ++ leBytes (fp32Pow e) 4 ++
    leBytes (fp32Pow (-e)) 4 ++ leBytes (getF s F.MER_LSCALE_RUN 0) 4 ++ List.replicate 4060 0

/-- A snapshot shares the current version of a page. -/
def sharesPage (page : Nat) : Option Snapshot → Bool
  | none => false
  | some x => !x.old.any (fun o => o.1 == page)

/-- The first write after a snapshot to a committed page copies its old version, read by the checkpoint engine (R351). -/
def cowPage (s : State) (page : Nat) : State :=
  if sharesPage page s.net.named || sharesPage page s.net.newer then
    let r := engineGet s (4096 * page) 4096
    let keep (o : Option Snapshot) : Option Snapshot :=
      if sharesPage page o then o.map (fun x => { x with old := x.old ++ [(page, r.2.1, r.2.2)] }) else o
    { r.1 with net := { r.1.net with named := keep r.1.net.named, newer := keep r.1.net.newer } }
  else s

/-- A page written whole by the sequencer or the checkpoint engine. -/
def writePage (s : State) (page : Nat) (d : List Byte) (ps : List Bool) : State := enginePut s (4096 * page) d ps

/-- The sequencer writes the meridian record into the record page (R361). -/
def writeRecord (s : State) : State :=
  let p := getF s F.MER_RECORD_PG_PAGE 0
  writePage (cowPage s p) p (recordBytes s) []

/-- The meridian record taken from the bytes of a record page (R387). -/
def loadRecord (s : State) (b : List Byte) : State :=
  let s := setF s F.MER_STEP_STEP 0 (fld b 0 8)
  let s := setF s F.MER_CURSOR0_VALUE 0 (fld b 8 4)
  let s := setF s F.MER_CURSOR1_VALUE 0 (fld b 12 4)
  let s := setF s F.MER_CURSOR2_VALUE 0 (fld b 16 4)
  let s := setF s F.MER_LSCALE_EXP 0 (fld b 20 4 % 256)
  setF s F.MER_LSCALE_RUN 0 (fld b 32 4)

/-! ## The data cursor (R347, R348) -/

/-- The swap index of the shuffle at position `k` (R347). -/
def shuffleDraw (seed e k : Nat) : Nat :=
  (philox seed k e 0 0).1 * (k + 1) / 2 ^ 32

/-- Fisher–Yates from position `k` down to 1. -/
def shuffleFrom (seed e : Nat) (l : List Nat) : Nat → List Nat
  | 0 => l
  | k + 1 =>
    let j := shuffleDraw seed e (k + 1)
    let x := l.getD (k + 1) 0
    let y := l.getD j 0
    shuffleFrom seed e ((l.set (k + 1) y).set j x) k

/-- The shards that the device's role reads in a data epoch, in order. -/
def roleShards (d : Dataset) (e : Nat) : List Nat :=
  let l := shuffleFrom d.seed e (List.range d.shards) (d.shards - 1)
  ((l.zipIdx).filter (fun x => x.2 % d.d == d.role)).map (·.1)

/-- The number of shards that a role reads. -/
def roleCount (d : Dataset) : Nat := (d.shards + d.d - 1 - d.role) / d.d

/-- The cursor after one record. -/
def nextRecord (d : Dataset) (c : Nat × Nat × Nat) : Nat × Nat × Nat :=
  if c.2.2 + 1 < d.records then (c.1, c.2.1, c.2.2 + 1)
  else if c.2.1 + 1 < roleCount d then (c.1, c.2.1 + 1, 0)
  else (c.1 + 1, 0, 0)

/-- The cursor after `n` records. -/
def afterRecords (d : Dataset) (c : Nat × Nat × Nat) : Nat → Nat × Nat × Nat
  | 0 => c
  | n + 1 => afterRecords d (nextRecord d c) n

/-- The cursor past the batch of the step. -/
def passBatch (s : State) : State :=
  match s.act.dataset with
  | none => s
  | some d =>
    let c := afterRecords d (getF s F.MER_CURSOR0_VALUE 0, getF s F.MER_CURSOR1_VALUE 0, getF s F.MER_CURSOR2_VALUE 0) d.batch
    setF (setF (setF s F.MER_CURSOR0_VALUE 0 c.1) F.MER_CURSOR1_VALUE 0 c.2.1) F.MER_CURSOR2_VALUE 0 c.2.2

/-- Batches that the ring still holds: a slot is refilled after its step and four more have closed (R348). -/
def ringKeeps (s : State) : State :=
  let n := stepNow s
  { s with net := { s.net with loader := { s.net.loader with staged := s.net.loader.staged.filter (fun k => decide (n ≤ k + 4)) } } }

/-- The batch of the step to run next is staged, or the image has no dataset. -/
def batchStaged (s : State) (n : Nat) : Bool := s.act.dataset.isNone || s.net.loader.staged.contains n

/-- The loader begins again at the cursor (R387): batches still in the ring from the restored step are reused. -/
def restage (s : State) : State :=
  let l := s.net.loader
  let n := stepNow s
  let kept := l.staged.filter (fun k => decide (n ≤ k))
  let next := kept.foldl (fun m k => if k = m then m + 1 else m) n
  match s.act.dataset with
  | none => s
  | some d =>
    let c := afterRecords d (getF s F.MER_CURSOR0_VALUE 0, getF s F.MER_CURSOR1_VALUE 0, getF s F.MER_CURSOR2_VALUE 0)
      (d.batch * (next - n))
    { s with net := { s.net with loader := { l with epoch := c.1, pos := c.2.1, record := c.2.2, step := next, count := 0, staged := kept } } }

/-! ## Result slots (R438) -/

/-- The slot of a step. -/
def slotOf (s : State) (n : Nat) : Slot := mget s.mcc.slots (n % 256) {}

/-- A slot replaced. -/
def putSlot (s : State) (n : Nat) (x : Slot) : State :=
  { s with mcc := { s.mcc with slots := mput natLt s.mcc.slots (n % 256) x {} } }

/-- The slot of the step returns to what it was before the segment (R438). -/
def restoreSlot (s : State) : State :=
  let x := slotOf s (stepNow s)
  if x.state = 1 ∧ x.step = stepNow s then putSlot s (stepNow s) s.mcc.before else s

/-- The result pages of the step are copied to its slot and the slot is sealed (R438); `n` is the step that committed. -/
def sealSlot (s : State) (n word : Nat) : State :=
  let x := slotOf s n
  if x.state = 1 ∧ x.step = n then
    let k := getF s F.RES_PAGES_PAGES 0
    let r := engineGet s (4096 * getF s F.RES_SRC_PAGE 0) (4096 * k)
    let s := enginePut r.1 (4096 * (getF s F.RES_STORE_PAGE 0 + n % 256 * k)) r.2.1 r.2.2
    let q := getF s F.RES_SEAL_SEQ_SEQ 0 + 1
    let s := setF s F.RES_SEAL_SEQ_SEQ 0 q
    putSlot s n { state := 2, step := n, sealSeq := q % 2 ^ 32, word := word, time := nowNs s, exp := (BitVec.ofInt 32 (lossExp s)).toNat }
  else s

/-! ## Holding and leaving -/

/-- Every logical tile that is ON moves to RETAIN (R468). -/
def retainTiles (s : State) : State :=
  { s with pwr := { s.pwr with tiles := s.pwr.tiles.map (fun e => if e.2.state = 2 then (e.1, { e.2 with state := 1 }) else e) } }

/-- The job has ended: no phase, the gate closed, nothing due. -/
def endJob (s : State) : State :=
  let s := setF (setF s F.MER_PHASE_PHASE 0 0) F.MER_PHASE_GATE 0 0
  atRest { s with
           eph := { s.eph with inSegment := false, nextMark := none, causes := [], stallStart := none, stallLeaving := false }
           mcc := { s.mcc with job := none, stopStep := none, work := s.mcc.work.filter (fun o => o != 0x40) }
           mer := { s.mer with working := false, closeDue := false, entry := none } }

/-- The device enters HOLD (R389, R468); a pending JOB_STOP ends the job at once (R440), and a cleared REMAINS or a
DEVICE fault leads to Parked at once (R370). -/
def enterHold (s : State) : State :=
  let s := setF (setF s F.MER_PHASE_PHASE 0 6) F.MER_PHASE_GATE 0 0
  let s := { s with mer := { s.mer with working := false, closeDue := false, entry := none, rolling := none } }
  let s := if s.mcc.stopStep.isSome then endJob s else atRest (retainTiles s)
  if s.mer.remains then s else enterParked s

/-- The safe point of R370: a device whose own REMAINS is cleared goes to Parked once its frame is sent. -/
def safePoint (s : State) : State := if s.mer.remains then s else enterParked s

/-- Outstanding transfers, fragments and held blocks of the segment are discarded and lane tasks stop (R131, R141, R239). -/
def discardWork (s : State) : State :=
  let s := (s.lane.tiles.map (·.1)).foldl abortTile s
  let own (o : TxnOwner) : Bool := match o with
    | .xfer _ => true
    | _ => false
  let keep (q : ReqQueue) : ReqQueue :=
    { q with queue := q.queue.filter (fun x => !own x.owner), granted := q.granted.filter (fun x => !own x.owner) }
  let slices := s.deep.slices.map (fun e => (e.1, { e.2 with
    rq := keep e.2.rq
    window := []
    pendingMiss := e.2.pendingMiss.filter (fun x => !own x.txn.owner)
    ovf := e.2.ovf.map (fun o => { o with behind := o.behind.filter (fun x => !own x.owner) }) }))
  let chans := s.deep.chans.map (fun e => (e.1, { e.2 with rq := keep e.2.rq }))
  let s := (s.arr.map (·.1)).foldl dropArray (setF s F.SEG_CYCLE_CYCLE 0 (segCycle s))
  { s with
      eph := { s.eph with
        xfers := [], causes := [], stallStart := none, stallLeaving := false, inSegment := false
        tiles := s.eph.tiles.map (fun e => (e.1, { e.2 with queue := [], unretired := [], tokens := [], heldArray := none, refetch := none })) }
      deep := { s.deep with
        slices := slices, chans := chans, frags := []
        heldReq := s.deep.heldReq.filter (fun x => !own x.owner)
        refused := s.deep.refused.filter (fun x => !own x.txn.owner)
        done := s.deep.done.filter (fun e => !own e.1.owner)
        outstanding := s.deep.outstanding.filter (fun e => decide (512 ≤ e.1.1)) }
      net := { s.net with held := [], recv := [], colls := [], replay := [], txq := [] } }

/-! ## Rollback (R387, R388) -/

/-- A job-wide completed checkpoint is named. -/
def hasCkpt (s : State) : Bool := getF s F.MER_CKPT_STEP 0 != noCkpt

/-- A rollback starts: the gate enters RESTORE and the checkpoint engine works; without a named checkpoint the device
keeps its state, records CKPT_UNREADABLE and enters HOLD (R387). -/
def startRollback (s : State) : State :=
  let s := restoreSlot s
  if hasCkpt s then
    let s := setF s F.MER_PHASE_GATE 0 2
    { s with mer := { s.mer with rolling := some (getF s F.MER_CKPT_STEP 0), working := true } }
  else enterHold (record s C.CKPT_UNREADABLE 0)

/-! ## The decision (R375, R380, R383 to R385) -/

/-- What a tally of verdicts holds: bits, policy, members covered and missing, the first missing and the checkpoint. -/
structure Tally where
  word : Nat
  policy : Nat
  covered : Nat
  missing : Nat
  first : Nat
  ckpt : Nat
  deriving DecidableEq, Repr

/-- No checkpoint ranks below every step in the minimum of R377 (assumption 40). -/
def minCkpt (a b : Nat) : Nat := if a = noCkpt ∨ b = noCkpt then noCkpt else min a b

/-- A child's frame joins a tally. -/
def addFrame (t : Tally) (v : VoteFrame) : Tally :=
  { word := t.word &&& (v.verdict % 128), policy := max t.policy (policyOf v.verdict), covered := t.covered + v.covered,
    missing := t.missing + v.missing, first := if v.missing = 0 then t.first else min t.first v.firstMissing,
    ckpt := minCkpt t.ckpt v.ckpt }

/-- A child counted missing joins a tally with its subtree (R374). -/
def addMissing (t : Tally) (n : TreeNode) : Tally :=
  { t with missing := t.missing + n.members, first := min t.first n.index }

/-- The tally of the verdict round at this node. -/
def tally (s : State) : Tally :=
  let w := verdictBits s
  let t : Tally := ⟨w, policyFor s w, 1, 0, 65535, 0⟩
  let t := s.mer.ups.foldl addFrame t
  (s.act.children.filter (fun c => s.mer.gone.contains c.index)).foldl addMissing t

/-- Every child has reported or is counted missing. -/
def allUp (s : State) : Bool :=
  s.act.children.all (fun c => s.mer.gone.contains c.index || s.mer.ups.any (fun v => v.sender == c.index))

/-- Escalation and the floor of the loss scale at the root (R383, R384), and the want of a checkpoint (R387). -/
def rootDecision (s : State) (p : Nat) : State × Nat :=
  let limit := if getF s F.MER_POLICY_REPLAY_LIMIT 0 = 0 then 3 else getF s F.MER_POLICY_REPLAY_LIMIT 0
  let r : State × Nat :=
    if p = aReplay ∧ limit ≤ getF s F.MER_ATTEMPT_ATTEMPT 0 then
      let s := record s C.REPLAY_LIMIT 0
      if getF s F.MER_POLICY_ESCALATE 0 = aRollback ∧ s.mer.escalated.contains (stepNow s) = false then
        ({ s with mer := { s.mer with escalated := stepNow s :: s.mer.escalated } }, aRollback)
      else (s, aHalt)
    else if p = aSkipHalve ∧ lossExp s ≤ sByte (getF s F.MER_LSCFG_LS_MIN 0) then (record s C.LOSS_SCALE_FLOOR 0, aHalt)
    else (s, p)
  if (r.2 = aRollback ∨ r.2 = aSpare) ∧ hasCkpt r.1 = false then (r.1, aHalt) else r

/-- The record after a commit (R384). -/
def growScale (s : State) : State :=
  let run := getF s F.MER_LSCALE_RUN 0 + 1
  let g := getF s F.MER_LSCFG_LS_GROWTH 0
  if g ≠ 0 ∧ g ≤ run then
    let e := min (lossExp s + 1) (sByte (getF s F.MER_LSCFG_LS_MAX 0))
    setF (setF s F.MER_LSCALE_RUN 0 0) F.MER_LSCALE_EXP 0 (BitVec.ofInt 8 (max e (lossExp s))).toNat
  else setF s F.MER_LSCALE_RUN 0 run

/-- A step closes: the counter advances, the cursor passes the batch and the attempts begin again (R360, R371). -/
def closeStep (s : State) : State :=
  let s := passBatch s
  let s := setF s F.MER_STEP_STEP 0 (stepNow s + 1)
  ringKeeps (setF s F.MER_ATTEMPT_ATTEMPT 0 0)

/-- Update engines begin with the whole update table, then the commit tasks follow (R380). -/
def launchCommitTasks (s : State) : State :=
  let s := { s with mer := { s.mer with tasksDue := false } }
  s.act.commitTasks.foldl (fun s x => launchTask s x.tile x.task x.groups x.band 0 0 true) s

/-- The COMMIT work starts (R380, steps 1 to 4). -/
def startCommit (s : State) : State :=
  let s := setF (setF s F.MER_PHASE_PHASE 0 4) F.MER_PHASE_GATE 0 1
  let k := s.act.ckptInterval
  let due := decide (k ≠ 0) && decide (stepNow s % (max k 1) = 0)
  let es := List.range s.act.upd.length
  let s := { s with mer := { s.mer with
    working := true, workStart := elapsedNs s, lateRec := false, entries := es
    tasksDue := true, commitFault := false, snapDue := due } }
  if es.isEmpty then launchCommitTasks s else s

/-- The decision of a DOWN or CLOSE_DOWN frame acts on the device (R371, R375). -/
def actOn (s : State) (p : Nat) : State :=
  let s := { s with mer := { s.mer with decision := p } }
  if p = aCommit then startCommit (incF s F.MER_COMMITS_COUNT 0 1)
  else if p = aSkip ∨ p = aSkipHalve then
    let s := setF (incF s F.MER_SKIPS_COUNT 0 1) F.MER_PHASE_PHASE 0 5
    let s := closeStep (restoreSlot s)
    let s := setF s F.MER_LSCALE_RUN 0 0
    let s := if p = aSkipHalve then setF s F.MER_LSCALE_EXP 0 (BitVec.ofInt 8 (lossExp s - 1)).toNat else s
    let s := writeRecord s
    { s with mer := { s.mer with working := true, workStart := elapsedNs s } }
  else if p = aReplay then
    let s := setF (incF s F.MER_REPLAYS_COUNT 0 1) F.MER_PHASE_PHASE 0 5
    let s := restoreSlot s
    let s := setF s F.MER_ATTEMPT_ATTEMPT 0 (getF s F.MER_ATTEMPT_ATTEMPT 0 + 1)
    { s with mer := { s.mer with working := true, workStart := elapsedNs s } }
  else if p = aRollback ∨ p = aSpare then
    startRollback (setF (incF s F.MER_ROLLBACKS_COUNT 0 1) F.MER_PHASE_PHASE 0 5)
  else enterHold (restoreSlot s)

/-- The verdict round ends at this device: the result registers, the replay buffers freed (R328), and the decision. -/
def endRound (s : State) (v : VoteFrame) : State :=
  let s := setF s F.MER_RESULT_WORD 0 v.verdict
  let s := setF s F.MER_COVERED_COVERED 0 v.covered
  let s := setF (setF s F.MER_MISSING_FIRST 0 v.firstMissing) F.MER_MISSING_COUNT 0 v.missing
  let s := match s.mer.entry with
    | some e => setF s F.MER_VOTE_TIME_TIME 0 (min ((elapsedNs s - e) / 10) (2 ^ 32 - 1))
    | none => s
  let s := { s with net := { s.net with replay := [], txq := [] }, mer := { s.mer with down := some v, ups := [], gone := [], entry := none } }
  actOn s (policyOf v.verdict)

/-- The root decides, sends DOWN to every child and acts (R375). -/
def rootDecides (s : State) : State :=
  let t := tally s
  let p := if t.missing = 0 then t.policy else max t.policy aSpare
  let r := rootDecision s p
  let s := r.1
  let v := mkVote s 1 0 (t.word + 256 * r.2) s.act.n t.missing (if t.missing = 0 then 0 else t.first) 0 0
  let remains := s.mer.remains
  let s := endRound (sendDown s v) v
  if remains then s else enterParked s

/-- The node passes its tally up, or decides at the root (R373, R375). -/
def passUp (s : State) : State :=
  if phase s = 3 ∧ s.mer.up = none ∧ s.mer.down = none ∧ allUp s then
    if isRoot s then rootDecides s
    else
      let t := tally s
      let v := mkVote s 0 0 (t.word + 256 * t.policy) t.covered t.missing (if t.missing = 0 then 0 else t.first) 0 0
      let s := { sendUp s v with mer := { s.mer with up := some v, upAt := elapsedNs s, upFirst := elapsedNs s } }
      safePoint s
  else s

/-- VOTE is entered (R366, R368): LOADER_LATE belongs to the step (R349); the verdict word is formed. -/
def enterVote (s : State) : State :=
  let s := if batchStaged s (stepNow s + 1) then s else record s C.LOADER_LATE 0
  let s := if nonfiniteSeen s then clearVerdict s vFinite else s
  let s := setF s F.MER_PHASE_PHASE 0 3
  let w := verdictBits s
  let s := setF s F.MER_VERDICT_WORD 0 (w + 256 * policyFor s w)
  let s := { s with eph := { s.eph with inSegment := false, abandoned := false }
                    mer := { s.mer with entry := some (elapsedNs s), up := none, down := none, closeDown := none, closeUp := none } }
  passUp s

/-- The segment is abandoned and the device enters VOTE (R131, R141). -/
def abandonSegment (s : State) : State := enterVote (discardWork s)

/-! ## The close round (R377) -/

/-- The step of the newest snapshot whose write has completed (R377). -/
def newestDone (s : State) : Nat :=
  match s.net.newer with
  | some x => if x.done then x.step else match s.net.named with
    | some y => y.step
    | none => noCkpt
  | none => match s.net.named with
    | some y => y.step
    | none => noCkpt

/-- The tally of the close round. -/
def closeTally (s : State) : Tally :=
  s.mer.closeUps.foldl addFrame ⟨if s.mer.remains then 64 else 0, 0, 1, 0, 65535, newestDone s⟩

/-- Every child has closed. -/
def allClosed (s : State) : Bool := s.act.children.all (fun c => s.mer.closeUps.any (fun v => v.sender == c.index))

/-- The first grid instant at or after a device time (R132). -/
def gridAfter (s : State) (t : Nat) : Nat :=
  let b := getF s F.EPOCH_BASE_TIME 0
  let p := max (getF s F.EPOCH_PERIOD_PERIOD 0) 1
  if t ≤ b then 0 else ceilDiv (t - b) p

/-- The device time of a grid instant. -/
def gridTime (s : State) (j : Nat) : Nat := getF s F.EPOCH_BASE_TIME 0 + j * getF s F.EPOCH_PERIOD_PERIOD 0

/-- A checkpoint is named job-wide (R352, R386). -/
def nameCkpt (s : State) (c : Nat) : State :=
  let s := setF s F.MER_CKPT_STEP 0 c
  if c = noCkpt then s
  else
    match s.net.newer with
    | some x =>
      if x.step = c then { s with net := { s.net with named := some x, newer := none } }
      else if (s.net.named.map (·.step)) = some c then s else record s C.CKPT_MISMATCH 0
    | none => if (s.net.named.map (·.step)) = some c then s else record s C.CKPT_MISMATCH 0

/-- A snapshot whose write ended without its header is written again after the next CLOSE_DOWN (R352). -/
def rewriteSnapshot (s : State) : State :=
  match s.net.newer with
  | some x =>
    if x.failed then { s with net := { s.net with newer := some { x with failed := false, writing := true, target := x.target + 1 } } }
    else s
  | none => s

/-- The close round ends with a mark, or with a decision that every device acts on (R377). -/
def endClose (s : State) (v : VoteFrame) : State :=
  let s := { s with mer := { s.mer with closeDown := some v, closeUps := [], resume := false } }
  let s := rewriteSnapshot (nameCkpt s v.ckpt)
  let p := policyOf v.verdict
  if p = aSpare ∨ p = aHalt then actOn (setF s F.MER_RESULT_WORD 0 v.verdict) p
  else
    let s := if phase s = 6 then setF s F.MER_PHASE_PHASE 0 5 else s
    { s with eph := { s.eph with nextMark := some v.mark } }

/-- The root names the mark and the checkpoint, or decides SPARE (R377). -/
def closeRoot (s : State) : State :=
  let t := closeTally s
  let flags := s.mer.resume.toNat
  let remains := s.mer.remains
  let s' :=
    if bit t.word 6 then
      let j := gridAfter s (nowNs s + 2 * 100 * getF s F.MER_TIMEOUT_VOTE_HOP 0 * getF s F.MER_PHASE_LEVEL 0)
      let v := mkVote s 3 flags t.word s.act.n 0 0 j t.ckpt
      endClose (sendDown s v) v
    else
      let s := setF s F.MER_CKPT_STEP 0 t.ckpt
      let p := if t.ckpt = noCkpt then aHalt else aSpare
      let v := mkVote s 3 flags (t.word + 256 * p) s.act.n 0 0 0 t.ckpt
      endClose (sendDown s v) v
  if remains then s' else enterParked s'

/-- The job ends here when its STOP_STEP has been reached (R435). -/
def stopHere (s : State) : State :=
  match s.mcc.stopStep with
  | some n => if n ≤ stepNow s then endJob s else s
  | none => s

/-- The node's own CLOSE_UP is ready: it goes up once every child has closed; the root ends the round. -/
def passClose (s : State) : State :=
  if s.mer.closeDue ∧ allClosed s then
    let s := { s with mer := { s.mer with closeDue := false } }
    if isRoot s then stopHere (closeRoot s)
    else
      let t := closeTally s
      let v := mkVote s 2 s.mer.resume.toNat t.word t.covered 0 0 0 t.ckpt
      let s := { sendUp s v with mer := { s.mer with closeUp := some v, closeAt := elapsedNs s, closeFirst := elapsedNs s } }
      stopHere (safePoint s)
  else s

/-! ## COMMIT's end (R380, R381) -/

/-- A snapshot is taken when step 5 of R380 has ended (R351, R352). -/
def takeSnapshot (s : State) (n : Nat) : State :=
  if s.net.newer.isSome then record s C.CKPT_SKIPPED 0
  else
    let x : Snapshot := { step := n, record := recordBytes s, old := [], writing := true, done := false, failed := false, target := 0 }
    setB { s with net := { s.net with newer := some x } } F.CKPT_STATUS_WRITING 0 true

/-- Steps 5 to 7 of R380, when the update table and the commit tasks have ended without a fault. -/
def finishCommit (s : State) : State :=
  let n := stepNow s
  let s := writeRecord (growScale (closeStep s))
  let s := if s.mer.snapDue then takeSnapshot s n else s
  sealSlot s n (getF s F.MER_RESULT_WORD 0)

/-- The gate closes and COMMIT_TIME takes the length of the work. -/
def closeGate (s : State) : State :=
  let s := setF s F.MER_PHASE_GATE 0 0
  if s.mer.decision = aCommit then
    setF s F.MER_COMMIT_TIME_TIME 0 (min ((elapsedNs s - s.mer.workStart) / 1000) (2 ^ 32 - 1))
  else s

end Sys2Proof.Machine
end

