-- ==== Sys2Proof/Machine/LogOps.lean ====
section
/-!
DEFINITION. The logbook (19, R540 to R547): records appended at the head of the ring, commits of a group, which records are
live, the flash as bytes, and the change log.
-/
namespace Sys2Proof.Machine

/-- Bytes that a record takes in its block: a 24-byte header and the body, to 8-byte alignment (R541, R542). -/
def recSize (r : LogRec) : Nat := (24 + r.body.length + 7) / 8 * 8

/-- Bytes in use of a block, its header included. -/
def blockUsed (b : LogBlock) : Nat := b.recs.foldl (fun n r => n + recSize r) 32

/-- The journal in order, each block up to its first record whose CRC fails (R543); a flash that does not answer at Twilight
counts as empty (R546). -/
def journal (s : State) : List LogRec :=
  if getB s F.LOG_STATUS_PRESENT 0 then s.log.blocks.flatMap (fun b => b.recs.takeWhile (fun r => !r.bad)) else []

/-- The flash answers and writing is active (R546). -/
def logWrites (s : State) : Bool := getB s F.LOG_STATUS_PRESENT 0 && getB s F.LOG_STATUS_WRITABLE 0

/-- FILL as the blocks in use give it. -/
def postFill (s : State) : State :=
  setF s F.LOG_STATUS_FILL 0 (s.log.blocks.length * 100 / (max s.log.size 1))

/-- A record appended at the head; a record that does not fit opens the next block of the ring (R541, R542). -/
def logAppend (s : State) (type flags key : Nat) (body : List Byte) : State :=
  if logWrites s then
    let r : LogRec := ⟨type, flags, s.log.seq, key, body, false⟩
    let l := { s.log with seq := s.log.seq + 1 }
    match l.blocks.getLast? with
    | some b =>
      if blockUsed b + recSize r ≤ 65536 then
        { s with log := { l with blocks := l.blocks.dropLast ++ [{ b with recs := b.recs ++ [r] }] } }
      else
        let nb : LogBlock := ⟨(b.index + 1) % (max l.size 1), l.gen + 1, r.seq, [r]⟩
        postFill { s with log := { l with blocks := l.blocks ++ [nb], gen := l.gen + 1 } }
    | none => postFill { s with log := { l with blocks := [⟨0, l.gen + 1, r.seq, [r]⟩], gen := l.gen + 1 } }
  else s

/-- Types of the journal (Table: Record types). -/
def tCommit : Nat := 0x0001
def tManifest : Nat := 0x0010
def tChunk : Nat := 0x0011
def tCert : Nat := 0x0020
def tIdentity : Nat := 0x0021
def tOwner : Nat := 0x0022
def tSite : Nat := 0x0030
def tSeen : Nat := 0x0031
def tLpddr : Nat := 0x0032
def tSerdes : Nat := 0x0033
def tXing : Nat := 0x0034
def tTsv : Nat := 0x0035
def tAging : Nat := 0x0036
def tQuota : Nat := 0x0037
def tThmCal : Nat := 0x0038
def tThmModel : Nat := 0x0039
def tShutter : Nat := 0x003A
def tBoot : Nat := 0x003B
def tError : Nat := 0x0040
def tChange : Nat := 0x0041
def tChangeLost : Nat := 0x0042

/-- The group of a record: 1 when marked SERVICE. -/
def groupOf (r : LogRec) : Nat := (bit r.flags 1).toNat

/-- A COMMIT or ABORT record of a group (R542). -/
def isCommitOf (g : Nat) (r : LogRec) : Bool := r.type == tCommit && fld r.body 0 1 == g

/-- Records of a group that no COMMIT or ABORT record covers yet. -/
def pendingOf (s : State) (g : Nat) : List LogRec :=
  let j := journal s
  let last := (j.filter (isCommitOf g)).foldl (fun m r => max m (fld r.body 8 8)) 0
  j.filter (fun r => r.type != tCommit && groupOf r == g && decide (last < r.seq))

/-- A COMMIT or ABORT record for a group's pending records (R529, R545). -/
def logCommit (s : State) (g : Nat) (abort : Bool) : State :=
  match (pendingOf s g).getLast? with
  | none => s
  | some r =>
    let s := logAppend s tCommit 0 0 (leBytes g 1 ++ leBytes abort.toNat 1 ++ List.replicate 6 0 ++ leBytes r.seq 8)
    if logWrites s && !abort then setF s F.LOG_SEQ_SEQ 0 r.seq else s

/-- A record is committed: the first COMMIT or ABORT record of its group that covers it commits it (R543). -/
def committedRec (j : List LogRec) (r : LogRec) : Bool :=
  match j.find? (fun c => isCommitOf (groupOf r) c && decide (r.seq ≤ fld c.body 8 8) && decide (r.seq < c.seq)) with
  | some c => fld c.body 1 1 == 0
  | none => false

/-- The live record of a TYPE and KEY (R543); a live TOMBSTONE deletes it. -/
def liveRec (s : State) (type key : Nat) : Option LogRec :=
  let j := journal s
  let c := j.filter (fun r => r.type == type && r.key == key && committedRec j r)
  match c.foldl (fun (m : Option LogRec) r => match m with
      | some x => if x.seq < r.seq then some r else some x
      | none => some r) none with
  | some r => if bit r.flags 0 then none else some r
  | none => none

/-- The newest record of a TYPE and KEY that the device has written, committed or not: what a start without loss of power
in between would commit. -/
def lastRec (s : State) (type key : Nat) : Option LogRec :=
  ((journal s).filter (fun r => r.type == type && r.key == key)).getLast?

/-- The device's own record, written when it differs from the newest one of its TYPE and KEY. -/
def logKeep (s : State) (type key : Nat) (body : List Byte) : State :=
  match lastRec s type key with
  | some r => if r.body = body then s else logAppend s type 0 key body
  | none => logAppend s type 0 key body

/-! ## The flash as bytes (LOG_READ, R541, R542) -/

/-- A record's bytes. -/
def recBytes (r : LogRec) : List Byte :=
  let h := leBytes r.type 2 ++ leBytes r.flags 2 ++ leBytes r.body.length 4 ++ leBytes r.seq 8 ++ leBytes r.key 4
  let c := crc32c (h ++ r.body)
  let b := h ++ leBytes (if r.bad then c + 1 else c) 4 ++ r.body
  b ++ List.replicate (recSize r - b.length) 0xFF

/-- A block's bytes; erased flash reads 0xFF. -/
def blockBytes (b : LogBlock) : List Byte :=
  let h := leBytes 0x4B42474C 4 ++ leBytes b.gen 8 ++ leBytes b.first 8
  let t := h ++ leBytes (crc32c h) 4 ++ List.replicate 8 0 ++ b.recs.flatMap recBytes
  t ++ List.replicate (65536 - t.length) 0xFF

/-- Bytes of the flash from an offset. -/
def flashBytes (s : State) (off n : Nat) : List Byte :=
  (List.range n).map (fun i =>
    let a := off + i
    match s.log.blocks.find? (fun b => b.index == a / 65536) with
    | some b => (blockBytes b).getD (a % 65536) 0xFF
    | none => 0xFF)

/-! ## The change log (R547) -/

/-- An entry joins the buffer of 65,536 changes; the session is that of an MCC origin. -/
def putChange (s : State) (origin kind addr old new : Nat) : State :=
  if s.log.changes.length < 65536 then
    let ses := if origin = 2 then getF s F.MCC_SESSION_ID 0 else 0
    let at_ := if s.log.changes.isEmpty then elapsedNs s else s.log.changeAt
    { s with log := { s.log with changes := s.log.changes ++ [⟨nowNs s, origin, kind, ses, addr, old, new⟩], changeAt := at_ } }
  else { s with log := { s.log with lost := s.log.lost + 1 } }

/-- A change of a value is noted; a value that stays is no change. -/
def noteChange (s : State) (origin kind addr old new : Nat) : State :=
  if old = new then s else putChange s origin kind addr old new

/-- The body of a CHANGE record (R547). -/
def changeBytes (c : Change) : List Byte :=
  leBytes c.time 8 ++ leBytes c.origin 1 ++ leBytes c.kind 1 ++ leBytes 0 2 ++ leBytes c.session 4 ++ leBytes c.addr 8 ++
    leBytes c.old 4 ++ leBytes c.new 4

/-- The body of an ERROR record: an entry in the form of FLT_HIST. -/
def errorBytes (e : Event) : List Byte :=
  leBytes e.time 8 ++ leBytes (e.code + 65536 * e.cls + 524288 * e.origin) 4 ++ leBytes e.unit 4

/-- The device's own records are committed: the events copied into the error history first (R512, R545). While the management core is
stopped, the copies and the commit wait for its restart (R523). -/
def commitOwn (s : State) : State :=
  if s.flt.coreUp then
    let s := s.flt.toLog.foldl (fun s e => logAppend s tError 0 0 (errorBytes e)) s
    let s := { s with flt := { s.flt with toLog := [] } }
    let s := logCommit s 0 false
    { s with log := { s.log with lastCommit := elapsedNs s } }
  else s

/-! ## The management core (R10, R514, R530) -/

/-- The session ends and the host port returns to clear operation (R425, R426): its windows close and its requests are answered
SESSION_GONE. -/
def dropSession (s : State) : State :=
  let ids := s.mcc.session.toList.map (·.id)
  let s := setF (setB (setB (setB s F.MCC_STATUS_SESSION 0 false) F.MCC_STATUS_SECURED 0 false) F.MCC_STATUS_BULK 0 false) F.MCC_SESSION_ID 0 0
  { s with mcc := { s.mcc with session := none, fresh := none, setup := none, endedIds := s.mcc.endedIds ++ ids, bulk := none,
                               staging := none, results := none, debug := none } }

/-- The management core is stopped: its model of the layers does not run, and it answers nothing (R10). -/
def coreDown (s : State) : State :=
  setB { s with flt := { s.flt with coreUp := false } } F.THM_STATUS_FALLBACK_ONLY 0 true

/-- The management core restarts from its ROM; the session is lost (R514). -/
def restartCore (s : State) : State :=
  let s := dropSession (coreDown s)
  { s with flt := { s.flt with coreRestart := some (elapsedNs s) }, mcc := { s.mcc with frags := [], inbox := [] } }

/-- A committed firmware set that waits takes over by a restart (R530). -/
def switchFirmware (s : State) : State :=
  if s.log.next.isSome && s.flt.coreUp then restartCore { s with log := { s.log with restart := true } } else s

end Sys2Proof.Machine
end

