-- ==== Sys2Proof/Machine/Shut.lean ====
section
/-!
DEFINITION. Shutters of tiles and slices and the slew of a column (12, R391 to R393; 18, R518, R519; 07, R236).
-/
namespace Sys2Proof.Machine

/-- A shutter closes on a unit of the device: in a segment SHUTTER_QUIET is cleared, the segment is abandoned and VOTE is
entered (R141, R368); later it belongs to the next step; in COMMIT it clears STATE_INTACT where it interrupts COMMIT
(R369, R394). -/
def shutterCloses (s : State) : State :=
  let s' := clearVerdict s vShutterQuiet
  if phase s = 1 ∨ phase s = 2 then abandonSegment s' else s'

/-- The power state of a physical tile. -/
def getTileP (s : State) (p : Nat) : TileP := mget s.pwr.tiles p {}

def setTileP (s : State) (p : Nat) (x : TileP) : State :=
  { s with pwr := { s.pwr with tiles := mput natLt s.pwr.tiles p x {} } }

/-- The column map of a column key. -/
def getCol (s : State) (c : Nat) : ColMap := mget s.tower.cols c {}

def setCol (s : State) (c : Nat) (m : ColMap) : State :=
  { s with tower := { s.tower with cols := mput natLt s.tower.cols c m {} } }

/-- A slew of a column waits or runs. -/
def slewing (s : State) (c : Nat) : Bool := s.tower.slews.any (fun e => e.1 == c)

/-- The column of a shuttered tile slews when a spare is left, else DEGRADED_NO_SPARE (R391, R393). -/
def slewOrGive (s : State) (p : Nat) : State :=
  let c := colOf p
  let row := p % 144 / 16
  let m := getCol s c
  if m.rows.contains row then
    if m.spare.isSome && !slewing s c then { s with tower := { s.tower with slews := s.tower.slews ++ [(c, row)] } }
    else record s C.DEGRADED_NO_SPARE (tileUnit s p)
  else if m.spare = some row then setCol s c { m with spare := none }
  else s

/-- A wake in progress or queued for a tile is dropped (R479). -/
def dropWake (s : State) (p : Nat) : State :=
  { s with pwr := { s.pwr with queue := s.pwr.queue.filter (fun e => e.1 != p), ramps := s.pwr.ramps.filter (fun r => r.phys != p) } }

/-- A physical tile is shuttered (R518): its work stops, its regulator goes off, the shutter is kept in the logbook where it
is for a fault (R451), and its column slews. A tile already shuttered stays so (R523). -/
def shutterTile (s : State) (p : Nat) (persist : Bool) : State :=
  if getB s F.FLT_SHUT_TILE p then s
  else
    let s := setB s F.FLT_SHUT_TILE p true
    let s := setTileP (dropWake s p) p { getTileP s p with state := 0 }
    let s := if persist then logAppend s tShutter 0 p (leBytes 1 8) else s
    let s := match logicalOf s p with
      | some t =>
        let s := setB s F.ARR_STATUS_SHUTTERED t true
        let s := dropArray s t
        abortTile (setArr s t { getArr s t with owner := none }) t
      | none => s
    shutterCloses (slewOrGive s p)

/-- The tile of a logical index is shuttered for a fault. -/
def shutterLogical (s : State) (t : Nat) : State := shutterTile s (physOf s t) true

/-- A slice is shuttered: its fold to the partner starts (R236), or FOLD_IMPOSSIBLE when the partner is shuttered too
(R238); fragments in its window are discarded (R239). -/
def shutterSlice (s : State) (i : Nat) : State :=
  if getB s F.SLC_STATUS_SHUTTERED i then s
  else
    let s := setB (setB s F.FLT_SHUT_SLICE i true) F.SLC_STATUS_SHUTTERED i true
    let s := setSlice s i { getSlice s i with folding := true, window := [] }
    let s := if getB s F.SLC_STATUS_SHUTTERED (i ^^^ 1) then sliceEvent s i C.FOLD_IMPOSSIBLE 0 else s
    shutterCloses s

/-! ## The slew (R391) -/

/-- The static FOCAL records of a tile written again from the device's copy of the image, unless that is lost (R412). -/
def reloadStatic (s : State) (t : Nat) : State :=
  match (if s.act.copyLost then none else s.act.image) with
  | none => s
  | some i =>
    (i.sects.flatMap (fun x => x.recs)).foldl (fun s r =>
      if r.kind = 0x0003 then
        let f := focalRec r
        if f.1.contains t then writeBytes s (focalAddr t f.2.1) (f.2.2.take (0xE00000 - f.2.1)) [] else s
      else s) s

/-- The focal window of a tile holds nothing: the role's column has moved to a new physical column. -/
def clearWindow (s : State) (t : Nat) : State :=
  let lo := focalAddr t 0
  let hi := focalAddr t 0xE00000
  { s with store := { s.store with
      mem := s.store.mem.filter (fun e => !(decide (lo ≤ e.1) && decide (e.1 < hi)))
      side := s.store.side.filter (fun e => !(decide (lo / 32 ≤ e.1) && decide (e.1 < hi / 32)))
      pcode := s.store.pcode.filter (fun e => !(decide (lo / 4096 * 32 ≤ e.1) && decide (e.1 < hi / 4096 * 32))) } }

/-- The rows of a column after a slew of the shuttered row to the spare: each logical row from the shuttered one up to the
spare moves one physical row toward the spare. -/
def movedRows (rows : List Nat) (bad spare : Nat) : List Nat :=
  rows.map (fun r =>
    if bad < spare then (if bad ≤ r ∧ r < spare then r + 1 else r)
    else (if spare < r ∧ r ≤ bad then r - 1 else r))

/-- The unused spare rows of a dome die. -/
def domeSpares (s : State) (tower : Nat) : Nat := ((List.range 16).filter (fun c => (getCol s (16 * tower + c)).spare.isSome)).length

/-- A slew ends (R391): the rows have moved, the spare is in use and awake (first light asks for its wake, R453, R458), the shuttered role's static contents are
written again, and SLEW is recorded with the column; a dome die left with fewer spares than SLEW_RESERVE records
DEGRADED_NO_SPARE (R404). With the spare itself shuttered while the slew waited, the tile stays without one (R393). -/
def finishSlew (s : State) (c bad : Nat) : State :=
  let m := getCol s c
  match m.spare with
  | none =>
    record { s with tower := { s.tower with slews := s.tower.slews.filter (fun e => e != (c, bad)) } } C.DEGRADED_NO_SPARE
      (tileUnit s (c / 16 * 144 + 16 * bad + c % 16))
  | some sp =>
    let role := m.rows.findIdx? (· == bad)
    let s := setCol s c { rows := movedRows m.rows bad sp, spare := none }
    let p := c / 16 * 144 + 16 * sp + c % 16
    let s := if devState s = 6 then setTileP s p { getTileP s p with state := 2 }
      else if devState s = 5 then { s with pwr := { s.pwr with queue := s.pwr.queue ++ [(p, elapsedNs s)] } }
      else s
    let s := match role with
      | some i =>
        let t := 128 * (c / 16) + 16 * i + c % 16
        setB (reloadStatic (clearWindow s t) t) F.ARR_STATUS_SHUTTERED t false
      | none => s
    let s := { s with tower := { s.tower with slews := s.tower.slews.filter (fun e => e != (c, bad)) } }
    let s := recordWith s C.SLEW c (c :: (List.range 8).filter (fun i => (getCol s c).rows.getD i 0 != m.rows.getD i 0))
    if domeSpares s (c / 16) < s.act.slewReserve then record s C.DEGRADED_NO_SPARE c else s

end Sys2Proof.Machine
end

