-- ==== Sys2Proof/Machine/Prot.lean ====
section
/-!
DEFINITION. The end of page-code recovery (10, R292), the patrol scrubber (R294 to R298), and the checker test mode (R306).
-/
namespace Sys2Proof.Machine

/-! ## Recovery (R291, R292, R310) -/

/-- The shutters that REPEAT asks for close (R310). -/
def closeRepeats (s : State) : State :=
  s.store.repeatDue.foldl (fun s k => if k.1 = 0 then shutterLogical s k.2 else shutterSlice s k.2)
    { s with store := { s.store with repeatDue := [] } }

/-- PAGE_RECOVERY_DONE (R292): the recovery of the page of an address ends. -/
def execPageRecoveryDone (addr : Nat) (s : State) : Out :=
  let page := addr / 4096 * 4096
  if s.store.recov.any (fun r => r.page == page) then .next (closeRepeats (recoverPage s page)) else .next s

/-! ## The patrol scrubber (R294 to R298) -/

/-- The start of region `i` in channel `c`, in bytes (R200). -/
def shareBefore (rs : List Region) (c i : Nat) : Nat := ((rs.take i).map (regionShare · c)).foldl (· + ·) 0

/-- The LPDDR address of page `p` of the share of channel `c`: the inverse of R200. -/
def addrOfPage (s : State) (c p : Nat) : Option Nat :=
  let rs := regionsOf s
  (List.range rs.length).findSome? (fun i =>
    match rs[i]? with
    | none => none
    | some r =>
      let b := shareBefore rs c i / 4096
      let n := regionShare r c / 4096
      if b ≤ p ∧ p < b + n then
        let g := p - b
        match r.tower with
        | none => some (r.base + 4096 * (192 * g + (c + 192 * (g + 1) - 29 * g % 192) % 192))
        | some _ => some (r.base + 4096 * (48 * g + (c % 48 + 48 * (g + 1) - 29 * g % 48) % 48))
      else none)

/-- Pages of a channel's share in use by regions. -/
def sharePages (s : State) (c : Nat) : Nat :=
  ((regionsOf s).map (regionShare · c)).foldl (· + ·) 0 / 4096

/-- Pages of a channel's reserve (R257). -/
def reservePages (s : State) : Nat :=
  let u := channelBytes s / 4096
  match getF s F.MEM_CFG_CH_RESERVE 0 with
  | 0 => 0
  | 1 => u / 64
  | 2 => u / 32
  | _ => u / 16

/-- The spreads made before a spread. -/
def spreadsBefore (g : SpreadGen) : List SpreadGen → List SpreadGen
  | [] => []
  | x :: xs => if x = g then [] else x :: spreadsBefore g xs

/-- The pages that a spread moves to a channel repeat with the product of the numbers of targets of the channel's spreads so far: their
residues, ascending, and the period (R258). -/
def movedResidues (gens : List SpreadGen) (g : SpreadGen) (c : Nat) : List Nat × Nat :=
  let before := spreadsBefore g gens
  let period := (before.filter (fun x => x.orig == g.orig)).foldl (fun n x => n * max 1 x.targets.length) (max 1 g.targets.length)
  ((List.range period).filter (fun p => spreadPlace before g.orig p == g.failed && g.targets.getD (p % g.targets.length) g.failed == c), period)

/-- The page that position `i` of the reserve of channel `c` holds: the pages that each spread in turn moved to `c` take the next free
pages of its reserve in ascending order (R258; assumption 45). -/
def reservePage (s : State) (c i : Nat) : Option Nat :=
  (s.store.spreads.foldl (fun (acc : Nat × Option Nat) g =>
    match acc.2 with
    | some _ => acc
    | none =>
      if g.targets.contains c then
        let r := movedResidues s.store.spreads g c
        let pages := sharePages s g.orig
        let n := pages / r.2 * r.1.length + (r.1.filter (fun x => decide (x < pages % r.2))).length
        let k := i - acc.1
        if i < acc.1 + n then (acc.1, addrOfPage s g.orig (k / max 1 r.1.length * r.2 + r.1.getD (k % max 1 r.1.length) 0)) else (acc.1 + n, none)
      else acc) (0, none)).2

/-- Pages of a store, which a patrol pass visits in order. -/
def storePages (s : State) : PatrolStore → Nat
  | .focal _ => 3584
  | .slice _ => 32768
  | .chan _ => channelBytes s / 4096

/-- The address of page `p` of a slice's ways: the carved ways are held at the slice's scratch window, way by way (R206;
assumption 99). -/
def slicePage (s : State) (i p : Nat) : Nat :=
  let cached := 2048 * (16 - 2 * getF s F.SLC_CFG_CARVE i)
  if p < cached then plateAddr i 0 0 + 4096 * p else scratchBase + i * 0x8000000 + 4096 * (p - cached)

/-- The page at a scrub position of a store, as an address. -/
def patrolPage (s : State) : PatrolStore → Nat → Option Nat
  | .focal t, p => some (focalAddr t (4096 * p))
  | .slice i, p => some (slicePage s i p)
  | .chan c, p =>
    let top := channelBytes s / 4096 - reservePages s
    if p < top then
      match addrOfPage s c p with
      | some a => if placeOf s c p = c then some a else none
      | none => none
    else reservePage s c (p - top)

/-- The field that holds the next page to visit. -/
def scrubPos : PatrolStore → Field × Nat
  | .focal t => (F.PROT_SCRUB_POS_T_PAGE, t)
  | .slice i => (F.PROT_SCRUB_POS_S_PAGE, i)
  | .chan c => (F.PROT_SCRUB_POS_M_PAGE, c)

/-- The counter of pages rewritten. -/
def scrubCount : PatrolStore → Field
  | .focal _ => F.PROT_SCRUBBED_T_COUNT
  | .slice _ => F.PROT_SCRUBBED_S_COUNT
  | .chan _ => F.PROT_SCRUBBED_M_COUNT

/-- The page code of a page computed from its decoded words (R288). -/
def computedCode (s : State) (page : Nat) : List Nat := (laneSums s page 128).map (·.toNat)

/-- The stored page code of a page replaced. -/
def putPageCode (s : State) (page : Nat) (ps : List Nat) : State :=
  { s with store := { s.store with
      pcode := (ps.zipIdx).foldl (fun m e => mput natLt m (page / 4096 * 32 + e.2) e.1 0) s.store.pcode } }

/-- Words of a page that the decoder corrected, by index. -/
def correctedWords (s : State) (page : Nat) : List Nat :=
  (List.range 128).filter (fun w => match (readWord s (page + 32 * w)).1 with
    | .corrected _ => true
    | _ => false)

/-- Table: Page-check mismatch (R294): the one corrected word is recovered as if erased, and stays poisoned where that fails (R292,
R293). -/
def pageMismatch (s : State) (page : Nat) (fixed : List Nat) : State :=
  match fixed with
  | [] => storeEvent (putPageCode s page (computedCode s page)) page .checkRewritten
  | [w] =>
    let a := page + 32 * w
    let old := (decodeWord s a).2
    match recoverWord s page w with
    | some r =>
      if r.data = old.1 ∧ r.poison = old.2 then storeEvent (putPageCode s page (computedCode s page)) page .checkRewritten
      else storeEvent (putWord (putPageBits s page w r.pageBits) a r.data r.poison) a .miscorrect
    | none => leavePoisoned s a
  | ws => ws.foldl (fun s w =>
      let a := page + 32 * w
      storeEvent (putWord s a (decodeWord s a).2.1 true) a .unrecovered) s

/-- THRESH in force (R309). -/
def scrubThresh (s : State) : Nat :=
  let n := getF s F.SCRUB_CFG_THRESH 0
  if n = 0 then 2 else n

/-- A visit of a page (R294 to R296): the words are read, a failed word starts recovery, else the page code is checked and
corrected words are rewritten when there are THRESH or more. -/
def visitPage (s : State) (st : PatrolStore) (page : Nat) : State :=
  let fixed := correctedWords s page
  let bad := badWords s page
  let poisoned := isCommitted s page && (List.range 128).any (fun w => (readWord s (page + 32 * w)).2.2)
  let s := (List.range 128).foldl (fun s w => noteRead s (page + 32 * w)) s
  let s := if poisoned then committedPoison s page else s
  if bad.isEmpty then
    let s := if pageCodeOn s page && computedCode s page != pageSyms s page then pageMismatch s page fixed else s
    if scrubThresh s ≤ fixed.length then
      let s := fixed.foldl (fun s w =>
        let a := page + 32 * w
        let r := decodeWord s a
        putWord s a r.2.1 r.2.2) s
      incF s (scrubCount st) (scrubPos st).2 1
    else s
  else s

/-- The time of a pass of a store in ns (R295, R309): SRAM_PERIOD minutes, or DRAM_PERIOD hours of a channel. -/
def passTime (s : State) : PatrolStore → Nat
  | .chan _ => (let n := getF s F.SCRUB_CFG_DRAM_PERIOD 0; if n = 0 then 0x18 else n) * 3600000000000
  | _ => (let n := getF s F.SCRUB_CFG_SRAM_PERIOD 0; if n = 0 then 0x3C else n) * 60000000000

/-- The key of a store in the table of the patrol's last visits. -/
def patrolKey : PatrolStore → Nat × Nat
  | .focal t => (0, t)
  | .slice i => (1, i)
  | .chan c => (2, c)

/-- No transaction wants a request slot of the store (R297). -/
def patrolFree (s : State) : PatrolStore → Bool
  | .focal _ => true
  | .slice i => (getSlice s i).rq.queue.isEmpty
  | .chan c => (getChan s c).rq.queue.isEmpty

/-- A visit of a store is due: its pass is spread evenly over its pages, and a visit takes a slot that nothing wants, or any slot
when it is more than 1 s behind (R295, R297; assumption 100). -/
def patrolDue (s : State) (st : PatrolStore) : Bool :=
  match (s.store.visits.find? (fun e => e.1 == patrolKey st)).map (·.2) with
  | none => patrolFree s st
  | some t =>
    let gap := passTime s st / storePages s st
    passed s t gap && (patrolFree s st || passed s t (gap + 1000000001))

/-- PATROL_VISIT (R295): the scrubber visits the next page of its store and goes on to the one after it. -/
def execPatrolVisit (store : PatrolStore) (s : State) : Out :=
  if getB s F.SCRUB_CFG_ENABLE 0 && patrolDue s store then
    let f := scrubPos store
    let p := getF s f.1 f.2
    let s := { s with store := { s.store with
      visits := (patrolKey store, elapsedNs s) :: s.store.visits.filter (fun e => e.1 != patrolKey store) } }
    let s := match patrolPage s store p with
      | some page => closeRepeats (visitPage s store page)
      | none => s
    .next (setF s f.1 f.2 ((p + 1) % storePages s store))
  else .next s

/-! ## Checker test mode (R306) -/

/-- The word that CHK_ADDR names. -/
def chkAddr (s : State) : Nat := bits (getF s F.CHK_ADDR_ADDR 0) 0 48 / 32 * 32

/-- The address is a word of LPDDR, scratch or a focal window. -/
def chkPlace (s : State) (a : Nat) : Bool :=
  decide (a < installed s) || (scratchSlice s a).isSome ||
    (decide (focalBase ≤ a) && decide (a < focalBase + 512 * 0x1000000) && decide ((a - focalBase) % 0x1000000 < 0xE00000))

/-- The bytes of CHK_DATA0 to CHK_DATA7. -/
def chkData (s : State) : List Byte := (List.range 8).flatMap (fun i => leBytes (getF s F.CHK_DATA_DATA i) 4)

/-- A word put into CHK_DATA0 to CHK_DATA7. -/
def setChkData (s : State) (d : List Byte) : State :=
  (List.range 8).foldl (fun s i => setF s F.CHK_DATA_DATA i (leNat ((d.drop (4 * i)).take 4))) s

/-- WRITE_RAW: the stored bits of the word, without encoding and without a page-code delta. -/
def chkWriteRaw (s : State) (a : Nat) : State :=
  let lp := mediumOf a == .lpddr
  let s := putPageBits s (a / 4096 * 4096) (a / 32 % 128) (getF s F.CHK_SIDE_PAGE_BITS 0)
  let p := getB s F.CHK_SIDE_POISON 0 && !(lp && isLp5x s)
  let sd := (getF s F.CHK_SIDE_CHECK 0 ^^^ pageCheck s a) + (if p then 65536 else 0)
  { s with store := { s.store with
      mem := memWrite s.store.mem a (chkData s)
      side := mput natLt s.store.side (a / 32) sd 0
      fresh := if lp ∧ s.store.lost ≠ [] then mput natLt s.store.fresh (a / 32) true false else s.store.fresh } }

/-- READ_RAW: the stored bits into CHK_DATA and CHK_SIDE. -/
def chkReadRaw (s : State) (a : Nat) : State :=
  let r := rawWord s a
  let b := pageBits s a
  let s := setChkData s r.data
  let s := setF s F.CHK_SIDE_CHECK 0 (r.c0.toNat + 256 * r.c1.toNat)
  setF (setB s F.CHK_SIDE_POISON 0 r.poison) F.CHK_SIDE_PAGE_BITS 0 b

/-- READ_DECODE: the outcome of R286 into CHK_RESULT and the data into CHK_DATA. -/
def chkDecode (s : State) (a : Nat) : State :=
  let r := decodeWord s a
  let s := setChkData s r.2.1
  match r.1 with
  | .clean => setF (setF s F.CHK_RESULT_OUTCOME 0 0) F.CHK_RESULT_POSITION 0 0
  | .corrected k => setF (setF s F.CHK_RESULT_OUTCOME 0 (if r.2.2 then 3 else 1)) F.CHK_RESULT_POSITION 0 k
  | .uncorrectable => setF (setF s F.CHK_RESULT_OUTCOME 0 2) F.CHK_RESULT_POSITION 0 0
  | .poisoned => setF (setF s F.CHK_RESULT_OUTCOME 0 3) F.CHK_RESULT_POSITION 0 0

/-- RECOVER_PAGE: the word as R292 and R293 would compute it, into CHK_DATA. -/
def chkRecover (s : State) (a : Nat) : State :=
  let page := a / 4096 * 4096
  let w := a / 32 % 128
  let others := (badWords s page).any (fun x => x != w)
  match (if others then none else recoverWord s page w) with
  | some r => setB (setChkData s r.data) F.CHK_RESULT_RECOVERED 0 true
  | none => setB s F.CHK_RESULT_RECOVERED 0 false

/-- A write to CHK_CTL: it acts under its KEY in Bench, and any other write is ignored with an INFO event (R306). -/
def writeChk (s : State) (v origin : Nat) : State :=
  if bits v 16 16 = 0x0C4E ∧ inBench s = true then
    let a := chkAddr s
    if chkPlace s a then
      match bits v 0 3 with
      | 1 => setB (chkWriteRaw s a) F.CHK_RESULT_DONE 0 true
      | 2 => setB (chkReadRaw s a) F.CHK_RESULT_DONE 0 true
      | 3 => setB (chkDecode s a) F.CHK_RESULT_DONE 0 true
      | 4 => setB (chkRecover s a) F.CHK_RESULT_DONE 0 true
      | _ => s
    else s
  else record s C.KEY_REFUSED 0 origin

/-- WRITE_RAW (R306). -/
def execWriteRaw (value : W32) (origin : Nat) (s : State) : Out := .next (writeChk s value.toNat origin)

/-- READ_RAW (R306). -/
def execReadRaw (value : W32) (origin : Nat) (s : State) : Out := .next (writeChk s value.toNat origin)

/-- READ_DECODE (R306). -/
def execReadDecode (value : W32) (origin : Nat) (s : State) : Out := .next (writeChk s value.toNat origin)

/-- RECOVER_PAGE (R306). -/
def execRecoverPage (value : W32) (origin : Nat) (s : State) : Out := .next (writeChk s value.toNat origin)

end Sys2Proof.Machine
end

