-- ==== Sys2Proof/Machine/Deep.lean ====
section
/-!
DEFINITION. The home slices (07): replacement and write-back (R203 to R205), the thrash window (R211), the streak detector (R212
to R214), accesses in order (R235), fills, the write gate (R362, R363), and the fold (R236 to R238).
-/
namespace Sys2Proof.Machine

/-- STREAK_STREAM_END (R212): streams not continued within STREAK_WINDOW accesses end. -/
def execStreakStreamEnd (slice : Nat) (s : State) : Out :=
  let c := getSlice s slice
  .next (setSlice s slice { c with streams := c.streams.filter (fun x => decide (c.accesses < x.at_ + streakWindow s slice)) })

/-- THRASH_WINDOW_END (R211). -/
def execThrashWindowEnd (slice : Nat) (s : State) : Out :=
  if 65536 ≤ (getSlice s slice).lookups then .next (thrashEnd s slice) else .next s

/-! ## The write gate (R362, R363) -/

/-- The gate accepts a transaction's write to a committed page: a commit task's store while the gate is in COMMIT. -/
def gateAccepts (s : State) (x : Txn) : Bool :=
  getF s F.MER_PHASE_GATE 0 == 1 && phase s == 4 &&
    (match x.owner with
     | .laneStore t _ k => match findTask s t k with
       | some y => y.commit
       | none => false
     | _ => false)

/-! ## One access (R235) -/

/-- An access waits: its page is under recovery, or an earlier access to its line waits for the channel (R235, R307). -/
def accessBlocked (s : State) (i : Nat) (x : Txn) : Bool :=
  let c := getSlice s i
  let line := x.addr / 256
  c.pendingMiss.any (fun m => m.txn.addr / 256 == line) ||
    s.store.recov.any (fun r =>
      match linePlace s x.addr with
      | some q =>
        match cachedLine s q with
        | some y => r.page == lineData q y / 4096 * 4096 || r.page == x.addr / 4096 * 4096
        | none => r.page == x.addr / 4096 * 4096
      | none => r.page == x.addr / 4096 * 4096)

/-- The lines that a transaction touches. -/
def txnLines (x : Txn) : List Nat := (List.range ((x.addr % 256 + x.len + 255) / 256)).map (fun k => x.addr / 256 + k)

/-- The first granted access of a slice that no earlier one of its line and no recovery keeps waiting; a co-add fragment on its way
keeps its lines (R235). -/
def firstAccess (s : State) (i : Nat) : List Txn → List Nat → Option Txn
  | [], _ => none
  | x :: xs, lines =>
    if x.kind = .coadd then firstAccess s i xs (txnLines x ++ lines)
    else if lines.contains (x.addr / 256) || accessBlocked s i x then firstAccess s i xs (x.addr / 256 :: lines)
    else some x

/-- The word addresses that an access reads from a base: all words of a read, the first and last words of a write that it
covers in part. -/
def readsWords (x : Txn) (base : Nat) : List Nat :=
  let a := base + x.addr % 256
  let ws := (List.range ((a + x.len + 31) / 32 - a / 32)).map (fun k => (a / 32 + k) * 32)
  if x.kind = .write then ws.filter (fun w => decide (w < a) || decide (a + x.len < w + 32)) else ws

/-- An access whose words must be recovered first (R291, R299): recovery of them starts. -/
def needsRecovery (s : State) (x : Txn) (base : Nat) : Option State :=
  let bad := (readsWords x base).filter (fun w => (readWord s w).1 == .uncorrectable)
  if bad.isEmpty then none else some (bad.foldl startRecovery s)

/-- The access leaves the granted ones. -/
def dropGranted (s : State) (i id : Nat) : State :=
  let c := getSlice s i
  setSlice s i { c with rq := { c.rq with granted := c.rq.granted.filter (fun y => y.id != id) } }

/-- An access behind an overflow co-add joins it (R223). -/
def joinOverflow (s : State) (i : Nat) (x : Txn) : Option State :=
  let c := getSlice s i
  let mine (o : OvfCoadd) : Bool := o.frag.addr / 256 == x.addr / 256
  if c.ovf.any mine then
    let last := (c.ovf.zipIdx).foldl (fun m e => if mine e.1 then e.2 else m) 0
    some (setSlice s i { c with ovf := c.ovf.modify last (fun o => { o with behind := o.behind ++ [x] }) })
  else none

/-- A read that needs its channel: its request goes to the channel's queue, and it waits for the fill (R204, R271, R277). -/
def missRead (s : State) (i : Nat) (x : Txn) (chan pl : Nat) : State :=
  let s := dropGranted s i x.id
  let c := getSlice s i
  let s := setSlice s i { c with pendingMiss := c.pendingMiss ++ [⟨x, pl⟩] }
  place s { x with kind := .read, locked := false, last := false, hinted := false } (.chan chan)

/-- A write that allocates no line goes to the channel (R204). -/
def missWrite (s : State) (i : Nat) (x : Txn) : State :=
  let s := chanWrite (dropGranted s i x.id) x x.addr x.len (narrowRange x.addr x.len)
  answerWrite (writeThrough s x.addr x.data x.poison) i x

/-- An access to LPDDR through the cache. -/
def lpddrAccess (s : State) (i : Nat) (x : Txn) (q : LinePlace) : State :=
  match joinOverflow s i x with
  | some s' => dropGranted s' i x.id
  | none =>
    let p := placeOf s q.chan (q.line / 16)
    match cachedLine s q with
    | some y =>
      match needsRecovery s x (lineData q y) with
      | some s' => s'
      | none =>
        let s := touchLine (lookup s q x.addr).1 q y
        if x.kind = .write then answerWrite (dropGranted (writeLine s q x.addr x.data x.poison y) i x.id) i x
        else if y.filled || y.dirty.all id then answerRead (dropGranted s i x.id) x (lineData q y)
        else missRead s i x p 0
    | none =>
      let r := lookup s q x.addr
      if x.kind = .write then
        match (if r.2 = 2 then none else allocate r.1 (some x) q (x.addr / 256 * 256) (r.2 == 1)) with
        | some s2 =>
          match cachedLine s2 q with
          | some y => answerWrite (dropGranted (writeLine s2 q x.addr x.data x.poison y) i x.id) i x
          | none => missWrite s2 i x
        | none =>
          match needsRecovery s x (x.addr / 256 * 256) with
          | some s' => s'
          | none => missWrite r.1 i x
      else missRead r.1 i x p r.2

/-- A granted access is performed at its home slice (R202, R206, R235, R363). -/
def performAccess (s : State) (i : Nat) (x : Txn) : State :=
  let marks := List.replicate ((x.addr % 32 + x.len + 31) / 32) true
  if x.kind = .write ∧ isCommitted s x.addr ∧ gateAccepts s x = false then
    finishTxn (dropGranted (sliceEvent s i C.GATE_WRITE (lineOf s x.addr)) i x.id) x [] []
  else
    let s := if x.kind = .write ∧ isCommitted s x.addr then cowPage s (x.addr / 4096) else s
    match linePlace s x.addr with
    | some q => lpddrAccess s i x q
    | none =>
      match scratchSlice s x.addr with
      | some _ =>
        match needsRecovery s x (x.addr / 256 * 256) with
        | some s' => s'
        | none =>
          let s := countAccess (dropGranted s i x.id) i
          if x.kind = .write then answerWrite (writeBytes s x.addr x.data x.poison) i x
          else answerRead s x (x.addr / 256 * 256)
      | none =>
        let s := unmapped (dropGranted s i x.id) i x.addr
        if x.kind = .write then finishTxn s x [] [] else finishTxn s x (List.replicate x.len 0) marks

/-- The slot of the pause frame that runs now is barred for the co-add and turn engines of a slice (R496, R497). -/
def barred (s : State) (i : Nat) : Bool :=
  let b := s.act.stagger
  let slot := (s.clk.cyc - s.eph.frame) / 64
  getB s F.THM_CFG_STAGGER 0 && (List.range (leNat (b.take 2))).any (fun k =>
    let e := (b.drop (8 + 8 * k)).take 8
    leNat (e.take 1) == i && bit (leNat ((e.drop 2).take 2)) slot)

/-- SLICE_ACCESS (R235): the slice performs the first access it may. -/
def execSliceAccess (slice : Nat) (s : State) : Out :=
  match firstAccess s slice (getSlice s slice).rq.granted [] with
  | some x => .next (if x.kind = .turnRead ∧ barred s slice then s else closeRepeats (performAccess s slice x))
  | none => .next s

/-! ## Fills (R204, R205) -/

/-- A channel answers requests: it is in service, or copies pages. -/
def channelAnswers (s : State) (c : Nat) : Bool :=
  let st := getF s F.MCH_STATUS_STATE c
  st == 2 || st == 5

/-- A miss whose request a channel has granted, or whose place no slice holds any more. -/
def readyMiss (s : State) (i : Nat) : Option Miss :=
  (getSlice s i).pendingMiss.find? (fun m =>
    (linePlace s m.txn.addr).isNone ||
      s.deep.chans.any (fun e => channelAnswers s e.1 && e.2.rq.granted.any (fun y => y.id == m.txn.id)))

/-- SLICE_MISS_FILL (R204, R205): the channel's data has come: the line is filled and the read answered, or the read is served
from the channel without a line; words that fail are recovered first (R291). -/
def execSliceMissFill (slice : Nat) (s : State) : Out :=
  match readyMiss s slice with
  | none => .next s
  | some m =>
    let base := m.txn.addr / 256 * 256
    match (if (linePlace s base).isSome then needsRecovery s { m.txn with kind := .read, addr := base, len := 256 } base else none) with
    | some s' => .next s'
    | none => .next (answerMiss s slice m)

/-! ## Pins (R208 to R210) -/

/-- Lines of a page range, as LPDDR addresses. -/
def windowLines (r : Nat × Nat) : List Nat := (List.range (16 * r.2)).map (fun k => 4096 * r.1 + 256 * k)

/-- The pin cap of a slice in ways (R209). -/
def pinCap (s : State) (i : Nat) : Nat := cacheWays s i * getF s F.SLC_CFG_PIN_CAP i / 8

/-- Every line leaves its pin. -/
def unpinAll (s : State) : State :=
  { s with deep := { s.deep with sets := s.deep.sets.map (fun e => (e.1, e.2.map (fun x => { x with pinned := false }))) } }

/-- A line of a pinned window filled and pinned, where its set's cap allows; whether it was. Lookups of pin fills are not counted
(R239). -/
def pinLine (s : State) (a : Nat) : State × Bool :=
  match linePlace s a with
  | none => (s, false)
  | some q =>
    let n := ((getSet s q.slice q.set).filter (·.pinned)).length
    let have_ := match cachedLine s q with
      | some _ => some s
      | none => allocate s none q a false
    match have_ with
    | none => (s, false)
    | some s' =>
      match cachedLine s' q with
      | none => (s, false)
      | some y =>
        if y.pinned then (s', true)
        else if pinCap s q.slice ≤ n then (s, false)
        else
          let s' := if y.filled then s' else fillLine s' q y
          match cachedLine s' q with
          | none => (s', false)
          | some z => (putLine s' q { z with pinned := true }, true)

/-- The lines of a window pinned; whether all were. -/
def pinWindow (s : State) (r : Nat × Nat) : State × Bool :=
  (windowLines r).foldl (fun acc a => let p := pinLine acc.1 a; (p.1, acc.2 && p.2)) (s, true)

/-! ## The fold (R236 to R238) -/

/-- A line of a set as it stands now written back: R302 may have written it with the rest of its page. -/
def writeLive (s : State) (i set : Nat) (x : CLine) : State :=
  match (getSet s i set).find? (fun y => y.way == x.way) with
  | some y => writeBack s none i set y
  | none => s

/-- Every deep-store line of committed pages is invalidated (R387): what a line holds dirty is accepted state of its page and goes to
the channel first, and a pinned line stays pinned and is filled again when it is used (DEDUCED, assumption 114). -/
def dropCommittedLines (s : State) : State :=
  let mine := s.deep.sets.filter (fun e => e.2.any (fun x => isCommitted s x.base))
  let s := mine.foldl (fun s e => e.2.foldl (fun s x => if isCommitted s x.base then writeLive s e.1.1 e.1.2 x else s) s) s
  let s := dropCached s (fun x => isCommitted s x.base && !x.pinned)
  { s with deep := { s.deep with sets := s.deep.sets.map (fun e => (e.1, e.2.map (fun x =>
      if isCommitted s x.base then { x with filled := false, dirty := List.replicate 256 false } else x))) } }

/-- Every line of a slice written back and gone. -/
def flushSlice (s : State) (i : Nat) : State :=
  let mine := s.deep.sets.filter (fun e => e.1.1 == i)
  let s := mine.foldl (fun s e => e.2.foldl (fun s x => writeLive s i e.1.2 x) s) s
  { s with deep := { s.deep with sets := s.deep.sets.filter (fun e => e.1.1 != i) } }

/-- The scratch window of a slice holds nothing (R236). -/
def dropScratch (s : State) (i : Nat) : State :=
  let lo := scratchBase + i * 0x8000000
  let hi := lo + 0x8000000
  { s with store := { s.store with
      mem := s.store.mem.filter (fun e => !(decide (lo ≤ e.1) && decide (e.1 < hi)))
      side := s.store.side.filter (fun e => !(decide (lo / 32 ≤ e.1) && decide (e.1 < hi / 32)))
      pcode := s.store.pcode.filter (fun e => !(decide (lo / 4096 * 32 ≤ e.1) && decide (e.1 < hi / 4096 * 32))) } }

/-- Requests that waited at a slice go to the slice that serves its pages now: they enter its queue, or are refused with a hint
where it is full (R236, R271, R277). -/
def moveRequests (s : State) (i j : Nat) : State :=
  let c := getSlice s i
  let d := getSlice s j
  let s := setSlice s j { d with
    rq := { d.rq with granted := d.rq.granted ++ c.rq.granted }
    pendingMiss := d.pendingMiss ++ c.pendingMiss, ovf := d.ovf ++ c.ovf }
  let s := setSlice s i { getSlice s i with rq := {}, pendingMiss := [], ovf := [], streams := [], window := [], next := [], applied := [] }
  let s := { s with deep := { s.deep with refused := s.deep.refused.map (fun r => if r.target = .slice i then { r with target := .slice j } else r) } }
  c.rq.queue.foldl (fun s x => place s x (.slice j)) s

/-- A change of a target's load or capacity: the factors are recomputed at the next 10 µs boundary of device time (R280). -/
def loadChanged (s : State) : State :=
  match s.deep.scaleDue with
  | some _ => s
  | none => { s with deep := { s.deep with scaleDue := some ((nowNs s / 10000 + 1) * 10000) } }

/-- The lines of a window that a slice held pinned, as LPDDR addresses. -/
def pinnedHere (s : State) (i : Nat) (r : Nat × Nat) : List Nat :=
  (windowLines r).filter (fun a => match linePlace s a with
    | some q => q.slice == i && (match cachedLine s q with
      | some y => y.pinned
      | none => false)
    | none => false)

/-- Lines pinned again, as far as the caps allow; whether all were. -/
def pinLines (s : State) (as : List Nat) : State × Bool :=
  as.foldl (fun acc a => let p := pinLine acc.1 a; (p.1, acc.2 && p.2)) (s, true)

/-- SLICE_FOLD (R236, R237): the write-back of a shuttered slice has ended. Its addresses fold to its partner, which pins the
lines that the slice held pinned again as far as its cap allows; when the partner is shuttered too there is no fold (R238). -/
def execSliceFold (slice : Nat) (s : State) : Out :=
  if (getSlice s slice).folding then
    let pins := (s.act.pinned.map (pinnedHere s slice)).filter (fun l => !l.isEmpty)
    let s := dropScratch (flushSlice s slice) slice
    let s := setSlice s slice { getSlice s slice with folding := false }
    let j := slice ^^^ 1
    if getB s F.SLC_STATUS_SHUTTERED j then .next (closeRepeats s)
    else
      let s := setB (setB s F.SLC_STATUS_FOLDED slice true) F.SLC_STATUS_SERVING j true
      let s := moveRequests s slice j
      let s := pins.foldl (fun s l => let p := pinLines s l; if p.2 then p.1 else sliceEvent p.1 j C.PIN_REFUSED 0) s
      .next (closeRepeats (loadChanged (sliceEvent s slice C.SLICE_FOLD 0)))
  else .next s

/-- TAG_LOST (R236, R369): the line of an uncorrectable tag entry is lost, with STATE_INTACT where it was dirty; the slice is
shuttered and its fold starts. The entry of a way that holds no line loses none. -/
def execTagLost (slice set way : Nat) (s : State) : Out :=
  let l := getSet s slice set
  match l.find? (fun x => x.way == way) with
  | none => .next (shutterSlice (sliceEvent s slice C.TAG_LOST 0) slice)
  | some x =>
    let s := sliceEvent s slice C.TAG_LOST x.line
    let s := setSet s slice set ((getSet s slice set).filter (fun y => y.way != way))
    let s := if x.dirty.any id then clearIntact s else s
    .next (shutterSlice s slice)

end Sys2Proof.Machine
end

