-- ==== Sys2Proof/Machine/Coadd.lean ====
section
/-!
DEFINITION. Co-add (07, R215 to R225) and the update engine (07, R228 to R233).
-/
namespace Sys2Proof.Machine

/-- Co-add data applied where no line lies: in scratch, or at the channel. -/
def coaddStore (s : State) (i op : Nat) (key : DrawKey) (a : Nat) (d : List Byte) (ps : List Bool) : State :=
  coaddInto (noteRange (recoverRange s a d.length) a d.length) i op key a d ps readBytes writeBytes

/-- Co-add data applied in a line, which is filled first (R205, R223). -/
def coaddCached (s : State) (i op : Nat) (key : DrawKey) (q : LinePlace) (y : CLine) (a : Nat) (d : List Byte) (ps : List Bool) : State :=
  let s := if y.filled then s else fillLine s q y
  let b := lineData q y + a % 256
  coaddInto (noteRange (recoverRange s b d.length) b d.length) i op key a d ps cohRead cohWrite

/-- An overflow co-add counted, and recorded once per step and slice (R223). -/
def noteOverflow (s : State) (i a : Nat) : State :=
  let s := incF s F.SLC_OVF_COUNT i 1
  let step := getF s F.SEG_STEP_STEP 0
  if (getSlice s i).ovfStep = some step then s
  else sliceEvent (setSlice s i { getSlice s i with ovfStep := some step }) i C.COADD_OVERFLOW (lineOf s a)

/-- The line that a co-add uses: the cached one, made most recently used, or one allocated for it under the region's or the hint's
streak mode, in which a co-add is never a streak (R203, R213); none when no way may be chosen. -/
def coaddWay (s : State) (who : Option Txn) (q : LinePlace) (a : Nat) : State × Option CLine :=
  let hit := cachedLine s q
  let s := (streakStep (countLookup s q hit) q.slice q.chan q.line).1
  match hit with
  | some y => (touchLine s q y, some y)
  | none =>
    let lru := streakMode s q a == 3
    let s := if lru then incF s F.SLC_STREAK_COUNT q.slice 1 else s
    match allocate s who q (a / 256 * 256) lru with
    | none => (s, none)
    | some s => (match who with
      | some x => chanSend s x .read .other (a / 256 * 256) 256 false false
      | none => s, cachedLine s q)

/-- One line's part of a fragment: in the cached line, in a line allocated and filled for it, in scratch, or as an overflow
co-add (R203, R213, R223). It comes behind the accesses to its line that were accepted earlier (R235). -/
def coaddLine (s : State) (i : Nat) (x : Txn) (f : Frag) (a : Nat) (d : List Byte) (ps : List Bool) : State :=
  match linePlace s a with
  | none => coaddStore (countAccess s i) i f.op (.tag f.tag) a d ps
  | some q =>
    let excess (s : State) : State :=
      let s := chanSend s x .read .other a d.length true false
      let w := s.deep.nextTxn
      let s := chanSend s x .write .overflow a d.length true true
      let c := getSlice s i
      noteOverflow (setSlice s i { c with ovf := c.ovf ++ [⟨{ f with addr := a, data := d, poison := ps }, w, []⟩] }) i a
    if (getSlice s i).ovf.any (fun o => o.frag.addr / 256 == a / 256) then excess s
    else
      let r := coaddWay (settleLine s i a) (some x) q a
      match r.2 with
      | some y => coaddCached r.1 i f.op (.tag f.tag) q y a d ps
      | none => excess r.1

/-- One line's part of a co-add of the collective engine, performed within its command (assumption 98). -/
def engineAddLine (s : State) (i op : Nat) (key : DrawKey) (a : Nat) (d : List Byte) (ps : List Bool) : State :=
  match linePlace s a with
  | none => coaddStore (countAccess s i) i op key a d ps
  | some q =>
    let r := coaddWay (settleLine s i a) none q a
    match r.2 with
    | some y => coaddCached r.1 i op key q y a d ps
    | none =>
      let n := (wordsOf a d.length).length
      coaddStore (countWords (countWords (noteOverflow r.1 i a) F.MCH_RD_COUNT a n) F.MCH_WR_COUNT a n) i op key a d ps

/-- A co-add of the collective engine at its home slice (R215, R343). -/
def engineCoadd (s : State) (i op : Nat) (key : DrawKey) (a : Nat) (d : List Byte) (ps : List Bool) : State :=
  let s := (linePieces a d.length 0 (d.length / 256 + 2)).foldl (fun s p =>
    engineAddLine s i op key p.1 ((d.drop p.2.2).take p.2.1) (marksAt a p.2.2 p.2.1 ps)) s
  setF s F.SLC_COADD_COUNT i (getF s F.SLC_COADD_COUNT i + 1)

/-- A fragment applied to its lines. -/
def applyFrag (s : State) (i : Nat) (x : Txn) (f : Frag) : State :=
  let s := (linePieces f.addr f.data.length 0 (f.data.length / 256 + 2)).foldl (fun s p =>
    coaddLine s i x f p.1 ((f.data.drop p.2.2).take p.2.1) (marksAt f.addr p.2.2 p.2.1 f.poison)) s
  setF s F.SLC_COADD_COUNT i (getF s F.SLC_COADD_COUNT i + 1)

/-- A fragment is answered as accepted to its transfer (R118, R220), and its transaction ends (R269). -/
def fragAccepted (s : State) (x : Txn) (f : Frag) : State :=
  let s := setOutstanding s x.cls x.inst x.band (outstanding s x.cls x.inst x.band - 1)
  match findX s f.xfer with
  | some y => putX s { y with left := y.left - 1 }
  | none => s

/-! ## Order (R217 to R221) -/

/-- The stream of a tag. -/
def tagStream (tag : Nat) : Nat := bits tag 26 6
/-- The sequence number of a tag. -/
def tagSeq (tag : Nat) : Nat := bits tag 0 26

/-- How many fragments of its transfer the slice of a fragment receives for the fragment's channel (R216). -/
def fragCount (s : State) (f : Frag) : Nat :=
  ((List.range ((f.remote + f.size + 4095) / 4096 - f.remote / 4096)).filter (fun k =>
    fragHome s ((f.remote / 4096 + k) * 4096) == f.chan)).length

/-- The key of a stream in NEXT: a folded slice's partner keeps the streams of both channels apart (R236). -/
def nextKey (f : Frag) : Nat × Nat := (f.chan, tagStream f.tag)

/-- NEXT of a stream. -/
def nextOf (s : State) (i : Nat) (f : Frag) : Nat := mget (getSlice s i).next (nextKey f) 0

/-- A fragment of sequence NEXT has been applied; NEXT advances with the last of them (R218). -/
def noteApplied (s : State) (i : Nat) (f : Frag) : State :=
  let c := getSlice s i
  let k := f.chan * 64 + tagStream f.tag
  let n := match c.applied.find? (fun e => e.1 == k) with
    | some e => e.2.2 + 1
    | none => 1
  let rest := c.applied.filter (fun e => e.1 != k)
  if fragCount s f ≤ n then
    setSlice s i { c with applied := rest, next := mput pairLt c.next (nextKey f) (tagSeq f.tag + 1) 0 }
  else setSlice s i { c with applied := rest ++ [(k, tagSeq f.tag, n)] }

/-- The fragment of the window to apply next: of a sequence number equal to its stream's NEXT, by ascending address. -/
def windowNext (s : State) (i : Nat) : Option Frag :=
  ((getSlice s i).window.filter (fun f => tagSeq f.tag == nextOf s i f)).foldl (fun m f =>
    match m with
    | none => some f
    | some g => if f.addr < g.addr then some f else some g) none

/-- A fragment at NEXT is applied and answered. -/
def takeFrag (s : State) (i : Nat) (x : Txn) (f : Frag) : State := noteApplied (fragAccepted (applyFrag s i x f) x f) i f

/-- Fragments of the window applied while one is at NEXT. -/
def drainWindow (s : State) (i : Nat) : Nat → State
  | 0 => s
  | n + 1 =>
    match windowNext s i with
    | none => s
    | some f =>
      let c := getSlice s i
      let s := setSlice s i { c with window := c.window.filter (fun g => g != f) }
      drainWindow (takeFrag s i (fragTxn s f) f) i n

/-- A fragment arrives at its home slice in Strict mode (R218 to R220): applied, windowed, refused with a hint or
discarded. -/
def arriveStrict (s : State) (i : Nat) (x : Txn) (f : Frag) : State :=
  let n := nextOf s i f
  let q := tagSeq f.tag
  if q < n then fragAccepted (sliceEvent s i C.COADD_SEQ (lineOf s f.addr)) x f
  else if q = n then drainWindow (takeFrag s i x f) i 64
  else
    let c := getSlice s i
    if q < n + 64 ∧ c.window.length < 64 then setSlice s i { c with window := c.window ++ [f] }
    else
      refuse { s with deep := { s.deep with frags := s.deep.frags ++ [f] } } { x with hinted := false } (.slice i) (max 1 (etaOf c.rq x.band))

/-- The next co-add fragment that a slice has granted and that no earlier access to its lines keeps waiting (R235). -/
def nextFrag (s : State) (i : Nat) : List Txn → List Nat → Option (Txn × Frag)
  | [], _ => none
  | x :: xs, lines =>
    match (if x.kind = .coadd ∧ (txnLines x).all (fun l => !lines.contains l) then s.deep.frags.find? (fun f => f.id == x.id) else none) with
    | some f => some (x, f)
    | none => nextFrag s i xs (txnLines x ++ lines)

/-- COADD_FRAGMENT (R216 to R221): the next fragment that the slice's port has granted arrives. -/
def execCoaddFragment (slice : Nat) (s : State) : Out :=
  if barred s slice then .next s
  else match nextFrag s slice (getSlice s slice).rq.granted [] with
  | none => .next s
  | some (x, f) =>
    let s := dropGranted { s with deep := { s.deep with frags := s.deep.frags.filter (fun g => g != f) } } slice x.id
    .next (closeRepeats (
      if (targetSlice s f.addr).isNone then fragAccepted (unmapped s slice f.addr) x f
      else if isCommitted s f.addr then fragAccepted (sliceEvent s slice C.GATE_WRITE (lineOf s f.addr)) x f
      else if relaxed s then fragAccepted (applyFrag s slice x f) x f
      else arriveStrict s slice x f))

/-- The first overflow co-add of a list whose write its channel has granted, behind no other of its line. -/
def firstOverflow (s : State) : List OvfCoadd → List Nat → Option OvfCoadd
  | [], _ => none
  | o :: os, lines =>
    let l := o.frag.addr / 256
    if !lines.contains l && s.deep.chans.any (fun e => e.2.rq.granted.any (fun y => y.id == o.write)) then some o
    else firstOverflow s os (l :: lines)

/-- OVERFLOW_COADD_COMPLETE (R223): the channel has granted the locked read and write of the oldest overflow co-add: it reads the
words, applies the operator and writes the result, and the accesses sent behind it follow. -/
def execOverflowCoaddComplete (slice : Nat) (s : State) : Out :=
  match firstOverflow s (getSlice s slice).ovf [] with
  | none => .next s
  | some o => .next (closeRepeats (endOverflow s slice o))

/-! ## The update engine (R228 to R233) -/

/-- Fields of an update entry, given as its sixteen words (Table: Update entry). -/
structure UpdEntry where
  rule : Nat
  pFmt : Nat
  gFmt : Nat
  sFmt : Nat
  round : Nat
  count : Nat
  pPg : Nat
  gPg : Nat
  mPg : Nat
  vPg : Nat
  lrPg : Nat
  bcPg : Nat
  b1 : W32
  b2 : W32
  c1 : W32
  c2 : W32
  eps : W32
  wd : W32
  deriving DecidableEq, Repr

/-- An entry of the update table. -/
def updEntry (w : List Nat) : UpdEntry :=
  let g (i : Nat) : Nat := w.getD i 0
  let f (i : Nat) : W32 := BitVec.ofNat 32 (g i)
  { rule := bits (g 0) 0 4, pFmt := bits (g 0) 4 3, gFmt := bits (g 0) 7 3, sFmt := bits (g 0) 10 3, round := bits (g 0) 13 2,
    count := g 1, pPg := g 2, gPg := g 3, mPg := g 4, vPg := g 5, lrPg := g 6, bcPg := g 7, b1 := f 8, b2 := f 9, c1 := f 10,
    c2 := f 11, eps := f 12, wd := f 13 }

/-- Bytes of a P_FMT, G_FMT or S_FMT element. -/
def updWidth (f : Nat) : Nat := if f = 1 then 2 else 4

/-- An element of an array read through its home slice and widened exactly to binary32, with its mark. -/
def updRead (s : State) (pg fmt e : Nat) : State × W32 × Bool :=
  let r := engineGet s (4096 * pg + e * updWidth fmt) (updWidth fmt)
  let v := leNat r.2.1
  (r.1, BitVec.ofNat 32 (if fmt = 1 then v * 65536 else v), r.2.2.any id)

/-- The code of a result in its format (R232): BF16 converted with ROUND, in stream 3 for stochastic rounding. -/
def updCode (s : State) (u : UpdEntry) (fmt e idx which : Nat) (v : W32) : Nat :=
  if fmt = 1 then
    let r := if u.round = 2 then drawWord s.act.seed e idx which 3 (stepNow s) else 0
    (convert 1 (modeOf u.round r) (ofFp32 v)).1
  else v.toNat

/-- +1.0, −1.0, +0.0 or a NaN by the sign of c (R230, rule 2). -/
def signStep (c : W32) : W32 :=
  let v := ofFp32 c
  if isNan v then 0x7FC00000
  else if isZeroV v then 0
  else if c.msb then 0xBF800000 else 0x3F800000

/-- Results of an element: p', m' and v'. -/
structure UpdOut where
  p : W32
  m : W32
  v : W32
  deriving DecidableEq, Repr

/-- The rules of R230, in binary32 rounded to nearest even. -/
def updRule (u : UpdEntry) (p grad m v sigma a1 a2 lr : W32) : UpdOut :=
  let g := fMul .rne grad sigma
  let fin (w m' v' : W32) : UpdOut := ⟨fFma .rne (lr ^^^ 0x80000000) w p, m', v'⟩
  match u.rule with
  | 0 =>
    let m' := fFma .rne u.b1 m g
    fin (fFma .rne u.wd p m') m' v
  | 1 =>
    let m' := fFma .rne u.b1 m (fMul .rne u.c1 g)
    let v' := fFma .rne u.b2 v (fMul .rne u.c2 (fMul .rne g g))
    let d := fDiv .rne (fMul .rne m' a1) (fAdd .rne (fSqrt (fMul .rne v' a2)) u.eps)
    fin (fFma .rne u.wd p d) m' v'
  | _ =>
    let c := fFma .rne u.b1 m (fMul .rne u.c1 g)
    let d := signStep c
    fin (fFma .rne u.wd p d) (fFma .rne u.b2 m (fMul .rne u.c2 g)) v

/-- A result written to a committed page by the update engine, with UPD_NONFINITE (R233). -/
def updWrite (s : State) (slice pg fmt e code : Nat) : State :=
  let a := 4096 * pg + e * updWidth fmt
  let s := enginePut (cowPage s (a / 4096)) a (leBytes code (updWidth fmt)) []
  let v := decodeElem fmt code
  if isNan v || isInf v then
    let s := setB (incF s F.SLC_FIN_COUNT_COUNT slice 1) F.SLC_FIN_NONFINITE_ANY slice true
    sliceEvent s slice C.UPD_NONFINITE (lineOf s a)
  else s

/-- What the coordinator sends to every engine (R231): lr, b1t, b2t, a1, a2, and whether the words that hold lr, and b1t and
b2t, are poisoned. -/
structure UpdShare where
  lr : W32
  b1t : W32
  b2t : W32
  a1 : W32
  a2 : W32
  lrPoison : Bool
  bcPoison : Bool
  deriving DecidableEq, Repr

/-- The coordinator's values: a1 = 1 / (1 − b1t) and a2 = 1 / (1 − b2t), each correctly rounded. -/
def updShare (s : State) (u : UpdEntry) : State × UpdShare :=
  let lr := engineGet s (4096 * u.lrPg) 4
  let b := engineGet lr.1 (4096 * u.bcPg) 8
  let b1 := BitVec.ofNat 32 (leNat (b.2.1.take 4))
  let b2 := BitVec.ofNat 32 (leNat (b.2.1.drop 4))
  let inv (t : W32) : W32 := toFp32 .rne (divV (ofFp32 0x3F800000) (addV (ofFp32 0x3F800000) (negV (ofFp32 t))))
  (b.1, ⟨BitVec.ofNat 32 (leNat lr.2.1), b1, b2, inv b1, inv b2, lr.2.2.any id, b.2.2.any id⟩)

/-- σ, the reciprocal of the loss scale (R230). -/
def sigmaNow (s : State) : W32 := BitVec.ofNat 32 (fp32Pow (-(lossExp s)))

/-- One element of an entry (R230, R305): a poisoned result leaves every committed word of the element unchanged. Rule 1
alone uses a1 and a2. -/
def updElem (s : State) (u : UpdEntry) (idx : Nat) (h : UpdShare) (e : Nat) : State :=
  let pa := 4096 * u.pPg + e * updWidth u.pFmt
  let i := routeSlice s pa
  let p := updRead s u.pPg u.pFmt e
  let g := updRead p.1 u.gPg u.gFmt e
  let m := updRead g.1 u.mPg u.sFmt e
  let v := if u.rule = 1 then updRead m.1 u.vPg u.sFmt e else (m.1, 0, false)
  let s := v.1
  if p.2.2 || g.2.2 || m.2.2 || v.2.2 || h.lrPoison || (u.rule == 1 && h.bcPoison) then committedPoison s pa
  else
    let s := setF s F.SLC_UPD_COUNT i (getF s F.SLC_UPD_COUNT i + 1)
    let o := updRule u p.2.1 g.2.1 m.2.1 v.2.1 (sigmaNow s) h.a1 h.a2 h.lr
    let s := updWrite s i u.mPg u.sFmt e (updCode s u u.sFmt e idx 1 o.m)
    let s := if u.rule = 1 then updWrite s i u.vPg u.sFmt e (updCode s u u.sFmt e idx 2 o.v) else s
    updWrite s i u.pPg u.pFmt e (updCode s u u.pFmt e idx 0 o.p)

/-- The elements of an entry from `e` upwards. -/
def updElems (s : State) (u : UpdEntry) (idx : Nat) (h : UpdShare) (e : Nat) : Nat → State
  | 0 => s
  | n + 1 => updElems (updElem s u idx h e) u idx h (e + 1) n

/-- The new b1t and b2t that the coordinator writes after the last element (R230, R231, R233); where the word that holds them
is poisoned they stay as they are (R304, R305). -/
def updBias (s : State) (u : UpdEntry) (h : UpdShare) : State :=
  let a := 4096 * u.bcPg
  if h.bcPoison then committedPoison s a
  else
    let i := routeSlice s a
    updWrite (updWrite s i u.bcPg 0 0 (fMul .rne h.b1t u.b1).toNat) i u.bcPg 0 1 (fMul .rne h.b2t u.b2).toNat

/-- UPDATE_ENTRY_DONE (R230, R231, R380): every engine has processed an entry and the coordinator writes b1t and b2t; the
commit tasks follow the last entry. -/
def execUpdateEntryDone (entry : Nat) (s : State) : Out :=
  if s.mer.working && phase s == 4 && s.mer.entries.contains entry then
    let u := updEntry (s.act.upd.getD entry [])
    let h := updShare s u
    let s := closeRepeats (updBias (updElems h.1 u entry h.2 0 u.count) u h.2)
    let rest := s.mer.entries.filter (· != entry)
    let s := { s with mer := { s.mer with entries := rest } }
    .next (if rest.isEmpty && s.mer.tasksDue then launchCommitTasks s else s)
  else .next s

end Sys2Proof.Machine
end

