-- ==== Sys2Proof/Machine/Arb.lean ====
section
/-!
DEFINITION. Bands and arbitration (09): grants and locked sequences (R275, R276), ETA hints and resent transactions (R277), and
the scale factors of the guarantees (R270, R278 to R280).
-/
namespace Sys2Proof.Machine

/-! ## Grants (R275, R276) -/

/-- A transaction of a master's locked sequence. -/
def ofLock (l : Nat × Nat × Nat × Nat) (x : Txn) : Bool := x.locked && x.cls == l.1 && x.inst == l.2.1

/-- An older transaction of the same master, band and line waits outside the queue (R275). -/
def olderOutside (s : State) (x : Txn) : Bool :=
  s.deep.refused.any (fun r => r.txn.cls == x.cls && r.txn.inst == x.inst && r.txn.band == x.band &&
    r.txn.addr / 256 == x.addr / 256 && decide (r.txn.id < x.id))

/-- The transaction of the highest rank, and the oldest of that rank: the one formed first (R275). -/
def pickTxn (s : State) (l : List Txn) : Option Txn :=
  (l.filter (fun x => !olderOutside s x)).foldl (fun m x =>
    match m with
    | none => some x
    | some y => if y.band < x.band ∨ (y.band = x.band ∧ x.id < y.id) then some x else some y) none

/-- The lock after a grant: owner class and member, grants so far, and the mount cycle of the last one. -/
def lockAfter (s : State) (q : ReqQueue) (x : Txn) : Option (Nat × Nat × Nat × Nat) :=
  if x.locked && !x.last then
    some (x.cls, x.inst, (match q.lock with | some l => if ofLock l x then l.2.2.1 + 1 else 1 | none => 1), mountCyc s)
  else none

/-- A granted transaction that nothing waits for: a slice's own read or write at a channel, whose data has moved already. -/
def ownTraffic (t : ReqTarget) (x : Txn) : Bool :=
  match t with
  | .slice _ => false
  | .chan _ => x.owner == .other

/-- A transaction is granted. -/
def grant (s : State) (t : ReqTarget) (x : Txn) : State :=
  let q := getQ s t
  setQ s (congest s t { q with
    queue := q.queue.filter (fun y => y.id != x.id)
    granted := if ownTraffic t x then q.granted else q.granted ++ [x]
    lock := lockAfter s q x }) t

/-- The lock must end: its next transaction would be the 17th, or has not been queued for 64 mount cycles (R276). -/
def lockTooLong (s : State) (q : ReqQueue) : Bool :=
  match q.lock with
  | none => false
  | some l => decide (16 ≤ l.2.2.1) || (!q.queue.any (ofLock l) && decide (l.2.2.2 + 64 ≤ mountCyc s))

/-- The numbers of a master's locked transactions for a target, wherever they wait, with whether each is the last of its sequence. -/
def lockedIds (s : State) (t : ReqTarget) (l : Nat × Nat × Nat × Nat) : List (Nat × Bool) :=
  let toSlice (x : Txn) : Bool := match t with
    | .slice i => routeSlice s x.addr == i
    | .chan _ => false
  (((getQ s t).queue ++ (s.deep.refused.filter (fun r => r.target == t)).map (·.txn) ++ s.deep.heldReq.filter toSlice).filter (ofLock l)).map
    (fun x => (x.id, x.last))

/-- The last number of the sequence that a lock holds: that of the first transaction marked last which still waits. -/
def lockEnd (ids : List (Nat × Bool)) : Nat :=
  (ids.filter (·.2)).foldl (fun m e => min m e.1) (ids.foldl (fun m e => max m e.1) 0)

/-- The lock ends: the rest of the sequence, queued or not, is arbitrated as unlocked, and the slice or the channel records it
(R276). -/
def breakLock (s : State) (t : ReqTarget) : State :=
  let q := getQ s t
  match q.lock with
  | none => s
  | some l =>
    let m := lockEnd (lockedIds s t l)
    let free (x : Txn) : Txn := if ofLock l x ∧ x.id ≤ m then { x with locked := false } else x
    let s := { s with deep := { s.deep with
      heldReq := s.deep.heldReq.map free
      refused := s.deep.refused.map (fun r => if r.target = t then { r with txn := free r.txn } else r) } }
    let s := setQ s { q with lock := none, queue := q.queue.map free } t
    match t with
    | .slice i => sliceEvent s i C.SLC_LOCK_LONG 0
    | .chan c => record (capture s F.MCH_CAPTURE_CODE F.MCH_CAPTURE_VALID c C.CH_LOCK_LONG) C.CH_LOCK_LONG c

/-- One grant of an arbiter. -/
def arbitrate (s : State) (t : ReqTarget) : State :=
  let s := if lockTooLong s (getQ s t) then breakLock s t else s
  let q := getQ s t
  let next := match q.lock with
    | some l => q.queue.find? (ofLock l)
    | none => pickTxn s q.queue
  match next with
  | some x => grant s t x
  | none => s

/-- ARBITER_GRANT (R275, R276). -/
def execArbiterGrant (target : ReqTarget) (s : State) : Out := .next (arbitrate s target)

/-- LOCKED_SEQUENCE_BREAK (R276). -/
def execLockedSequenceBreak (target : ReqTarget) (s : State) : Out :=
  if lockTooLong s (getQ s target) then .next (breakLock s target) else .next s

/-- ETA_DELAY in force. -/
def etaDelay (s : State) : Nat :=
  let n := getF s F.BND_CTL_ETA_DELAY 0
  if n = 0 then 16 else n

/-- HELD_REQUEST_ISSUE (R272): the oldest request that its master holds in a band is issued once the target and its quotas let
it. -/
def execHeldRequestIssue (cls inst band : Nat) (s : State) : Out :=
  match (heldOf s cls inst band).head? with
  | none => .next s
  | some x =>
    if mayIssue s x then
      .next (hintRefused (enqueue { s with deep := { s.deep with heldReq := s.deep.heldReq.filter (fun y => y.id != x.id) } } x) x.id)
    else .next s

/-- ETA_HINT (R277): a transaction that has waited ETA_DELAY mount cycles returns a hint and stays queued. -/
def execEtaHint (target : ReqTarget) (s : State) : Out :=
  let q := getQ s target
  match q.queue.find? (fun x => !x.hinted && decide (x.born + etaDelay s ≤ mountCyc s)) with
  | none => .next s
  | some x =>
    let eta := etaOf { q with queue := q.queue.filter (fun y => decide (y.id < x.id ∨ x.band < y.band)) } x.band
    let s := setQ s { q with queue := q.queue.map (fun y => if y.id = x.id then { y with hinted := true } else y) } target
    .next (hintLane s x eta)

/-- The slack window of the transfer that a transaction belongs to has closed (R37). -/
def windowClosed (s : State) (x : Txn) : Bool :=
  match x.owner with
  | .xfer id => match s.eph.xfers.find? (fun y => y.id == id) with
    | some y => decide (y.arrival + y.slack < segCycle s)
    | none => false
  | _ => false

/-- A refused transaction may be sent again: its hint has elapsed and its slice is not in reset. One that ended with RETRY is
issued again only while its slack window is open; after that its transfer is the overrun that SLACK_OVERRUN records (R37, R277). -/
def mayResend (s : State) (r : Refused) : Bool :=
  decide (r.until_ ≤ mountCyc s) && !(r.retry && windowClosed s r.txn) && (match r.target with
    | .slice _ => !sliceDown s (routeSlice s r.txn.addr)
    | .chan _ => true)

/-- TRANSACTION_RESEND (R37, R277): a refused transaction is sent again. -/
def execTransactionResend (cls inst band : Nat) (s : State) : Out :=
  let mine (r : Refused) : Bool := r.txn.cls == cls && r.txn.inst == inst && r.txn.band == band
  match s.deep.refused.find? (fun r => mine r && mayResend s r) with
  | none => .next s
  | some r =>
    let s := { s with deep := { s.deep with refused := s.deep.refused.filter (fun y => y.txn.id != r.txn.id) } }
    .next (hintRefused (place s r.txn (match r.target with
      | .slice _ => .slice (routeSlice s r.txn.addr)
      | .chan c => .chan ((chanOf s r.txn.addr).getD c))) r.txn.id)

/-! ## Loads and capacities (R278, R280) -/

/-- A fraction: numerator and denominator. -/
abbrev Frac := Nat × Nat

/-- The sum of two fractions. -/
def fracAdd (a b : Frac) : Frac := if a.1 = 0 then b else if b.1 = 0 then a else (a.1 * b.2 + b.1 * a.2, a.2 * b.2)

/-- Instances of a master class in the device and in a tower (Table: Master classes). -/
def masterCount (m : Nat) (tower : Bool) : Nat :=
  let n := if m ≤ 1 then 512 else if m ≤ 4 then 4 else 192
  if tower then n / 4 else n

/-- The guaranteed load of a channel's own share, in units of 10 MB/s over 192 (R278). -/
def baseLoad (s : State) (c : Nat) : Nat :=
  (List.range 48).foldl (fun n k =>
    let m := k / 8
    let u := m * 8 + k % 8
    let rate := getF s F.BND_GUAR_RATE u
    match getF s F.BND_GUAR_SCOPE u with
    | 0 => n + masterCount m false * rate
    | t => if t = c / 48 + 1 then n + 4 * masterCount m true * rate else n) 0

/-- The part of the share of channel `orig` that lies in channel `c` under the spreads, taken as equal parts (assumption 44). -/
def sharePart (gens : List SpreadGen) (orig c : Nat) : Frac :=
  let parts := gens.foldl (fun (ps : List (Nat × Frac)) g =>
    if g.orig = orig ∧ g.targets ≠ [] then
      let here := (ps.filter (fun p => p.1 == g.failed)).map (·.2)
      let others := ps.filter (fun p => p.1 != g.failed)
      here.foldl (fun ps f => g.targets.foldl (fun ps k => ps ++ [(k, (f.1, f.2 * g.targets.length))]) ps) others
    else ps) [(orig, (1, 1))]
  ((parts.filter (fun p => p.1 == c)).map (·.2)).foldl fracAdd (0, 1)

/-- The load of a channel: its own share and those spread into it. -/
def chanLoad (s : State) (gens : List SpreadGen) (c : Nat) : Frac :=
  let origs := (c :: gens.map (·.orig)).eraseDups
  origs.foldl (fun acc o => let f := sharePart gens o c; fracAdd acc (baseLoad s o * f.1, 192 * f.2)) (0, 1)

/-- Three times the data peak of a channel in units of 10 MB/s (R242). -/
def peak3 (s : State) : Nat :=
  match isLp5x s, getF s F.MEM_CFG_RATE 0 with
  | false, 0 => 11520
  | false, 1 => 10240
  | false, _ => 8960
  | true, 0 => 6420
  | true, 1 => 5760
  | true, _ => 5120

/-- 256 times capacity over load, rounded down and limited to 256. -/
def factorOf (cap load : Frac) : Nat := if load.1 = 0 then 256 else min 256 (256 * cap.1 * load.2 / (cap.2 * load.1))

/-- The capacity of a channel at a derating factor. -/
def chanCap (s : State) (factor : Nat) : Frac := (85 * peak3 s * factor, 100 * 3 * 256)

/-- The capacity of a slice. -/
def sliceCap : Frac := (85 * 17920, 100)

/-- The targets of a tower or of the device: slice or channel, index, capacity and load. A channel out of service and a folded
slice carry nothing. -/
def targets (s : State) (gens : List SpreadGen) (factor : Nat → Nat) (tower : Option Nat) : List (Nat × Nat × Frac × Frac) :=
  let cs := match tower with
    | none => List.range 192
    | some t => (List.range 48).map (48 * t + ·)
  let load (c : Nat) : Frac := chanLoad s gens c
  let own (c : Nat) : Bool := !(gens.any (fun g => g.failed == c))
  (cs.filter own).map (fun c => (1, c, chanCap s (factor c), load c)) ++
    cs.filterMap (fun i =>
      if getB s F.SLC_STATUS_FOLDED i then none
      else some (0, i, sliceCap, if getB s F.SLC_STATUS_SERVING i then fracAdd (load i) (load (i ^^^ 1)) else load i))

/-- The smallest factor of a scope with the target that sets it. -/
def scopeFactor (s : State) (gens : List SpreadGen) (factor : Nat → Nat) (tower : Option Nat) : Nat × Nat × Nat :=
  (targets s gens factor tower).foldl (fun m x => let f := factorOf x.2.2.1 x.2.2.2; if f < m.1 then (f, x.1, x.2.1) else m) (256, 0, 0)

/-- The scope numbered as BND_GUAR.SCOPE numbers it. -/
def scopeTower (k : Nat) : Option Nat := if k = 0 then none else some (k - 1)

/-- LREF in force. -/
def lref (s : State) : Nat :=
  let n := getF s F.BND_CTL_LREF 0
  if n < 100 then 400 else n

/-- GQ of a guarantee at a factor (R270): at least 1 where RATE is not 0. -/
def guaranteedQuota (s : State) (u f : Nat) : Nat :=
  let rate := getF s F.BND_GUAR_RATE u
  if rate = 0 then 0 else max 1 (ceilDiv (rate * f * lref s) (100 * 256 * 256))

/-- The quotas of every guarantee at the factors in force. -/
def postQuotas (s : State) : State :=
  (List.range 48).foldl (fun s u => setF s F.BND_QUOTA_GQ u (min 1023 (guaranteedQuota s u (getF s F.BND_SCALE_FACTOR (getF s F.BND_GUAR_SCOPE u))))) s

/-- The derating factor that each channel posts. -/
def derateNow (s : State) (c : Nat) : Nat := getF s F.MCH_DERATE_FACTOR c

/-- The factors recomputed from the state in force; with `note`, each change is recorded (R280). -/
def rescale (s : State) (note : Bool) : State :=
  let s := (List.range 5).foldl (fun s k =>
    let f := scopeFactor s s.store.spreads (derateNow s) (scopeTower k)
    let old := getF s F.BND_SCALE_FACTOR k
    let s := setF s F.BND_SCALE_FACTOR k f.1
    let s := if k = 0 then setF (setF s F.BND_WORST_KIND 0 f.2.1) F.BND_WORST_INDEX 0 f.2.2 else s
    if note ∧ f.1 ≠ old then incF (recordWith s C.GUARANTEE_SCALED k [k, f.1]) F.BND_SCALED_COUNT 0 1 else s) s
  postQuotas s

/-- GUARANTEE_SCALED (R280): at the 10 µs boundary of device time after a change. -/
def execGuaranteeScaled (s : State) : Out :=
  match s.deep.scaleDue with
  | some t => if t ≤ nowNs s then .next (rescale { s with deep := { s.deep with scaleDue := none } } true) else .next s
  | none => .next s

/-- Every target's load is within its capacity with every channel in service at FACTOR 0xE1 (R279). -/
def bandsAdmitted (s : State) : Bool :=
  (targets s s.store.spreads (fun _ => 225) none).all (fun x => decide (x.2.2.2.1 * x.2.2.1.2 ≤ x.2.2.1.1 * x.2.2.2.2))

end Sys2Proof.Machine
end

