-- ==== Sys2Proof/Machine/Array.lean ====
section
/-!
DEFINITION. The commands of the cube arrays and the finder path (03): passes, drains, the end of an operation, faults and
re-runs. Times are datapath cycles of the tile (assumption 20).
-/
namespace Sys2Proof.Machine

/-- The operation starts on the datapath of a tile: the first weight set of an array operation is loaded into the shadow (R49, R54);
a finder operation overwrites accumulators A, B and C (R63, R65). -/
def startOp (s : State) (t : Nat) (d : ADesc) (bundle : Nat) (rerun poison : Bool) : State :=
  let a := getArr s t
  let t0 := dpTime s t
  let op : ArrOp :=
    if d.finder then
      { desc := d, bundle := bundle, rerun := rerun, acc := pieces d, chunk := 0, passEnd := t0
        drainEnds := finderEnds d 0 t0 [] (pieces d), drained := 0, passes := 0, poisonRerun := poison }
    else
      { desc := d, bundle := bundle, rerun := rerun, acc := 0, chunk := 0, passEnd := t0 + loadCycles d + passCycles d 0
        drainEnds := [], drained := 0, passes := 0, poisonRerun := poison }
  let s := if d.finder then setArr s t { a with op := some op, acc := clearAcc (clearAcc (clearAcc a.acc 0) 1) 2 }
    else setArr s t { a with op := some op, shadow := some (loadSet s t d 0 0) }
  let s := setB (setB s F.ARR_STATUS_BUSY t (!d.finder)) F.ARR_STATUS_FINDER t d.finder
  let s := setB (setB s F.ARR_STATUS_RERUN t rerun) F.ARR_STATUS_HALF t false
  setF s F.ARR_OPIDX_OP_INDEX t d.opIndex

/-- The pass after the one under way: its accumulation and chunk (R51). -/
def nextPass (o : ArrOp) : Nat × Nat := if o.chunk + 1 < chunks o.desc then (o.acc, o.chunk + 1) else (o.acc + 1, 0)

/-- The weight set of the pass under way: the shadow became active in the pass's first cycle (R53). -/
def passSet (s : State) (t : Nat) (o : ArrOp) : WeightSet := ((getArr s t).shadow).getD (loadSet s t o.desc o.acc o.chunk)

/-- During the pass under way its weight set is active and the set of the next pass is loaded into the shadow (R53, R54). -/
def moveSets (s : State) (t : Nat) (o : ArrOp) : State :=
  let nx := nextPass o
  setArr s t { getArr s t with
    active := some (passSet s t o)
    shadow := if nx.1 < pieces o.desc then some (loadSet s t o.desc nx.1 nx.2) else none }

/-- The half of the accumulators that the accumulation under way uses is free: the drain two before it has finished, or the one
before it where each accumulation uses both halves (R57). -/
def halfFree (o : ArrOp) : Bool :=
  !o.desc.drain || decide (o.acc ≤ o.drained + if o.desc.s ≤ 1024 then 1 else 0)

/-- The pass under way has ended: its chunk joins the accumulators, and the next pass is placed (R51 to R57). -/
def passDone (s : State) (t : Nat) (o : ArrOp) : State :=
  let d := o.desc
  let r := runPass s t d (passSet s t o) (getArr s t).acc o.acc o.chunk
  let s := moveSets s t o
  let s := incF (incF s F.FIN_SAT_COUNT t r.sat) F.FIN_NAN_IN_COUNT t r.nanIn
  let s := if r.nanIn = 0 then s else setB s F.FIN_STEP_NAN_IN t true
  let s := if r.sat = 0 then s else setB s F.FIN_STEP_SAT_ANY t true
  let s := addCount (addCount s F.ARR_PASS_COUNT t 1) F.ARR_STREAM_COUNT t (ceilDiv (accRows d o.acc) 4)
  let s := addCount s F.ARR_WAIT_COUNT t o.waited
  if o.chunk + 1 < chunks d then
    setArr s t { getArr s t with acc := r.acc, op := some { o with chunk := o.chunk + 1, passes := o.passes + 1, waited := 0
                                                                   passEnd := o.passEnd + passCycles d o.acc } }
  else
    let ends := o.drainEnds ++ [drainEnd d o.acc o.passEnd o.drainEnds]
    let nx := o.acc + 1
    let st := nextStart d nx o.passEnd ends
    let more := decide (nx < pieces d)
    let s := if more && decide (d.s ≤ 1024) then setB s F.ARR_STATUS_HALF t (nx % 2 == 1) else s
    setArr s t { getArr s t with acc := r.acc, op := some { o with acc := nx, chunk := 0, passes := o.passes + 1, drainEnds := ends, waited := st - o.passEnd
                                                                   passEnd := if more then st + passCycles d nx else o.passEnd } }

/-- ARRAY_PASS_COMPLETE (R51 to R57, R92 to R94). -/
def execArrayPassComplete (tile : Nat) (s : State) : Out :=
  match (getArr s tile).op with
  | some o => .next (if !o.desc.finder && decide (o.acc < pieces o.desc) && halfFree o && dpRuns s tile && decide (o.passEnd ≤ dpTime s tile)
      then passDone s tile o else s)
  | none => .next s

/-- The old words that a drain of piece `a` merges its scale bytes into are recovered first where they need it (R98, R299). -/
def recoverScales (s : State) (t : Nat) (d : ADesc) (a : Nat) : State :=
  if d.oMx then
    let n0 := if d.finder then 0 else 4 * (a / stripes d)
    let r0 := if d.finder then 4 * a else a % stripes d * d.s
    let rows := if d.finder then min 4 (d.m - 4 * a) else accRows d a
    let w := if d.finder then ceilDiv d.n 32 else accBlocks d a
    let sb := d.oBase + dataBytes d.oFmt d.m d.n
    (List.range rows).foldl (fun s i => recoverRange s (focalAddr t (sb + (r0 + i) * ceilDiv d.n 32 + n0)) w) s
  else s

/-- ACCUM_DRAIN_COMPLETE (R56, R63): the oldest drain that has ended writes its outputs. -/
def execAccumDrainComplete (tile : Nat) (s : State) : Out :=
  match (getArr s tile).op with
  | some o =>
    match o.drainEnds[o.drained]? with
    | some e =>
      if o.desc.drain && dpRuns s tile && decide (e ≤ dpTime s tile) then
        let s := recoverScales s tile o.desc o.drained
        let s := if o.desc.finder then
            let n := finderBad s tile o.desc o.drained
            let s := incF (addCount s F.FND_STREAM_COUNT tile (finderStream o.desc)) F.FIN_NAN_IN_COUNT tile n
            let s := if n = 0 then s else setB s F.FIN_STEP_NAN_IN tile true
            let s := runFinder s tile o.desc o.drained
            setArr s tile { getArr s tile with acc := finderAcc s tile o.desc o.drained (getArr s tile).acc }
          else runDrain s tile o.desc (getArr s tile).acc o.drained
        .next (setArr s tile { getArr s tile with op := some { o with drained := o.drained + 1 } })
      else .next s
    | none => .next s
  | none => .next s

/-- Every accumulation and every drain of the operation has finished (R49). -/
def opFinished (s : State) (t : Nat) (o : ArrOp) : Bool :=
  decide (pieces o.desc ≤ o.acc) &&
    (if o.desc.drain then decide (pieces o.desc ≤ o.drained) else decide (o.passEnd ≤ dpTime s t))

/-- A weight word of an operation is marked poisoned. -/
def weightsPoisoned (s : State) (t : Nat) (d : ADesc) : Bool :=
  match (opExtents d)[1]? with
  | some (o, n) => (readBytes s (focalAddr t o) n).2.any id
  | none => false

/-- The operation in progress has its WBLOCK_POISON_KEPT recorded, once (R79). -/
def recordKept (s : State) (t : Nat) : State :=
  match (getArr s t).op with
  | some o => if o.kept then s
      else setArr (record s C.WBLOCK_POISON_KEPT t) t { getArr s t with op := some { o with kept := true } }
  | none => s

/-- An operation of a re-run starts; one of a WBLOCK_POISON fault whose weight words are still poisoned records it (R79). -/
def startRerunOp (s : State) (t : Nat) (d : ADesc) (bundle : Nat) (poison : Bool) : State :=
  let bad := poison && weightsPoisoned s t d
  let s := startOp s t d bundle true poison
  if bad then recordKept s t else s

/-- ARRAY_OP_COMPLETE (R49, R58, R75): the operation ends and its bundle's slot retires; a re-run of a chain goes on with the
chain's next operation. -/
def execArrayOpComplete (tile : Nat) (s : State) : Out :=
  match (getArr s tile).op with
  | some o =>
    if opFinished s tile o && dpRuns s tile then
      let a := getArr s tile
      let chain := if o.desc.drain || o.desc.finder then [] else if o.desc.accIn then a.chain ++ [o.desc] else [o.desc]
      let s := setB s F.ARR_STATUS_CHAIN tile (!chain.isEmpty)
      let s := setArr s tile { a with op := none, chain := chain, lastOp := some o.desc }
      let s := setB (setB (setB s F.ARR_STATUS_BUSY tile false) F.ARR_STATUS_FINDER tile false) F.ARR_STATUS_RERUN tile false
      match a.rest with
      | d :: rest => .next (startRerunOp (setArr s tile { getArr s tile with rest := rest }) tile d o.bundle o.poisonRerun)
      | [] => .next (retireSlot s tile o.bundle)
    else .next s
  | none => .next s

/-! ## Faults (R73 to R79) -/

/-- The code of a fault that the sequencer detects. -/
def arrayCode (f : ArrayFault) : FaultCode :=
  match f.kind with
  | 0 => C.WREG_PARITY
  | 1 => C.WBLOCK_POISON
  | 2 => C.CUBE_PARITY
  | 3 => C.ACC_PARITY
  | 4 => C.FINDER_PARITY
  | 5 => C.RETENTION_LOST

/-- ARR_CAPTURE takes the first fault while VALID is 0. -/
def captureArr (s : State) (t : Nat) (code array pass : Nat) : State :=
  if getB s F.ARR_CAPTURE_VALID t then s
  else
    let s := setF s F.ARR_CAPTURE_CODE t (code % 256)
    let s := setF s F.ARR_CAPTURE_ARRAY t (if array < 4 then array else 0)
    let s := setB s F.ARR_CAPTURE_FINDER t (array == 4)
    setB (setF s F.ARR_CAPTURE_PASS t pass) F.ARR_CAPTURE_VALID t true

/-- FAULT_LIMIT in use (R82). -/
def faultLimit (s : State) (t : Nat) : Nat :=
  let n := getF s F.ARR_CFG_FAULT_LIMIT t
  if n ≤ 1 then 4 else n

/-- ARRAY_REPEAT (R78): recorded, and the tile shuttered and slewed. -/
def arrayRepeat (s : State) (t : Nat) : State :=
  shutterLogical (captureArr (record s C.ARRAY_REPEAT t) t C.ARRAY_REPEAT.code 0 0) t

/-- Page-code recovery is asked for every uncorrectable word of the weights of an operation (R74). -/
def recoverWeights (s : State) (t : Nat) (d : ADesc) : State :=
  match (opExtents d)[1]? with
  | some (o, n) => noteFocal s (focalAddr t o / 32 * 32) (ceilDiv n 32)
  | none => s

/-- The pages under recovery that hold weights of an operation. -/
def weightPages (s : State) (t : Nat) (d : ADesc) : List Nat :=
  match (opExtents d)[1]? with
  | some (o, n) => (s.store.recov.map (·.page)).filter (fun p => meets p 4096 (focalAddr t o) n)
  | none => []

/-- Recovery is asked for the weights of the operations of a re-run, and the pages that it waits for are given (R74). -/
def recoverOps (s : State) (t : Nat) (ops : List ADesc) : State × List Nat :=
  let s := ops.foldl (fun s d => recoverWeights s t d) s
  (s, (ops.flatMap (weightPages s t)).eraseDups)

/-- The weight block of an array in a set that failed its check: every code of it is a free value (assumption 104). -/
def loseBlock (draw array : Nat) (w : WeightSet) : WeightSet :=
  { w with elems := (w.elems.zipIdx).map (fun e =>
      if e.2 / w.rows / 32 = array then ((Config.lostWord draw e.2).toNat % 2 ^ elemBits w.fmt, false) else e.1) }

/-- A fault outside an operation discards the contents that failed their check, and nothing else (R73): of the accumulator named its
entries, of a weight register, a shadow or a wake the weight blocks of the array named. They hold free values from then on
(assumption 104). -/
def discardChecked (s : State) (t : Nat) (f : ArrayFault) : State :=
  let a := getArr s t
  let n := s.sys.free
  let lost (w : Option WeightSet) : Option WeightSet := w.map (loseBlock n f.array)
  match f.kind with
  | 0 | 5 => setArr (takeFree s) t { a with active := lost a.active, shadow := lost a.shadow }
  | 3 => setArr (takeFree s) t { a with acc := a.acc.map (fun e =>
      if e.1 / 65536 = f.array then (e.1, accEntry (Config.lostWord n e.1) false) else e) }
  | _ => s

/-- An operation uses an entry of the accumulators: the arrays of its column blocks and the rows of its stripes, in both halves from
its second accumulation on (R42, R50, R57); a finder operation uses A, B and C (R65). -/
def opUses (d : ADesc) (key : Nat) : Bool :=
  let array := key / 65536
  let row := key % 65536 / 32
  if d.finder then decide (array < 3)
  else decide (array < min 4 (ceilDiv d.n 32)) &&
    (if d.s ≤ 1024 then decide (row % 1024 < d.s) && (decide (row < 1024) || decide (2 ≤ accumulations d)) else decide (row < d.s))

/-- The faulted operation is discarded, with its accumulator contents, its weight sets and its drain, and its re-run pends from the head
of its chain (R73 to R75). -/
def pendRerun (s : State) (t : Nat) (o : ArrOp) (poison : Bool) : State :=
  let ops := if o.desc.accIn then (getArr s t).chain ++ [o.desc] else [o.desc]
  let r := if poison then recoverOps s t ops else (s, [])
  let s := dropArray r.1 t
  let a := getArr s t
  let sets (w : Option WeightSet) : Option WeightSet := if o.desc.finder then w else none
  setArr s t { a with acc := a.acc.filter (fun e => !opUses o.desc e.1), active := sets a.active, shadow := sets a.shadow
                      rerun := some { readyAt := s.clk.cyc + 16, pages := r.2, poison := poison, ops := ops, bundle := o.bundle } }

/-- A further fault before the re-run has begun: the re-run begins at the latest of the start times (R74). -/
def laterRerun (s : State) (t : Nat) (r : Rerun) (poison : Bool) : State :=
  let x := if poison then recoverOps s t r.ops else (s, [])
  setArr x.1 t { getArr x.1 t with rerun := some { r with
    readyAt := max r.readyAt (s.clk.cyc + 16), pages := (r.pages ++ x.2).eraseDups, poison := r.poison || poison } }

/-- What follows from the faults of one cycle, once recorded and counted: a re-run, a later start of the one that pends, or contents
discarded (R73, R74). -/
def faultActs (s : State) (t : Nat) (fs : List ArrayFault) : State :=
  let a := getArr s t
  let poison := fs.any (fun f => f.kind == 1)
  match a.op with
  | some o => pendRerun s t o poison
  | none =>
    match a.rerun with
    | some r => laterRerun s t r poison
    | none => fs.foldl (fun s f => discardChecked s t f) s

/-- ARRAY_FAULT_DETECT (R73, R74, R78 to R80): faults detected in one cycle, each recorded, one counted. Poison that a re-run of
a WBLOCK_POISON fault still finds is recorded as kept and is no fault (R79). -/
def arrayFaults (s : State) (t : Nat) (fs : List ArrayFault) : State :=
  let op := (getArr s t).op
  let known := op.any (·.poisonRerun)
  let s := if known && fs.any (fun f => f.kind == 1) then recordKept s t else s
  let real := fs.filter (fun f => !(known && f.kind == 1))
  if real.isEmpty then s
  else
    let pass := (op.map (·.passes)).getD 0
    let s := real.foldl (fun s f => captureArr (record s (arrayCode f) t) t (arrayCode f).code f.array pass) s
    let s := incF (syncWindow s t) F.ARR_FAULTS_IN_WINDOW t 1
    if op.any (·.rerun) || decide (faultLimit s t ≤ getF s F.ARR_FAULTS_IN_WINDOW t) then arrayRepeat (faultActs s t real) t
    else faultActs s t real

def execArrayFaultDetect (tile : Nat) (faults : List ArrayFault) (s : State) : Out := .next (arrayFaults s tile faults)

/-- ARRAY_RERUN_START (R74, R75, R79, R80): the restart interval has ended, the pages waited for are recovered, and nothing holds the
tile. -/
def execArrayRerunStart (tile : Nat) (s : State) : Out :=
  match (getArr s tile).rerun with
  | some r =>
    let recovering := s.store.recov.any (fun x => r.pages.contains x.page)
    if decide (r.readyAt ≤ s.clk.cyc) && dpRuns s tile && !recovering then
      match r.ops with
      | [] => .next s
      | d :: rest =>
        let s := setArr s tile { getArr s tile with rerun := none, rest := rest }
        .next (startRerunOp (incF s F.ARR_FAULTS_RERUNS tile 1) tile d r.bundle r.poison)
    else .next s
  | none => .next s

/-- FAULT_WINDOW_END (R78): a whole multiple of the window's length in device time has passed. -/
def execFaultWindowEnd (tile : Nat) (s : State) : Out := .next (syncWindow s tile)

end Sys2Proof.Machine
end

