-- ==== Sys2Proof/Machine/Chan.lean ====
section
/-!
DEFINITION. The channels (08): refresh and temperature (R250 to R252), training outcomes (R254 to R256), shutters and spread
(R257 to R262), and lamps (R263, R264).
-/
namespace Sys2Proof.Machine

/-- A code of class 0x06 captured and recorded by a channel. -/
def chanEvent (s : State) (c : Nat) (code : FaultCode) (origin : Nat := 0) : State :=
  record (capture s F.MCH_CAPTURE_CODE F.MCH_CAPTURE_VALID c code) code c origin

/-! ## From channel-local page to bank and row (R249) -/

/-- Banks that a page index selects among: 16 on LPDDR6, 8 pairs on LPDDR5X (R249). -/
def bankCount (s : State) : Nat := if isLp5x s then 8 else 16

/-- Row data of a bank in units of 2 KiB (R249); the row code of the packages is kept in the board profile (assumption 46). -/
def rowUnits (s : State) : Nat :=
  match lastRec s tSeen 0 with
  | some r => 1 + fld r.body 4 1
  | none => 1

/-- Where a word of a channel-local page lies in its package: the rank, the sub-channel of LPDDR6 or none, the bank, the row and the
column byte. -/
structure WordPlace where
  rank : Nat
  sub : Option Nat
  bank : Nat
  row : Nat
  column : Nat
  deriving DecidableEq, Repr

/-- Ranks of a channel. -/
def ranks (s : State) : Nat := getF s F.MEM_CFG_RANKS 0 + 1

/-- The place of word `w` of channel-local page `p` (R249). -/
def wordPlace (s : State) (p w : Nat) : WordPlace :=
  let nb := bankCount s
  let kp := rowUnits s
  let ppr := channelBytes s / ranks s / 4096
  let q := p % ppr
  let seg := q / nb % kp
  let row := q / (nb * kp)
  let b := (q % nb) ^^^ (row % nb) ^^^ (row / nb % nb)
  let part := w % 2
  let lp5 := isLp5x s
  { rank := p / ppr, sub := if lp5 then none else some part, bank := if lp5 then b + 8 * part else b, row := row
    column := 2048 * seg + 32 * (w / 2) }

/-! ## Refresh (R250) -/

/-- Banks of a channel in its turn order: 16 of each rank, rank by rank (R242). -/
def bankTurns (s : State) : Nat := 16 * ranks s

/-- Banks of a channel for which a request waits: those of the words that the request touches. -/
def busyBanks (s : State) (c : Nat) : List Nat :=
  (getChan s c).rq.queue.flatMap (fun x => match homeOf s x.addr with
    | some (_, p, _) => (wordsOf x.addr x.len).map (fun a => let k := wordPlace s p (a / 32 % 128); 16 * k.rank + k.bank)
    | none => [])

/-- The interval between refreshes in ns: half the standard one from DOUBLED upwards (R250, R251). -/
def refreshGap (s : State) (c : Nat) : Nat :=
  let n := Config.refreshNs (getF s F.MEM_CFG_PKG 0) (isLp5x s)
  if getF s F.MCH_STATUS_TEMP c = 0 then n else n / 2

/-- The derating factor of a temperature state (R251, Achievable bandwidth). -/
def derateOf (temp : Nat) : Nat := match temp with
  | 0 => 0xE1
  | 1 => 0xD8
  | _ => 0x6C

/-- The factor posted after a change of state; a shuttered channel shows 0. -/
def postDerate (s : State) (c : Nat) : State :=
  let st := getF s F.MCH_STATUS_STATE c
  setF s F.MCH_DERATE_FACTOR c (if getB s F.FLT_SHUT_CHANNEL c = true ∨ st = 4 ∨ st = 6 then 0 else derateOf (getF s F.MCH_STATUS_TEMP c))

/-- A change of temperature state takes effect at a refresh: MCH_DERATE changes and the guarantees are scaled (R252, R266). -/
def takeDerate (s : State) (c : Nat) : State :=
  let h := getChan s c
  if h.derateDue then loadChanged (postDerate (setChan s c { h with derateDue := false }) c) else s

/-- The bank whose refresh is due: the next in turn of those that the round under way has not refreshed, one for which no request waits
where there is such a bank (R250). -/
def dueBank (s : State) (c : Nat) : Nat :=
  let h := getChan s c
  let n := bankTurns s
  let busy := busyBanks s c
  let left := ((List.range n).map (fun k => (h.bank + 1 + k) % n)).filter (fun b => !h.refreshed.contains b)
  match left.find? (fun b => !busy.contains b) with
  | some b => b
  | none => left.headD ((h.bank + 1) % n)

/-- PER_BANK_REFRESH (R250): once its interval has passed the due bank is refreshed; every bank is refreshed once before any is
again. -/
def execPerBankRefresh (chan : Nat) (s : State) : Out :=
  let st := getF s F.MCH_STATUS_STATE chan
  if st = 0 ∨ st = 3 ∨ passed s (getChan s chan).lastRefresh (refreshGap s chan) = false then .next s
  else
    let h := getChan s chan
    let b := dueBank s chan
    let done := if h.refreshed.length + 1 < bankTurns s then b :: h.refreshed else []
    .next (takeDerate (setChan s chan { h with bank := b, refreshed := done, lastRefresh := elapsedNs s }) chan)

/-! ## Package temperature (R251, R252) -/

/-- The rising threshold of a temperature state in °C. -/
def tempRise (st : Nat) : Int := match st with
  | 0 => -1000
  | 1 => 85
  | 2 => 95
  | _ => 105

/-- The highest state whose rising threshold a reading has passed. -/
def tempUp (temp : Int) (out : Bool) : Nat :=
  if out ∨ 105 < temp then 3 else if 95 < temp then 2 else if 85 < temp then 1 else 0

/-- The code of a temperature state. -/
def tempCode (st : Nat) : FaultCode := if st = 1 then C.CH_REFRESH_DOUBLE else if st = 2 then C.CH_THROTTLE else C.CH_OVERHEAT

/-- A channel enters a temperature state; its derating factor changes at the next refresh (R266). -/
def setTemp (s : State) (c st : Nat) : State :=
  let s := setF s F.MCH_STATUS_TEMP c st
  setChan s c { getChan s c with derateDue := true }

/-- Since when readings have stood 5 °C below each threshold. -/
def belowSince (now : Nat) (temp : Int) (out : Bool) (old : List (Nat × Nat)) : List (Nat × Nat) :=
  ([1, 2, 3].filter (fun k => decide (temp ≤ tempRise k - 5) && !(out && k == 3))).map (fun k =>
    (k, match old.find? (fun e => e.1 == k) with
      | some e => e.2
      | none => now))

/-- The state reached by falling: each state is left for the one below it when readings have stood 5 °C below its threshold for
1 s. -/
def fallTo (now : Nat) (below : List (Nat × Nat)) : Nat → Nat
  | 0 => 0
  | k + 1 =>
    match below.find? (fun e => e.1 == k + 1) with
    | some e => if e.2 + 1000000000 ≤ now then fallTo now below k else k + 1
    | none => k + 1

/-- A reading acts on one channel (R251): every state whose threshold a rise has passed is reported. -/
def tempPoll (s : State) (c : Nat) (temp : Int) (out : Bool) : State :=
  let h := getChan s c
  let now := elapsedNs s
  let st := getF s F.MCH_STATUS_TEMP c
  let up := tempUp temp out
  let below := belowSince now temp out h.below
  let s := setChan s c { h with lastPoll := now, below := below }
  if st < up then
    ((List.range 4).filter (fun k => decide (st < k) && (decide (tempRise k < temp) || k == up))).foldl (fun s k => chanEvent s c (tempCode k)) (setTemp s c up)
  else
    let down := max up (fallTo now below st)
    if down < st then setTemp s c down else s

/-- PKG_TEMP_POLL (R251): the eight channels of a package read its temperature, every 16 ms. -/
def execPkgTempPoll (pkg : Nat) (temp : Int) (outOfRange : Bool) (s : State) : Out :=
  let due := (List.range 8).all (fun i => let h := getChan s (8 * pkg + i); h.lastPoll == 0 || passed s h.lastPoll 16000000)
  let live (c : Nat) : Bool := getF s F.MCH_STATUS_STATE c != 0
  if due then .next (((List.range 8).map (8 * pkg + ·)).foldl (fun s c => if live c then tempPoll s c temp outOfRange else s) s)
  else .next s

/-! ## Shutters and spread (R257 to R262) -/

/-- A channel is neither shuttered nor spread, nor on its way to be. -/
def canTake (s : State) (c : Nat) : Bool :=
  !getB s F.FLT_SHUT_CHANNEL c && !getB s F.MCH_STATUS_SPREAD c && (getChan s c).copy != some true

/-- The channels that take the pages of a shuttered channel (R258). -/
def spreadTargets (s : State) (c : Nat) : List Nat :=
  ((List.range 48).map (48 * (c / 48) + ·)).filter (fun k => k != c && canTake s k)

/-- The origins whose pages lie in a channel: its own share, and those spread into it. -/
def originsIn (s : State) (c : Nat) : List Nat :=
  (c :: (s.store.spreads.filter (fun g => g.targets.contains c)).map (·.orig)).eraseDups

/-- Pages in the reserve of a channel under a list of spreads, equal parts rounded up (assumption 44). -/
def reserveUsed (s : State) (gens : List SpreadGen) (c : Nat) : Nat :=
  (gens.map (·.orig)).eraseDups.foldl (fun n o =>
    if o = c then n else let f := sharePart gens o c; n + ceilDiv (sharePages s o * f.1) f.2) 0

/-- The spreads after a channel's pages have moved (R258). -/
def spreadsAfter (s : State) (c : Nat) : List SpreadGen :=
  let ts := spreadTargets s c
  s.store.spreads ++ (originsIn s c).map (fun o => ⟨o, c, ts⟩)

/-- The targets can hold what is spread into them (R259). -/
def spreadFits (s : State) (gens : List SpreadGen) (c : Nat) : Bool :=
  let ts := spreadTargets s c
  !ts.isEmpty && ts.all (fun k => decide (reserveUsed s gens k ≤ reservePages s))

/-- SPREAD_IN of every channel of a tower. -/
def postSpreads (s : State) (c : Nat) : State :=
  ((List.range 48).map (48 * (c / 48) + ·)).foldl (fun s k =>
    let n := ((s.store.spreads.filter (fun g => g.orig != k && spreadPlace s.store.spreads g.orig k == k || g.targets.contains k)).map (·.orig)).eraseDups.length
    setF s F.MCH_STATUS_SPREAD_IN k n) s

/-- The cached lines whose pages lie in a channel. -/
def linesIn (s : State) (c : Nat) (x : CLine) : Bool := placeOf s x.chan (x.line / 16) == c

/-- Every cached line that a test picks written back and gone. -/
def flushLines (s : State) (p : State → CLine → Bool) : State :=
  let s' := s.deep.sets.foldl (fun s e => (e.2.filter (p s)).foldl (fun s x => writeLive s e.1.1 e.1.2 x) s) s
  dropCached s' (p s')

/-- Every cached line of a channel's pages written back and gone. -/
def flushChannel (s : State) (c : Nat) : State := flushLines s (fun s => linesIn s c)

/-- The addresses of the pinned lines that a test picks. -/
def pinnedLines (s : State) (p : CLine → Bool) : List Nat :=
  s.deep.sets.flatMap (fun e => (e.2.filter (fun x => x.pinned && p x)).map (·.base))

/-- Requests that wait at a channel, or that it has granted, go to the channels that hold their pages now (R258). -/
def moveQueue (s : State) (c : Nat) : State :=
  let q := (getChan s c).rq
  let s := setChan s c { getChan s c with rq := {} }
  (q.granted ++ q.queue).foldl (fun s x => match chanOf s x.addr with
    | some k => place s x (.chan k)
    | none => s) s

/-- The pages of a channel have moved: the shutter closes, the spread is recorded, loads have changed (R258, R259, R519). Pages that
the reserves cannot hold are not reachable. With no image the spread holds for the image to come (assumption 47). -/
def closeChannel (s : State) (c origin : Nat) : State :=
  let gens := spreadsAfter s c
  let fits := spreadFits s gens c
  let s := postDerate (setB (setF s F.MCH_STATUS_STATE c 4) F.FLT_SHUT_CHANNEL c true) c
  if fits || s.act.image.isNone then
    let s := setB { s with store := { s.store with spreads := gens } } F.MCH_STATUS_SPREAD c true
    loadChanged (moveQueue (postSpreads (chanEvent s c C.CH_SPREAD origin) c) c)
  else
    let s := { s with store := { s.store with short := s.store.short ++ [c] } }
    loadChanged (moveQueue (chanEvent s c C.CH_SPREAD_SHORT origin) c)

/-- The channels whose pages no reserve could take are spread under the reserves in force now (R258, R259): an image that is loaded
must have room for them. -/
def spreadShort (s : State) : State :=
  s.store.short.foldl (fun s c =>
    let gens := spreadsAfter s c
    let s := { s with store := { s.store with lost := s.store.lost ++ [(c, s.store.spreads)], spreads := gens } }
    postSpreads (setB s F.MCH_STATUS_SPREAD c true) c) { s with store := { s.store with short := [] } }

/-- The contents of a channel are lost (R260, R369): every page that lies in it reads as poisoned until written, and cached
lines of its pages are gone. When the device's copy of the image lay there, it is lost (R412). -/
def loseChannel (s : State) (c : Nat) : State :=
  let gens := s.store.spreads
  let lies (a : Nat) : Bool := match homeOf s a with
    | some (o, p, _) => spreadPlace gens o p == c
    | none => false
  let hurt := s.act.committed.any (fun r => (List.range r.2).any (fun k => lies (4096 * (r.1 + k))))
  let s := dropCached s (linesIn s c)
  let s := { s with store := { s.store with
    lost := s.store.lost ++ [(c, gens)], fresh := s.store.fresh.filter (fun e => !lies (32 * e.1)) } }
  let s := if hurt then clearIntact s else s
  match s.act.image with
  | some i =>
    let copy := (List.range (ceilDiv i.length 4096)).any (fun k => lies (4096 * (s.act.areas.getD 2 0 + k)))
    if copy && !s.act.copyLost then record { s with act := { s.act with copyLost := true } } C.IMG_COPY_LOST c else s
  | none => s

/-- The channel's own share is lost: a reopen's copy was abandoned, and what it had brought back is gone (R260, R266). -/
def loseShare (s : State) (c : Nat) : State :=
  let mine (a : Nat) : Bool := match homeOf s a with
    | some (o, _, _) => o == c
    | none => false
  let hurt := s.act.committed.any (fun r => (List.range r.2).any (fun k => mine (4096 * (r.1 + k))))
  let s := dropCached s (fun x => x.chan == c)
  let s := { s with store := { s.store with lost := s.store.lost ++ [(c, [])], fresh := s.store.fresh.filter (fun e => !mine (32 * e.1)) } }
  if hurt then clearIntact s else s

/-- A channel shuttered by a fault or by failed training (R258, R260). On one that is shuttered already, a lamp run stops, and a
reopen's copy is abandoned with the contents lost (R266). -/
def faultChannel (s : State) (c : Nat) : State :=
  let h := getChan s c
  if getB s F.FLT_SHUT_CHANNEL c then
    let s := setF (stopLamp s c) F.MCH_STATUS_STATE c 4
    if h.copy.isSome then shutterCloses (loseShare (setChan s c { getChan s c with copy := none, due := none, bad := true }) c)
    else setChan s c { getChan s c with bad := true }
  else
    let pins := pinnedLines s (linesIn s c)
    let s := loseChannel (setChan s c { h with copy := none, due := none, bad := true }) c
    shutterCloses (pinLines (closeChannel s c 0) pins).1

/-- CH_TIMEOUT (R262): a channel that is given commands answers none; one in training has failed. -/
def execChTimeout (chan : Nat) (s : State) : Out :=
  let st := getF s F.MCH_STATUS_STATE chan
  if st = 0 then .next s
  else
    let s := chanEvent s chan C.CH_TIMEOUT
    .next (faultChannel (if st = 1 then setF s F.MCH_STATUS_TRAIN chan 4 else s) chan)

/-- A reopened channel carries its own share again; the spread places are free, and its pinned lines are pinned again in their home
slices (R210, R261). -/
def openChannel (s : State) (c : Nat) : State :=
  let mine (_ : State) (x : CLine) : Bool := x.chan == c
  let pins := pinnedLines s (mine s)
  let s := flushLines s mine
  let s := { s with store := { s.store with spreads := s.store.spreads.filter (fun g => g.orig != c), short := s.store.short.filter (· != c) } }
  let s := setB (setB (setF s F.MCH_STATUS_STATE c 2) F.MCH_STATUS_SPREAD c false) F.FLT_SHUT_CHANNEL c false
  (pinLines (loadChanged (postSpreads (postDerate s c) c)) pins).1

/-- SPREAD_COPY_DONE (R261): the write-back and the copy have ended; the shutter closes, or the channel is open again. -/
def execSpreadCopyDone (chan : Nat) (s : State) : Out :=
  let h := getChan s chan
  match h.copy with
  | none => .next s
  | some shut =>
    if getF s F.MCH_STATUS_STATE chan ≠ 5 then .next s else
    let s := setChan s chan { h with copy := none }
    if shut then
      let pins := pinnedLines s (linesIn s chan)
      .next (closeRepeats (pinLines (closeChannel (flushChannel s chan) chan 0) pins).1)
    else .next (closeRepeats (openChannel s chan))

/-- A shutter or reopen by service takes effect at once: no job step runs (R261, R437). -/
def actsAtOnce (s : State) : Bool := phase s == 0 || phase s == 6

/-- A service shutter or reopen of a channel (R261). -/
def serviceChannel (s : State) (c : Nat) (shut : Bool) : State :=
  if actsAtOnce s then startCopy s c shut
  else setChan s c { getChan s c with due := some shut }

/-! ## Training (R254 to R256) -/

/-- Every channel has an outcome. -/
def allTrained (s : State) : Bool := (List.range 192).all (fun c => getF s F.MCH_STATUS_TRAIN c != 0)

/-- Channels that ended in FAIL. -/
def failedChannels (s : State) : Nat := ((List.range 192).filter (fun c => getF s F.MCH_STATUS_TRAIN c == 4)).length

/-- Every channel trains again one rate lower (R256). -/
def stepRate (s : State) : State :=
  let s := record s C.CH_RATE_STEP 0
  let s := setF s F.MEM_CFG_RATE 0 (getF s F.MEM_CFG_RATE 0 + 1)
  let s := { s with boot := { s.boot with rateStepped := true }, store := { s.store with spreads := [], short := [], lost := [], fresh := [] }
                    deep := { s.deep with chans := s.deep.chans.map (fun e => (e.1, { e.2 with bad := false })) } }
  (List.range 192).foldl (fun s c =>
    let s := setF (setF s F.MCH_STATUS_STATE c 1) F.MCH_STATUS_TRAIN c 0
    setF (setB (setB s F.MCH_STATUS_SPREAD c false) F.FLT_SHUT_CHANNEL c false) F.MCH_STATUS_SPREAD_IN c 0) s

/-- The start is warm for a channel: the start is, and the logbook holds valid values for the channel at the current rate; the channel
first runs warm training (R254). -/
def warmRun (s : State) (c : Nat) : Bool :=
  !getB s F.DEV_STATE_COLD 0 && !s.boot.rateStepped && (lastRec s tLpddr (4 * c + getF s F.MEM_CFG_RATE 0)).isSome

/-- The outcome with the eyes and the kind of training taken into account: an eye narrower than 0.30 UI, 76.8 of 256, is MARGINAL, and
only a warm run can have failed its check before cold training passed (R254, R255). -/
def outcomeOf (o : TrainOutcome) (warm : Bool) (re we : Nat) : TrainOutcome :=
  let byEye : TrainOutcome := if re < 77 ∨ we < 77 then .marginal else .pass
  match o with
  | .pass => byEye
  | .marginal => byEye
  | .retrained => if warm then .retrained else byEye
  | .fail => .fail

/-- A channel in service after training, its values recorded for the rate (R254). -/
def trainedOk (s : State) (c train : Nat) (re we : Nat) : State :=
  let s := setF (setF s F.MCH_STATUS_STATE c 2) F.MCH_STATUS_TRAIN c train
  let s := setF (setF s F.MCH_MARGIN_READ_EYE c re) F.MCH_MARGIN_WRITE_EYE c we
  postDerate (logKeep s tLpddr (4 * c + getF s F.MEM_CFG_RATE 0) (leBytes re 1 ++ leBytes we 1 ++ List.replicate 6 0)) c

/-- CHANNEL_TRAINED (R254 to R256): the outcome of a channel's training after its last attempt; more than 8 failures on a cold start step the rate once
the last channel has ended. -/
def execChannelTrained (chan : Nat) (outcome : TrainOutcome) (readEye writeEye : Nat) (s : State) : Out :=
  if getF s F.MCH_STATUS_STATE chan = 1 then
    let s := match outcomeOf outcome (warmRun s chan) readEye writeEye with
      | .pass => trainedOk s chan 1 readEye writeEye
      | .marginal => chanEvent (trainedOk s chan 2 readEye writeEye) chan C.CH_TRAIN_MARGINAL
      | .retrained => chanEvent (trainedOk s chan 3 readEye writeEye) chan C.CH_RETRAINED
      | .fail => faultChannel (chanEvent (setF s F.MCH_STATUS_TRAIN chan 4) chan C.CH_TRAIN_FAIL) chan
    if allTrained s && decide (8 < failedChannels s) && getB s F.DEV_STATE_COLD 0 && !s.boot.rateStepped &&
        decide (getF s F.MEM_CFG_RATE 0 < 2) then .next (stepRate s)
    else .next s
  else .next s

/-! ## Lamps (R263, R264) -/

/-- A lamp may start: the channel is shuttered, no copy runs, and its settings hold no reserved value (R263). -/
def lampSettings (s : State) (c : Nat) : Bool :=
  decide (getF s F.LAMP_PAT_PATTERN c < 6) && decide (getF s F.LAMP_MIX_BANK_MODE c < 3) && decide (getF s F.LAMP_LEN_PAGES c ≠ 0)

/-- A run starts. -/
def lampRun (s : State) (c : Nat) : State :=
  let h := getChan s c
  let s := setF (setChan s c { h with lamp := some ⟨elapsedNs s, false⟩ }) F.MCH_STATUS_STATE c 6
  let s := setB (setB s F.LAMP_STATUS_BUSY c true) F.LAMP_STATUS_DONE c false
  setF (setB s F.LAMP_STATUS_ERR c false) F.LAMP_STATUS_PASS c 0

/-- A run ends at the next line boundary. -/
def lampEnd (s : State) (c : Nat) : State :=
  let h := getChan s c
  match h.lamp with
  | some r => setChan s c { h with lamp := some { r with stopping := true } }
  | none => s

/-- A write to LAMP_CTL (R263): START acts under its KEY on a shuttered channel with no copy in progress, and any other write
of START is ignored with an INFO event; STOP under the KEY ends a run. -/
def writeLamp (s : State) (c v origin : Nat) : State :=
  let key := bits v 16 16 == 0x1A4D
  let s := if bit v 1 && key then lampEnd s c else s
  if bit v 0 then
    if key && getF s F.MCH_STATUS_STATE c == 4 && (getChan s c).copy.isNone then (if lampSettings s c then lampRun s c else s)
    else record s C.KEY_REFUSED c origin
  else s

/-- LAMP_CTL.START (R263). -/
def execLampStart (chan : Nat) (value : W32) (origin : Nat) (s : State) : Out := .next (writeLamp s chan value.toNat origin)

/-- LAMP_CTL.STOP (R263). -/
def execLampStop (chan : Nat) (value : W32) (origin : Nat) (s : State) : Out := .next (writeLamp s chan value.toNat origin)

/-- Pages of the range of a lamp run, cut at the channel's usable pages (LAMP_BASE, LAMP_LEN). -/
def lampPages (s : State) (c : Nat) : Nat :=
  min (getF s F.LAMP_LEN_PAGES c) (channelBytes s / 4096 - getF s F.LAMP_BASE_PAGES c)

/-- Passes that a run has completed: all that it was asked for, unless STOP ended it (R264, LAMP_PASSES). -/
def lampPasses (s : State) (c : Nat) (r : LampRun) (told : Nat) : Nat :=
  let n := getF s F.LAMP_PASSES_COUNT c
  if r.stopping = true ∨ n = 0 then told % 65536 else n

/-- Words that a run has moved: in FILL_CHECK each pass writes and reads every line of the range (R264); in MIXED, and in a run that
STOP ended, as the run tells (assumption 101). -/
def lampWords (s : State) (c : Nat) (r : LampRun) (told : Nat) : Nat :=
  if getF s F.LAMP_MIX_MODE c = 0 ∧ r.stopping = false then 256 * lampPages s c * getF s F.LAMP_PASSES_COUNT c else told

/-- LAMP_DONE (R264): the run has ended and posts its results; LAMP_ERRORS when it found a mismatch or an uncorrectable word. A run
without a number of passes ends only by STOP. -/
def execLampDone (chan : Nat) (result : LampResult) (s : State) : Out :=
  let h := getChan s chan
  match h.lamp with
  | none => .next s
  | some r =>
    if getF s F.LAMP_PASSES_COUNT chan = 0 ∧ r.stopping = false then .next s
    else
      let sat (n : Nat) : Nat := min n (2 ^ 32 - 1)
      let err := decide (result.mism ≠ 0) || decide (result.uncorr ≠ 0)
      let base := getF s F.LAMP_BASE_PAGES chan
      let passes := lampPasses s chan r result.passes
      let words := lampWords s chan r result.words
      let page := base + result.failPage % max 1 (lampPages s chan)
      let s := setF (setChan s chan { h with lamp := none }) F.MCH_STATUS_STATE chan 4
      let s := setB (setB s F.LAMP_STATUS_BUSY chan false) F.LAMP_STATUS_DONE chan true
      let s := setF (setB s F.LAMP_STATUS_ERR chan err) F.LAMP_STATUS_PASS chan passes
      let s := setF (setF s F.LAMP_WORDS_COUNT chan (sat words)) F.LAMP_TIME_COUNT chan (sat ((elapsedNs s - r.start) / 10))
      let s := setF (setF s F.LAMP_MISM_COUNT chan (sat result.mism)) F.LAMP_CORR_COUNT chan (sat result.corr)
      let s := setF s F.LAMP_UNCORR_COUNT chan (sat result.uncorr)
      let s := if err then setF (setF s F.LAMP_FAIL_PAGE_PAGE chan page) F.LAMP_FAIL_PAGE_WORD chan result.failWord else s
      let s := setF s F.LAMP_FAIL_DQ_DQ chan (if isLp5x s then result.failDq % 65536 else result.failDq)
      .next (if err then chanEvent s chan C.LAMP_ERRORS else s)

end Sys2Proof.Machine
end

