-- ==== Sys2Proof/Machine/Eph.lean ====
section
/-!
DEFINITION. The commands of the ephemeris (05): pause frames, epoch marks, fetch, the slots of a bundle, landings, overruns,
stalls and the entry into VOTE.
-/
namespace Sys2Proof.Machine

/-! ## Pause slots (R127 to R129) -/

/-- POWER_REQ is the larger of CAP_REQ and HW_REQ (R475). -/
def postPower (s : State) : State :=
  setF s F.PAUSE_STATUS_POWER_REQ 0 (max (getF s F.PWR_STATUS_CAP_REQ 0) (getF s F.PWR_STATUS_HW_REQ 0))

/-- The largest of the requests (R128). -/
def dutyAsked (s : State) : Nat :=
  max (getF s F.PAUSE_STATUS_THERMAL_REQ 0) (max (getF s F.PAUSE_STATUS_POWER_REQ 0) (getF s F.PAUSE_STATUS_FW_REQ 0))

/-- THERMAL_REQ raised to a value; THM_THROTTLE when it leaves 0 (R488). -/
def raiseThermal (s : State) (v : Nat) : State :=
  let old := getF s F.PAUSE_STATUS_THERMAL_REQ 0
  let s := setF s F.PAUSE_STATUS_THERMAL_REQ 0 (max old (min v 15))
  if old = 0 ∧ v ≠ 0 then record s C.THM_THROTTLE 0 else s

/-- Slot `i` of a frame is a pause slot at duty `k` (R127). -/
def isPauseSlot (k i : Nat) : Bool := decide (i * k / 16 < (i + 1) * k / 16)

/-- PAUSE_FRAME_BOUNDARY (R127, R128, R474, R488): the next frame begins and requested duties take effect. -/
def execPauseFrameBoundary (s : State) : Out :=
  if s.clk.running && decide (s.eph.frame + 1024 ≤ s.clk.cyc) then
    let s := if s.thm.rateDue then raiseThermal { s with thm := { s.thm with rateDue := false } } 8 else s
    let s := if s.pwr.hwDue then setF { s with pwr := { s.pwr with hwDue := false } } F.PWR_STATUS_HW_REQ 0 (max 8 (getF s F.PWR_STATUS_HW_REQ 0)) else s
    let s := postPower s
    let s := setF s F.PAUSE_STATUS_DUTY 0 (dutyAsked s)
    .next { s with eph := { s.eph with frame := s.eph.frame + 1024 } }
  else .next s

/-- The slot of the frame in which the dome clock stands. -/
def slotNow (s : State) : Nat := (s.clk.cyc - s.eph.frame) / 64

/-- PAUSE_SLOT_BEGIN (R127, R129): every tile, router and mover holds for 64 cycles. -/
def execPauseSlotBegin (s : State) : Out :=
  let i := slotNow s
  if s.clk.running && !s.eph.inSlot && decide (i < 16) && isPauseSlot (getF s F.PAUSE_STATUS_DUTY 0) i then
    let s := addCount s F.PAUSE_SLOTS_COUNT 0 1
    .next { s with eph := { s.eph with inSlot := true, slotUntil := s.eph.frame + 64 * (i + 1) } }
  else .next s

/-- PAUSE_SLOT_END. -/
def execPauseSlotEnd (s : State) : Out :=
  if s.eph.inSlot && decide (s.eph.slotUntil ≤ s.clk.cyc) then .next { s with eph := { s.eph with inSlot := false } } else .next s

/-! ## Epoch marks (R132 to R135, R366, R368, R438) -/

/-- The tiles that run a segment: those whose ephemeris region the image filled. -/
def runTiles (s : State) : List Nat := (List.range 512).filter (fun t => getF s F.EPH_LEN_COUNT t != 0)

/-- The segment's state at its first cycle: counters and flags of Table: State across a step. -/
def openSegment (s : State) : State :=
  let s := enterRounds s
  let s := [F.FIN_STEP_NONFINITE_WATCHED, F.FIN_STEP_NONFINITE_ANY, F.FIN_STEP_SAT_ANY, F.FIN_STEP_NAN_IN, F.FIN_STEP_POISON_OUT,
            F.SLC_FIN_NONFINITE_COADD, F.SLC_FIN_NONFINITE_ANY, F.SLC_FIN_SAT_ANY].foldl clearField s
  let s := setF (setF s F.SEG_CYCLE_CYCLE 0 0) F.SEG_STEP_STEP 0 (stepNow s)
  let s := setF s F.MER_PHASE_PHASE 0 1
  let slices := s.deep.slices.map (fun e => (e.1, { e.2 with next := [], window := [], applied := [], ovfStep := none }))
  { s with
    deep := { s.deep with slices := slices }
    mer := { s.mer with
      verdict := 31 &&& (127 - s.mer.nextClear), nextClear := 0, entry := none, ups := [], gone := [], up := none, down := none
      closeUp := none, closeUps := [], closeDown := none }
    eph := { s.eph with tiles := [], nextMark := none, inSegment := true, abandoned := false, causes := [], stallStart := none, stallLeaving := false }
    lane := { s.lane with bars := s.lane.bars.map (fun e => (e.1, { e.2 with arrived := [], start := none })) }
    net := { s.net with ended := [] } }

/-- The result slot of the step becomes PENDING at its mark (R438). -/
def openSlot (s : State) : State :=
  let n := stepNow s
  let s := { s with mcc := { s.mcc with before := slotOf s n } }
  putSlot s n { slotOf s n with state := 1, step := n }

/-- A mark may open a segment: the work after the last decision has ended, or the job starts; a copy of a channel keeps a job start
waiting (R133, R261, R366). -/
def markDue (s : State) : Bool :=
  match s.eph.nextMark with
  | some j => decide (gridTime s j ≤ nowNs s) && s.clk.running && !paused s && !s.pwr.gated && !s.mer.working && !s.mer.closeDue && !copying s &&
      (phase s == 4 || phase s == 5 || phase s == 7)
  | none => false

/-- EPOCH_MARK (R133, R366, R433): OPEN begins; a checkpoint load that has not completed sends the device to HOLD. -/
def execEpochMark (s : State) : Out :=
  if markDue s then
    if phase s = 7 ∧ s.mer.loading.isSome then
      let s := { s with mer := { s.mer with loading := none }, eph := { s.eph with nextMark := none } }
      .next (enterHold (record { s with mcc := { s.mcc with job := none, work := s.mcc.work.filter (· != 0x40) } } C.CKPT_UNREADABLE 0))
    else
      let s := { s with mcc := { s.mcc with job := none, work := s.mcc.work.filter (· != 0x40) } }
      .next (restartGates (openSlot (openSegment s)))
  else .next s

/-! ## Fetch (R116, R117) -/

/-- 32 bytes of a tile's window as a number, with whether a word is poisoned. -/
def fetchWord (s : State) (t off : Nat) : Nat × Bool :=
  let r := readBytes s (focalAddr t off) 32
  (leNat r.1, r.2.any id)

/-- The words that a bundle's fetch reads: the bundle and the descriptors of its valid slots. -/
def fetchOffs (s : State) (t i : Nat) : List Nat :=
  let o := getF s F.EPH_BASE_BASE t + 32 * i
  let w := (fetchWord s t o).1
  let x := getF s F.EPH_XDESC_BASE t
  [o] ++ (if bit w 16 then [getF s F.EPH_ADESC_BASE t + 32 * bAdesc w] else []) ++ (if bit w 17 then [x + 32 * bMxd w] else [])
    ++ (if bit w 18 then [x + 32 * bNxd w] else [])

/-- A bundle fetched with the descriptors it names joins the queue; after the SEG_END bundle no later one is fetched. -/
def pushBundle (s : State) (t i : Nat) : State :=
  let w := (fetchWord s t (getF s F.EPH_BASE_BASE t + 32 * i)).1
  let x := getF s F.EPH_XDESC_BASE t
  let ad := adescOf (words8 (readBytes s (focalAddr t (getF s F.EPH_ADESC_BASE t + 32 * bAdesc w)) 32).1)
  let f : Fetched := ⟨i, w, ad, (fetchWord s t (x + 32 * bMxd w)).1, (fetchWord s t (x + 32 * bNxd w)).1, slotsOf w⟩
  let e := getEph s t
  let nx := if bCtl w = 2 then getF s F.EPH_LEN_COUNT t else i + 1
  let s := setEph s t { e with queue := e.queue ++ [f], nextFetch := nx, refetch := none }
  settleAll (dropCauses s t (fun c => c.cause == 5)) t

/-- BUNDLE_FETCH (R116, R117): the next bundle of the region; poison asks for page-code recovery and a second fetch. -/
def execBundleFetch (tile : Nat) (s : State) : Out :=
  let e := getEph s tile
  if s.eph.inSegment && e.refetch.isNone && decide (e.nextFetch < getF s F.EPH_LEN_COUNT tile) then
    let offs := fetchOffs s tile e.nextFetch
    let bad := offs.any (fun o => (fetchWord s tile o).2)
    let s := offs.foldl (fun s o => noteFocal s (focalAddr tile o / 32 * 32) 1) s
    if bad then .next (record (setEph s tile { getEph s tile with refetch := some (e.nextFetch, 0) }) C.BUNDLE_POISON tile)
    else .next (pushBundle s tile e.nextFetch)
  else .next s

/-- BUNDLE_REFETCH (R117): after recovery the bundle is fetched again; one still poisoned shutters the tile. -/
def execBundleRefetch (tile : Nat) (s : State) : Out :=
  match (getEph s tile).refetch with
  | some (i, _) =>
    let offs := fetchOffs s tile i
    if s.store.recov.any (fun r => offs.any (fun o => r.page == focalAddr tile o / 4096 * 4096)) then .next s
    else if offs.any (fun o => (fetchWord s tile o).2) then .next (shutterLogical (record s C.BUNDLE_POISON_KEPT tile) tile)
    else .next (pushBundle s tile i)
  | none => .next s

/-! ## Slots (R112 to R119) -/

/-- ARRAY_SLOT (R49, R119): the array slot of the due bundle issues; a busy datapath holds the bundle and stalls. -/
def issueArray (s : State) (t : Nat) : State :=
  match frontDue s t (·.arr) with
  | some f => slotDone (startOp s t f.adesc f.idx false false) t { f.left with arr := false }
  | none => holdBusy s t

def execArraySlot (tile : Nat) (s : State) : Out := .next (issueArray s tile)

/-- The cause of a bundle held for a busy datapath clears when the datapath is idle; the cycle in which it clears is still held
(R119, R130). -/
def clearIdle (s : State) (t : Nat) : State := if dpBusy s t then s else dropCauses s t (fun c => c.cause == 3)

/-- HELD_ARRAY_ISSUE (R119, R130): the cause of the idle datapath clears, and the held bundle issues once the stall is over. -/
def execHeldArrayIssue (tile : Nat) (s : State) : Out := .next (issueArray (clearIdle s tile) tile)

/-- A control code of the due bundle. -/
def ctlDue (s : State) (t code : Nat) : Option Fetched :=
  match frontDue s t (·.ctl) with
  | some f => if bCtl f.word = code then some f else none
  | none => none

/-- GATHER (R113, R114). -/
def execGather (tile : Nat) (s : State) : Out :=
  match ctlDue s tile 1 with
  | some f =>
    let s := if phase s = 1 then setF s F.MER_PHASE_PHASE 0 2 else s
    let s := setEph s tile { getEph s tile with gathered := true }
    .next (settleAll (slotDone s tile { f.left with ctl := false }) tile)
  | none => .next (holdBusy s tile)

/-- SEG_END (R113, R114). -/
def execSegEnd (tile : Nat) (s : State) : Out :=
  match ctlDue s tile 2 with
  | some f =>
    let s := setEph s tile { getEph s tile with ended := true }
    .next (slotDone s tile { f.left with ctl := false })
  | none => .next (holdBusy s tile)

/-- The due bundle with a mover operation. -/
def movDue (s : State) (t op : Nat) : Option Fetched :=
  match frontDue s t (·.mov) with
  | some f => if bMop f.word = op then some f else none
  | none => none

/-- The mover slot of the due bundle has issued. -/
def movIssued (s : State) (t : Nat) (f : Fetched) : State :=
  settleAll (slotDone s t { f.left with mov := false }) t

/-- Transactions that a transfer takes. -/
def lineCount (x : Nat) : Nat := (linePieces (xRemote x) (xSize x) 0 (xSize x / 256 + 2)).length

/-- A transfer that reads lines starts (LOAD, TURN). -/
def startRead (s : State) (t : Nat) (f : Fetched) (kind : XKind) (tk : TxnKind) : State :=
  let r := startXfer s t kind (bMxd f.word) f.idx f.mdesc (slotCycle s t f) (lineCount f.mdesc)
  let s := movIssued r.1 t f
  submitNew s (xferTxns s r.2 tk [] [])

/-- LOAD. -/
def execLoad (tile : Nat) (s : State) : Out :=
  match movDue s tile 0 with
  | some f => .next (startRead s tile f .load .read)
  | none => .next (holdBusy s tile)

/-- TURN (R226). -/
def execTurn (tile : Nat) (s : State) : Out :=
  match movDue s tile 4 with
  | some f => .next (startRead s tile f .turn .turnRead)
  | none => .next (holdBusy s tile)

/-- The pieces of a range at 4 KiB page boundaries: address, length, offset (R216). -/
def pagePieces (a n off : Nat) : Nat → List (Nat × Nat × Nat)
  | 0 => []
  | f + 1 =>
    if n = 0 then []
    else
      let k := min (4096 - a % 4096) n
      (a, k, off) :: pagePieces (a + k) (n - k) (off + k) f

/-- A fragment is numbered and its request goes to its home slice (R216, R268, R272). -/
def sendFrag (s : State) (f : Frag) : State :=
  let r := newTxn s
  let f := { f with id := r.2 }
  submit { r.1 with deep := { r.1.deep with frags := r.1.deep.frags ++ [f] } } (fragTxn r.1 f)

/-- The focal bytes that a transfer sends, with their marks; its reads are noted. -/
def sentBytes (s : State) (x : Xfer) : State × List Byte × List Bool :=
  let a := focalAddr x.tile x.loc
  let r := readBytes s a x.size
  (noteFocal s a (x.size / 32), r.1, r.2)

/-- The fragments of a COADD, one for each page of its remote range. -/
def coaddPieces (a n : Nat) : List (Nat × Nat × Nat) := pagePieces a n 0 (n / 4096 + 2)

/-- A STORE or a COADD reads the focal store and sends its writes or its fragments to their home slices (R118, R216). -/
def sendRead (s : State) (x : Xfer) : State :=
  let d := sentBytes s x
  if x.kind = .coadd then
    (coaddPieces x.remote x.size).foldl (fun s p =>
      sendFrag s ⟨0, x.id, fragHome s p.1, p.1, (d.2.1.drop p.2.2).take p.2.1, (d.2.2.drop (p.2.2 / 32)).take (ceilDiv p.2.1 32),
        x.remote, x.size, x.tag, x.opx⟩) d.1
  else submitNew d.1 (xferTxns d.1 x .write d.2.1 d.2.2)

/-- A transfer that reads the focal store starts; while the finder of its tile streams, its read waits (R66). -/
def startSend (s : State) (t : Nat) (f : Fetched) (kind : XKind) (left : Nat) : State :=
  let r := startXfer s t kind (bMxd f.word) f.idx f.mdesc (slotCycle s t f) left
  let s := movIssued r.1 t f
  if finderStreams s t then putX s { r.2 with unread := true } else sendRead s r.2

/-- A read that waited for the finder takes place (R66). -/
def readWaiting (s : State) (x : Xfer) : State :=
  if x.unread && !finderStreams s x.tile then sendRead (putX s { x with unread := false }) { x with unread := false } else s

/-- STORE. -/
def execStore (tile : Nat) (s : State) : Out :=
  match movDue s tile 1 with
  | some f => .next (startSend s tile f .store (lineCount f.mdesc))
  | none => .next (holdBusy s tile)

/-- COADD (R216): the fragments go to the home slices of their pages. -/
def execCoadd (tile : Nat) (s : State) : Out :=
  match movDue s tile 2 with
  | some f => .next (startSend s tile f .coadd (coaddPieces (xRemote f.mdesc) (xSize f.mdesc)).length)
  | none => .next (holdBusy s tile)

/-- MESH (R121). -/
def execMesh (tile : Nat) (s : State) : Out :=
  match movDue s tile 3 with
  | some f => .next (movIssued (startXfer s tile .mesh (bMxd f.word) f.idx f.mdesc (slotCycle s tile f) 1).1 tile f)
  | none => .next (holdBusy s tile)

/-- The due bundle with a lane operation. -/
def laneDue (s : State) (t op : Nat) : Option Fetched :=
  match frontDue s t (·.lane) with
  | some f => if bLop f.word = op then some f else none
  | none => none

/-- LAUNCH (R113, R144, R145). -/
def execLaunch (tile : Nat) (s : State) : Out :=
  match laneDue s tile 0 with
  | some f =>
    let id := s.lane.nextTask
    let s := launchTask s tile (bTask f.word) (bGroups f.word) (bBand f.word) (bToken f.word) f.idx false
    let e := getEph s tile
    let s := setEph s tile { e with tokens := mput natLt e.tokens (bToken f.word) (id + 1, f.idx) (0, 0) }
    .next (settleAll (slotDone s tile { f.left with lane := false }) tile)
  | none => .next (holdBusy s tile)

/-- The task of a TOKEN between its LAUNCH and its JOIN, and the bundle of the LAUNCH; none where the TOKEN is not open. -/
def openTask (s : State) (t tok : Nat) : Option (Nat × Nat) :=
  let e := mget (getEph s t).tokens tok (0, 0)
  if e.1 = 0 then none else some (e.1 - 1, e.2)

/-- The JOIN of a task: its TOKEN is closed. With the task ended, the LAUNCH retires here (R118); else the join is late and the sync
group stalls until the task ends (R126). -/
def joinTask (s : State) (t tok id bundle : Nat) : State :=
  let e := getEph s t
  let s := setEph s t { e with tokens := merase e.tokens tok }
  match findTask s t id with
  | none => retireSlot s t bundle
  | some x =>
    let s := noteOverrun (record s C.LANE_JOIN_LATE t) t true tok
    addCause (putTask s t { x with late := some (getF s F.STALL_CYCLES_COUNT 0) }) t 2 id

/-- JOIN (R113, R118, R126). -/
def execJoin (tile : Nat) (s : State) : Out :=
  match laneDue s tile 1 with
  | some f =>
    let s := retireSlot (settleAll (slotDone s tile { f.left with lane := false }) tile) tile f.idx
    match openTask s tile (bToken f.word) with
    | some k => .next (joinTask s tile (bToken f.word) k.1 k.2)
    | none => .next s
  | none => .next (holdBusy s tile)

/-! ## Landings (R118, R120, R121, R226) -/

/-- The rows of a transposed block: its bytes by destination offset, with the marks of the words they came from. -/
def turnBytes (b : Nat) (d : List Byte) (ps : List Bool) : List (Nat × Byte × Bool) :=
  (d.zipIdx).map (fun e => (turnPlace b e.2, e.1, ps.getD (e.2 / 32) false))

/-- TURN's data lands word by word in the operand layout. -/
def landTurn (s : State) (t off b : Nat) (d : List Byte) (ps : List Bool) : State :=
  let xs := turnBytes b d ps
  let ws := (xs.map (fun e => e.1 / 32)).eraseDups
  ws.foldl (fun s w =>
    let mine := xs.filter (fun e => e.1 / 32 == w)
    let bytes := (List.range 32).map (fun i => match mine.find? (fun e => e.1 % 32 == i) with
      | some e => e.2.1
      | none => 0)
    landBytes s t (off + 32 * w) bytes [mine.any (fun e => e.2.2)]) s

/-- The transfer's data lands, or the landing is held by an extent in use (R120). -/
def landXfer (s : State) (x : Xfer) : State :=
  let p := landPlace x
  if extentHeld s p.1 p.2 (landSpan x) then addCause s p.1 4 x.id
  else
    let s := dropCauses s p.1 (fun c => c.cause == 4 && c.key == x.id)
    match x.kind with
    | .mesh =>
      let r := readBytes s (focalAddr x.tile x.loc) x.size
      endXfer (landBytes (noteFocal s (focalAddr x.tile x.loc) (x.size / 32)) p.1 p.2 r.1 r.2) x
    | .turn => let g := gotBytes x; endXfer (landTurn s p.1 p.2 (2 ^ x.opx) g.1 g.2) x
    | _ => let g := gotBytes x; endXfer (landBytes s p.1 p.2 g.1 g.2) x

/-- The cycle in which a MESH lands (R121). -/
def meshCycle (x : Xfer) : Nat :=
  let d := landPlace x
  let dist (a b : Nat) : Nat := max a b - min a b
  x.issue + 7 + dist (x.tile % 16) (d.1 % 16) + dist (x.tile % 128 / 16) (d.1 % 128 / 16) + ceilDiv x.size 128

/-- MESH_LAND (R121, R122). -/
def execMeshLand (xfer : Nat) (s : State) : Out :=
  match findX s xfer with
  | some x => .next (if x.kind = .mesh ∧ meshCycle x ≤ segCycle s ∧ paused s = false then landXfer s x else s)
  | none => .next s

/-- MOVER_LAND (R118): the data of a LOAD or TURN has returned in full and lands. -/
def execMoverLand (xfer : Nat) (s : State) : Out :=
  let s := collect s xfer
  match findX s xfer with
  | some x => .next (if (x.kind = .load ∨ x.kind = .turn) ∧ x.left = 0 ∧ paused s = false then landXfer s x else s)
  | none => .next s

/-- MOVER_ACCEPTED (R118): a STORE or COADD has been accepted at its home slices. -/
def execMoverAccepted (xfer : Nat) (s : State) : Out :=
  let s := collect s xfer
  match findX s xfer with
  | some x => .next (if (x.kind = .store ∨ x.kind = .coadd) ∧ x.left = 0 then endXfer s x else s)
  | none => .next s

/-- The landing of a transfer's data is complete but for the hold. -/
def readyToLand (x : Xfer) : Bool :=
  match x.kind with
  | .mesh => true
  | .load => x.left == 0
  | .turn => x.left == 0
  | .expect => x.left == 0
  | _ => false

/-! ## Lateness (R123, R131) -/

/-- The transfer kinds that carry a deadline (R115, R123). -/
def hasDeadline (x : Xfer) : Bool :=
  match x.kind with
  | .mesh => false
  | .send => false
  | _ => true

/-- SLACK_OVERRUN (R123). -/
def execSlackOverrun (xfer : Nat) (s : State) : Out :=
  match findX s xfer with
  | some x =>
    if hasDeadline x && x.late.isNone && s.eph.inSegment && decide (x.arrival + x.slack < segCycle s) then
      let s := noteOverrun (recordWith s C.SLACK_OVERRUN x.tile [x.tile, x.didx]) x.tile false x.didx
      let s := putX s { x with late := some (getF s F.STALL_CYCLES_COUNT 0) }
      .next (addCause s x.tile 1 x.id)
    else .next s
  | none => .next s

/-- STALL_LIMIT in ns (R131); 0 reads as 0x1388. -/
def stallLimitNs (s : State) : Nat :=
  let n := getF s F.STALL_LIMIT_LIMIT 0
  (if n = 0 then 0x1388 else n) * 10000

/-- STALL_TIMEOUT (R131): the segment is abandoned, SLACK_OK cleared and VOTE entered. -/
def execStallTimeout (s : State) : Out :=
  match s.eph.stallStart with
  | some t =>
    if decide (t + stallLimitNs s < elapsedNs s) && s.eph.inSegment then
      .next (abandonSegment (clearVerdict (record s C.STALL_TIMEOUT (match s.eph.causes.find? (fun c => c.cause != 0) with | some c => c.tile | none => 0)) vSlackOk))
    else .next s
  | none => .next s

/-- Every tile has issued SEG_END and every transfer, lane task and operation of the segment has completed (R114, R366). -/
def segmentDone (s : State) : Bool :=
  s.eph.inSegment && (runTiles s).all (fun t => (getEph s t).ended) && s.eph.xfers.isEmpty &&
    s.lane.tiles.all (fun e => e.2.tasks.all (·.commit)) && s.arr.all (fun e => e.2.op.isNone && e.2.rerun.isNone && e.2.rest.isEmpty)

/-- VOTE_ENTRY (R114, R366). -/
def execVoteEntry (s : State) : Out :=
  if (phase s = 1 ∨ phase s = 2) ∧ segmentDone s then .next (enterVote s) else .next s

end Sys2Proof.Machine
end

