-- ==== Sys2Proof/Machine/Blk.lean ====
section
/-!
DEFINITION. Scheduled block transport (11, R323 to R331): ports and routes, block frames, replay buffers, the transmission of
blocks, NAKs, and the reception of an EXPECT's blocks.
-/
namespace Sys2Proof.Machine

/-! ## Times of a route -/

/-- The re-send time of a route in use, in ns (R329). -/
def resendNs (s : State) (r : Route) : Nat :=
  if detoured s r then 40 + 2 * r.tPathA + r.tWireA else 40 + 2 * r.tPathP + r.tWireP

/-- HOLD of a route in ns (R328). -/
def holdNs (s : State) (r : Route) : Nat := if r.hold = 0 then (s.act.resendMin + 1) * resendNs s r else r.hold

/-! ## Block frames (R323, R324) -/

/-- Bytes 0 to 27 of the block header. -/
def blockId (b : BlockFrame) : List Byte :=
  leBytes b.version 1 ++ leBytes b.type 1 ++ leBytes b.stream 2 ++ leBytes b.seq 4 ++ leBytes b.step 8 ++ leBytes b.src 2 ++
    leBytes b.dst 2 ++ leBytes b.length 2 ++ leBytes b.attempt 1 ++ leBytes b.flags 1 ++ leBytes b.aux 4

/-- HCHK as the header's bytes give it. -/
def blockHchk (b : BlockFrame) : Nat := (crc16 (blockId b)).toNat

/-- CRC as bytes 0 to 59 and the payload give it. -/
def blockCrc (b : BlockFrame) : Nat :=
  crc32c (blockId b ++ leBytes b.poison 16 ++ leBytes b.hchk 2 ++ List.replicate 14 0 ++ b.payload)

/-- A block with the checks its fields give. -/
def sealBlock (b : BlockFrame) : BlockFrame :=
  let b := { b with hchk := blockHchk b, fcsOk := true }
  { b with crc := blockCrc b }

/-- A received block passes (R325). -/
def blockPasses (b : BlockFrame) : Bool := b.fcsOk && b.hchk == blockHchk b && b.crc == blockCrc b

/-- Bits of a list of marks. -/
def marksBits (ps : List Bool) : Nat := ps.foldr (fun b n => b.toNat + 2 * n) 0

/-- The marks of the words of a payload. -/
def blockMarks (b : BlockFrame) : List Bool := (List.range (ceilDiv b.payload.length 32)).map (bit b.poison)

/-- A DATA block of this device. -/
def mkBlock (s : State) (stream seq dst flags aux : Nat) (d : List Byte) (ps : List Bool) : BlockFrame :=
  { version := 1, type := 0, stream := stream, seq := seq % 4294967296, step := getF s F.SEG_STEP_STEP 0, src := s.act.index, dst := dst,
    length := d.length, attempt := 0, flags := flags, aux := aux, poison := marksBits ps, hchk := 0, payload := d, crc := 0,
    fcsOk := true }

/-! ## The replay buffer (R328, R330) -/

/-- Blocks held in the replay buffer of a port. -/
def replayUsed (s : State) (p : Nat) : Nat := (s.net.replay.filter (fun b => b.port == p)).length

/-- The port's replay buffer of 8 MiB is full. -/
def replayFull (s : State) (p : Nat) : Bool := decide (2048 ≤ replayUsed s p)

/-- A block copied into the replay buffer of its port. -/
def pushReplay (s : State) (t : TxBlock) : State :=
  let s := { s with net := { s.net with replay := s.net.replay ++ [t] } }
  setF s F.PRT_REPLAY_PEAK t.port (max (getF s F.PRT_REPLAY_PEAK t.port) (replayUsed s t.port))

/-- The next block of a SEND: its index, with its data and marks from the focal window. -/
def copyBlock (s : State) (x : Xfer) (r : Route) : State :=
  let n := ceilDiv x.size 4096
  let i := n - x.left
  let len := min 4096 (x.size - 4096 * i)
  let a := focalAddr x.tile (x.loc + 4096 * i)
  let d := readBytes s a len
  let s := noteFocal s a (len / 32)
  let b := mkBlock s r.stream (x.tag + i) r.peer (if i + 1 = n then 1 else 0) 0 d.1 d.2
  putX (pushReplay s ⟨b, portOf s r, r.cls, none, holdNs s r, false⟩) { x with left := x.left - 1 }

/-- Blocks copied while there is room; the count bounds them. -/
def copyBlocks (s : State) (id : Nat) (r : Route) : Nat → State
  | 0 => s
  | n + 1 =>
    match findX s id with
    | none => s
    | some x => if x.left = 0 ∨ replayFull s (portOf s r) then s else copyBlocks (copyBlock s x r) id r n

/-- The copy of a SEND goes on: at its end the SEND retires; a full buffer stalls the tile (R330). -/
def copySend (s : State) (x : Xfer) : State :=
  match routeTo s (x.remote % 65536) none with
  | none => s
  | some r =>
    let s := copyBlocks s x.id r x.left
    match findX s x.id with
    | none => s
    | some x =>
      if x.left = 0 then endXfer s x
      else
        let s := if s.eph.causes.any (fun c => c.cause == 6 && c.key == x.id) then s
          else portEvent s (portOf s r) C.REPLAY_FULL r.stream
        addCause s x.tile 6 x.id

/-- The due bundle with a network operation. -/
def netDue (s : State) (t op : Nat) : Option Fetched :=
  match frontDue s t (·.net) with
  | some f => if bNop f.word = op then some f else none
  | none => none

/-- The network slot of the due bundle has issued. -/
def netIssued (s : State) (t : Nat) (f : Fetched) : State := settleAll (slotDone s t { f.left with net := false }) t

/-- A transfer of the network slot starts. -/
def startNet (s : State) (t : Nat) (f : Fetched) (kind : XKind) (left : Nat) : State × Xfer :=
  let r := startXfer s t kind (bNxd f.word) f.idx f.ndesc (slotCycle s t f) left
  (netIssued r.1 t f, r.2)

/-- SEND (R118, R323). -/
def execSend (tile : Nat) (s : State) : Out :=
  match netDue s tile 0 with
  | some f => .next (startNet s tile f .send (ceilDiv (xSize f.ndesc) 4096)).1
  | none => .next (holdBusy s tile)

/-- SEND_COPY_END (R118, R330): the blocks are in the replay buffer and the SEND retires, or it waits for room. The copy reads the
focal store, and waits while the finder streams (R66). -/
def execSendCopyEnd (xfer : Nat) (s : State) : Out :=
  match findX s xfer with
  | some x => .next (if x.kind = .send ∧ finderStreams s x.tile = false then copySend s x else s)
  | none => .next s

/-- HELD_SEND_COPY (R330): there is room again and the copy of a stalled SEND proceeds. -/
def execHeldSendCopy (xfer : Nat) (s : State) : Out :=
  match findX s xfer with
  | some x => .next (if x.kind = .send ∧ finderStreams s x.tile = false ∧ s.eph.causes.any (fun c => c.cause == 6 && c.key == x.id) then copySend s x else s)
  | none => .next s

/-! ## Gate control (R321) -/

/-- GATE_ENTRY_EXPIRE (R321): the next entry of the list applies, and frames that waited for it leave. -/
def execGateEntryExpire (port : Nat) (s : State) : Out :=
  let gs := gatesFor s port
  let x := getPort s port
  let len := gs.getD (x.gate % (max gs.length 1)) 0 / 256
  if !gs.isEmpty && decide (x.gateStart + len ≤ nowNs s) then
    .next (sendGated (setPort s port { x with gate := (x.gate + 1) % gs.length, gateStart := x.gateStart + len }) port)
  else .next s

/-! ## Transmission (R323, R328, R355) -/

/-- The Ethernet, IPv4 and UDP fields of a block frame on a route, with its traffic class as priority code point (R320, R323). -/
def blockHead (s : State) (r : Route) (stream cls : Nat) : BlockHead :=
  { dmac := r.mac, smac := s.act.linkMac, vid := r.vlan, pcp := cls, sip := s.act.linkIp, dip := r.ip, dscp := 0, ecn := 0, df := true
    ident := 0, ttl := 64, sport := 0xC000 + stream % 0x4000, dport := 0xBA20 }

/-- A block frame leaves by the route of its stream and peer. -/
def emitBlock (s : State) (p cls : Nat) (b : BlockFrame) : State :=
  match routeTo s b.stream (some b.dst) with
  | some r => emit s (.block p (blockHead s r b.stream cls) b)
  | none => s

/-- Bytes of a block's frame on the wire, preamble and gap included (R323). -/
def blockWire (s : State) (p : Nat) (b : BlockFrame) : Nat := 134 + b.payload.length + if getB s F.PRT_CFG_MACSEC p then 32 else 0

/-- The block that a port sends next: re-sends ahead of first sends. -/
def nextTx (s : State) (p : Nat) : Option TxBlock :=
  let mine := s.net.replay.filter (fun b => b.port == p)
  match mine.find? (·.resend) with
  | some b => some b
  | none => mine.find? (fun b => b.sent.isNone)

/-- The block as it leaves: its ATTEMPT, and DETOUR when it goes by an alternate. -/
def stamped (s : State) (t : TxBlock) : BlockFrame :=
  let det := s.act.routes.any (fun r => r.stream == t.hdr.stream && r.peer == t.hdr.dst && detoured s r)
  sealBlock { t.hdr with
    attempt := if t.sent.isSome then min 255 (t.hdr.attempt + 1) else t.hdr.attempt
    flags := if det then t.hdr.flags ||| 2 else t.hdr.flags &&& 5 }

/-- The first entry of a list that equals a block is replaced. -/
def replaceTx (t u : TxBlock) : List TxBlock → List TxBlock
  | [] => []
  | x :: xs => if x = t then u :: xs else x :: replaceTx t u xs

/-- Poison leaves the device in a block (R355). -/
def poisonLeaves (s : State) (p stream : Nat) : State := clearVerdict (portEvent s p C.POISON_EGRESS stream) vPoisonFree

/-- BLOCK_TRANSMIT (R323, R328). -/
def execBlockTransmit (port : Nat) (s : State) : Out :=
  match nextTx s port with
  | none => .next s
  | some t =>
    if portReady s port && gateOpen s port t.cls (blockWire s port t.hdr) then
      let b := stamped s t
      let u := { t with hdr := b, sent := some (match t.sent with | some e => e | none => elapsedNs s), resend := false }
      let s := { s with net := { s.net with replay := replaceTx t u s.net.replay } }
      let s := if t.sent.isSome then incF s F.PRT_RESENT_COUNT port 1 else incF s F.PRT_BLK_TX_COUNT port 1
      let s := if b.poison = 0 then s else poisonLeaves s port b.stream
      .next (emitBlock s port t.cls b)
    else .next s

/-- Collective blocks that wait enter the replay buffer while there is room; the count bounds them. -/
def feedReplay (s : State) : Nat → State
  | 0 => s
  | n + 1 =>
    match s.net.txq.find? (fun t => !replayFull s t.port) with
    | none => s
    | some t => feedReplay (pushReplay { s with net := { s.net with txq := s.net.txq.erase t } } t) n

/-- REPLAY_HOLD_EXPIRE (R328): blocks of a port whose HOLD has ended are freed. -/
def execReplayHoldExpire (port : Nat) (s : State) : Out :=
  let ended (b : TxBlock) : Bool := b.port == port && !b.resend &&
    (match b.sent with | some t => decide (t + b.hold ≤ elapsedNs s) | none => false)
  let s := { s with net := { s.net with replay := s.net.replay.filter (fun b => !ended b) } }
  .next (feedReplay s s.net.txq.length)

/-! ## NAKs of the receiver (R327) -/

def putRecv (s : State) (v : RecvSt) : State :=
  { s with net := { s.net with recv := s.net.recv.map (fun w => if w.xfer = v.xfer then v else w) } }

/-- The route by which a NAK goes back to the sender of a block. -/
def recvRoute (s : State) (v : RecvSt) (src : Nat) : Option Route := routeTo s v.stream (if v.coll then some src else none)

/-- NAKs that the receiver sends for one block (RESEND_MAX; 0 reads as 4). -/
def nakLimit (s : State) (p : Nat) : Nat :=
  let m := getF s F.PRT_CFG_RESEND_MAX p
  if m = 0 then 4 else m

/-- Runs of up to 256 consecutive sequence numbers of one sender. -/
def nakRuns (keys : List (Nat × Nat)) : List (Nat × Nat × Nat) :=
  (keys.foldl (fun (acc : List (Nat × Nat × Nat)) k =>
    match acc with
    | (a, q, n) :: r => if a = k.1 ∧ q + n = k.2 ∧ n < 256 then (a, q, n + 1) :: r else (k.1, k.2, 1) :: acc
    | [] => [(k.1, k.2, 1)]) []).reverse

/-- One NAK frame goes back along the stream's current route. -/
def sendNak (v : RecvSt) (s : State) (x : Nat × Nat × Nat) : State :=
  match recvRoute s v x.1 with
  | none => s
  | some r =>
    let p := portOf s r
    let b := sealBlock { mkBlock s v.stream x.2.1 r.peer (if v.coll then 4 else 0) x.2.2 [] [] with type := 1 }
    if portReady s p then emit (incF s F.PRT_NAK_TX_COUNT p 1) (.block p (blockHead s r v.stream 7) b) else s

/-- NAKs for blocks that have not reached RESEND_MAX. -/
def nakKeys (s : State) (v : RecvSt) (keys : List (Nat × Nat)) : State :=
  let ok := keys.filter (fun k => match recvRoute s v k.1 with
    | some r => decide (mget v.naks k 0 < nakLimit s (portOf s r))
    | none => false)
  if ok.isEmpty then s
  else
    let s := (nakRuns ok).foldl (sendNak v) s
    putRecv s { v with naks := ok.foldl (fun m k => mput pairLt m k (mget m k 0 + 1) 0) v.naks, lastNak := some (elapsedNs s) }

/-! ## The blocks of an EXPECT (R325 to R327) -/

/-- The key of a block at its receiver: a stream has one sender. -/
def blockKey (coll : Bool) (b : BlockFrame) : Nat × Nat := (if coll then b.src else 0, b.seq)

/-- The keys that an EXPECT waits for, in order. -/
def expectKeys (x : Xfer) : List (Nat × Nat) :=
  (List.range (ceilDiv x.size 4096)).map (fun i => (0, (x.tag + i) % 4294967296))

/-- Keys of a list that have not come. -/
def missingOf (v : RecvSt) (keys : List (Nat × Nat)) : List (Nat × Nat) := keys.filter (fun k => !v.landed.contains k)

/-- The blocks missing before one that has come. -/
def gapBefore (v : RecvSt) (keys : List (Nat × Nat)) (k : Nat × Nat) : List (Nat × Nat) :=
  missingOf v ((keys.takeWhile (fun e => e != k)).filter (fun e => e.1 == k.1))

/-- A block lands at its place in the focal window, or is held by an extent in use (R120, R326). -/
def landBlock (s : State) (x : Xfer) (port : Nat) (b : BlockFrame) : State :=
  let off := x.loc + 4096 * seqIndex x.tag b.seq
  if extentHeld s x.tile off b.payload.length then
    addCause { s with net := { s.net with held := s.net.held ++ [⟨port, b, some x.id⟩] } } x.tile 4 x.id
  else
    let s := landBytes (incF s F.PRT_BLK_RX_COUNT port 1) x.tile off b.payload (blockMarks b)
    let x := { x with left := x.left - 1 }
    if x.left = 0 then
      match s.net.recv.find? (fun v => v.xfer == x.id) with
      | some v =>
        let keys := v.landed.map (fun k => (v.stream, k.2))
        endXfer { s with net := { s.net with recv := s.net.recv.filter (fun w => w.xfer != x.id), ended := s.net.ended ++ keys } } x
      | none => endXfer s x
    else putX s x

/-- A block that passes reaches the EXPECT that waits for it: a duplicate is discarded; otherwise it lands, with a NAK for
the gap before it. -/
def takeExpect (s : State) (v : RecvSt) (x : Xfer) (port : Nat) (b : BlockFrame) : State :=
  let k := blockKey false b
  if v.landed.contains k then s
  else
    let w := { v with landed := v.landed ++ [k] }
    let s := nakKeys (putRecv s w) w ((gapBefore w (expectKeys x) k).filter (fun e => mget w.naks e 0 == 0))
    landBlock s x port b

/-- The EXPECT in progress that a block is addressed to. -/
def expectFor (s : State) (b : BlockFrame) : Option (RecvSt × Xfer) :=
  s.net.recv.findSome? (fun v =>
    if !v.coll && v.stream == b.stream && !bit b.flags 2 then
      match findX s v.xfer with
      | some x => if seqIndex x.tag b.seq < ceilDiv x.size 4096 then some (v, x) else none
      | none => none
    else none)

/-- The program of a tile holds, among bundles that a test picks, a network operation whose descriptor passes a test. -/
def programHas (s : State) (t : Nat) (pick : Nat → Bool) (op : Nat) (p : Nat → Bool) : Bool :=
  (List.range (getF s F.EPH_LEN_COUNT t)).any (fun i => pick i &&
    (let w := (fetchWord s t (getF s F.EPH_BASE_BASE t + 32 * i)).1
     bit w 18 && bNop w == op && p (fetchWord s t (getF s F.EPH_XDESC_BASE t + 32 * bNxd w)).1))

/-- The first bundle index of a tile that has not issued. -/
def nextIndex (s : State) (t : Nat) : Nat :=
  match (getEph s t).queue with
  | f :: _ => if f.left.net then f.idx else f.idx + 1
  | [] => (getEph s t).nextFetch

/-- The descriptor is that of an EXPECT or COLL which a block is addressed to. -/
def addressed (b : BlockFrame) (x : Nat) : Bool :=
  xRemote x % 65536 == b.stream && (bit b.flags 2 || decide (seqIndex (xTag x) b.seq < ceilDiv (xSize x) 4096))

/-- A block is addressed to an EXPECT or COLL that has not yet issued: of the segment in progress, or of a later one when
its STEP is above the segment's (R125). -/
def awaited (s : State) (b : BlockFrame) : Bool :=
  let later := decide (getF s F.SEG_STEP_STEP 0 < b.step)
  (runTiles s).any (fun t => programHas s t (fun i => later || decide (nextIndex s t ≤ i)) (if bit b.flags 2 then 2 else 1) (addressed b))

/-- Bytes of the pier's shared buffer that frames of the scheduled classes take: held blocks, and frames that wait for a gate. -/
def pierSched (s : State) (pier : Nat) : Nat :=
  (s.net.gated.filter (fun g => g.ingress / 48 == pier && decide (5 ≤ g.frame.pcp))).foldl (fun n g => n + g.frame.len)
    ((s.net.held.filter (fun h => h.port / 48 == pier)).foldl (fun n h => n + 114 + h.blk.payload.length) 0)

/-- Bytes that waiting frames of classes 0 to 4 take. -/
def pierOther (s : State) (pier : Nat) : Nat :=
  (s.net.gated.filter (fun g => g.ingress / 48 == pier && decide (g.frame.pcp < 5))).foldl (fun n g => n + g.frame.len) 0

/-- A frame of `len` bytes finds room in a pier: SCHED_BUF MiB are kept for the scheduled classes, and the rest of the 24 MiB is shared
(R319). -/
def pierRoom (s : State) (pier : Nat) (sched : Bool) (len : Nat) : Bool :=
  let kept := s.act.schedBuf * 1048576
  if sched then decide (pierSched s pier + pierOther s pier + len ≤ 25165824) && decide (pierSched s pier + len - kept + pierOther s pier ≤ 25165824 - kept)
  else decide (pierSched s pier - kept + pierOther s pier + len ≤ 25165824 - kept)

/-- A block waits in its pier, or finds no room (R125, R319). -/
def holdBlock (s : State) (port : Nat) (b : BlockFrame) : State :=
  if s.net.held.any (fun h => h.blk.stream == b.stream && h.blk.seq == b.seq && h.blk.src == b.src) then s
  else if pierRoom s (port / 48) true (114 + b.payload.length) = false then
    portEvent (incF s F.PRT_DROP_COUNT port 1) port C.BUFFER_DROP b.stream
  else { s with net := { s.net with held := s.net.held ++ [⟨port, b, none⟩] } }

/-- Held blocks that a test picks leave the pier and are taken one by one. -/
def takeHeld (s : State) (p : HeldBlock → Bool) (f : State → HeldBlock → State) : State :=
  let mine := s.net.held.filter p
  mine.foldl f { s with net := { s.net with held := s.net.held.filter (fun h => !p h) } }

/-- EXPECT (R118, R125): reception is armed and blocks held in the pier for it land. -/
def execExpect (tile : Nat) (s : State) : Out :=
  match netDue s tile 1 with
  | some f =>
    let x := f.ndesc
    let r := startNet s tile f .expect (ceilDiv (xSize x) 4096)
    let v : RecvSt := ⟨r.2.id, false, xRemote x % 65536, [], [], none, false⟩
    let s := { r.1 with net := { r.1.net with recv := r.1.net.recv ++ [v] } }
    .next (takeHeld s (fun h => h.xfer.isNone && !bit h.blk.flags 2 && addressed h.blk x && decide (h.blk.step ≤ getF s F.SEG_STEP_STEP 0)) (fun s h =>
      match expectFor s h.blk with
      | some (v, x) => takeExpect s v x h.port h.blk
      | none => s))
  | none => .next (holdBusy s tile)

/-- HELD_LANDING_RELEASE (R120): the operation or the SEND that held a landing has ended. -/
def execHeldLandingRelease (xfer : Nat) (s : State) : Out :=
  match findX s xfer with
  | some x =>
    if s.eph.causes.any (fun c => c.cause == 4 && c.key == xfer) then
      if x.kind = .expect then
        let s := dropCauses s x.tile (fun c => c.cause == 4 && c.key == xfer)
        .next (takeHeld s (fun h => h.xfer == some xfer) (fun s h =>
          match findX s xfer with
          | some x => landBlock s x h.port h.blk
          | none => s))
      else .next (if readyToLand x then landXfer s x else s)
    else .next s
  | none => .next s

end Sys2Proof.Machine
end

