-- ==== Sys2Proof/Machine/Tower.lean ====
section
/-!
DEFINITION. The commands of the towers (02): spine bursts, aging, layer clocks, layer and partition resets.
-/
namespace Sys2Proof.Machine

/-! ## The spine (R14 to R19, R36, R37) -/

/-- The number of a segment's end. -/
def endNo : SpineEnd → Nat
  | .mountL4 => 0
  | .mountL2 => 1
  | .pierL0 => 2

/-- The layer at which a segment ends (Table: Spine segment latency). -/
def endLayer : SpineEnd → Nat
  | .mountL4 => 4
  | .mountL2 => 2
  | .pierL0 => 0

/-- The one-way latency of a segment in cycles, in both directions and both clock modes, the re-send allowance of 6 cycles
included (R18). -/
def spineLatency : SpineEnd → Nat
  | .mountL4 => 10
  | .mountL2 => 14
  | .pierL0 => 18

/-- The cycles of a segment's latency that its re-send allowance takes. -/
def resendAllowance : Nat := 6

def getSeg (s : State) (t : Nat) (e : SpineEnd) : SpineSeg := mget s.tower.spine (t, endNo e) {}

def setSeg (s : State) (t : Nat) (e : SpineEnd) (x : SpineSeg) : State :=
  { s with tower := { s.tower with spine := mput pairLt s.tower.spine (t, endNo e) x {} } }

/-- The cycles a burst takes through the repeaters and crossings of a segment before its receiving end checks it. -/
def flightCycles (e : SpineEnd) : Nat := spineLatency e - resendAllowance

/-- The fixed delivery cycle of a burst that its receiving end checks now: its segment's latency after it left (R16, R18). -/
def deliveryCycle (s : State) (e : SpineEnd) : Nat := s.clk.cyc + (spineLatency e - flightCycles e)

/-- The bursts and re-sends of the 1 s window that ends now. -/
def lastSecond (s : State) (x : SpineSeg) : List (Nat × Bool) := x.recent.filter (fun e => decide (elapsedNs s < e.1 + 1000000000))

/-- A burst or a re-send joins those of the last second. -/
def countBurst (s : State) (x : SpineSeg) (resend : Bool) : SpineSeg := { x with recent := (elapsedNs s, resend) :: lastSecond s x }

/-- The re-sends of the 1 s window that ends now exceed 1 in 10^6 of its bursts (R19). -/
def weakNow (s : State) (x : SpineSeg) : Bool :=
  let w := lastSecond s x
  decide ((w.filter (fun e => !e.2)).length < (w.filter (·.2)).length * 1000000)

/-- The body of a TSV_STEER record: eight bytes for each failed TSV of the tower and for each segment flagged for a test: the tile in
two bytes, the segment's end, 1 for a flagged segment, and the TSV (assumption 97). -/
def steerBody (s : State) (tower : Nat) : List Byte :=
  (s.tower.steer.filter (fun e => e.1 / 128 == tower)).flatMap (fun e => leBytes e.1 2 ++ leBytes e.2.1 1 ++ leBytes 0 1 ++ leBytes e.2.2 4) ++
    (s.tower.retest.filter (fun e => e.1 / 128 == tower)).flatMap (fun e => leBytes e.1 2 ++ leBytes e.2 1 ++ leBytes 1 1 ++ leBytes 0 4)

/-- A segment is flagged: the next start tests its TSVs again, even a warm one (R19). -/
def flagSegment (s : State) (t : Nat) (e : SpineEnd) : State :=
  let s := { s with tower := { s.tower with retest := s.tower.retest ++ [(t, endNo e)] } }
  logKeep s tTsv (t / 128) (steerBody s (t / 128))

/-- A segment whose re-sends exceed 1 in 10^6 bursts over any 1 s window is weak: it is recorded and flagged, and the tile is
shuttered and slewed unless the code is lowered (R19, Table: Lowerable codes; assumption 41). -/
def checkWeak (s : State) (t : Nat) (e : SpineEnd) : State :=
  let x := getSeg s t e
  if weakNow s x = true ∧ x.weak = false then
    let s := record (flagSegment (setSeg s t e { x with weak := true }) t e) C.SPINE_SEGMENT_WEAK t
    if 2 ≤ effClass s C.SPINE_SEGMENT_WEAK then shutterLogical s t else s
  else s

/-- Every segment is judged, since bursts leave the 1 s window as time passes (R19). -/
def checkSegments (s : State) : State :=
  s.tower.spine.foldl (fun s e => checkWeak s e.1.1 (if e.1.2 = 0 then .mountL4 else if e.1.2 = 1 then .mountL2 else .pierL0)) s

/-- SPINE_BURST_ARRIVE (R14 to R16): a burst that passes its CRC is held until its fixed delivery cycle; one that fails has
its re-send requested and counted (R19). -/
def execSpineBurstArrive (tile : Nat) (target : SpineEnd) (txn : Nat) (data : List Byte) (crc : BitVec 16) (s : State) : Out :=
  let x := countBurst s (getSeg s tile target) false
  let at_ := deliveryCycle s target
  if crc16 data = crc then
    .next (setSeg s tile target { x with holds := x.holds ++ [.held txn at_ data false] })
  else
    let x := countBurst s x true
    let s := setSeg s tile target { x with holds := x.holds ++ [.resend txn at_] }
    let s := setF s F.TWR_RESEND_COUNT (tile / 128) (getF s F.TWR_RESEND_COUNT (tile / 128) + 1)
    .next (checkWeak (record s C.SPINE_RESEND tile) tile target)

/-- The oldest burst that waits for its re-send is replaced. -/
def replaceResend (f : Nat → Nat → SpineHold) : List SpineHold → List SpineHold
  | [] => []
  | .resend i d :: r => f i d :: r
  | h :: r => h :: replaceResend f r

/-- RESENT_BURST_ARRIVE (R15, R17): the repeated burst replaces the failed one; when it fails too, SPINE_BURST_LOST is recorded
and the burst will be delivered with every word poisoned. -/
def execResentBurstArrive (tile : Nat) (target : SpineEnd) (data : List Byte) (crc : BitVec 16) (s : State) : Out :=
  let x := getSeg s tile target
  if x.holds.any (fun h => match h with | .resend _ _ => true | _ => false) then
    let good := crc16 data == crc
    let s := setSeg s tile target { x with holds := replaceResend (fun i d => .held i d data (!good)) x.holds }
    if good then .next s else .next (record s C.SPINE_BURST_LOST tile)
  else .next s

/-- The slice whose port a transaction or a co-add fragment is on its way to, or has come from. -/
def sliceOfTxn (s : State) (txn : Nat) : Option Nat :=
  ((s.deep.done.map (·.1) ++ s.deep.slices.flatMap (fun e => e.2.rq.queue ++ e.2.rq.granted) ++ s.deep.refused.map (·.txn)).find?
      (fun x => x.id == txn)).map (fun x => routeSlice s x.addr)

/-- What a transfer ends with at the delivery cycle of its spine segment (R16, R17, Table: Transfers during a reset): a transfer
issued by a tower in partition reset is discarded; of a transfer whose slice lies in another tower the mount and the partition of
that tower count, of any other the layer at the segment's end. -/
def spineEnd (s : State) (tile : Nat) (target : SpineEnd) (txn : Nat) (poisoned : Bool) : SpineStatus :=
  let own := tile / 128
  let whole := if poisoned then SpineStatus.poisoned else .good
  if partitionDown s own then .discarded
  else match sliceOfTxn s txn with
    | some i =>
      if i / 48 = own then (if inReset s own (endLayer target) then .retry else whole)
      else if partitionDown s (i / 48) then .partitionDown
      else if sliceDown s i then .retry
      else whole
    | none => if inReset s own (endLayer target) then .retry else whole

/-- Every word of a transaction's data is poisoned (R17). -/
def poisonWords (x : Txn) : Txn := { x with poison := x.data.map (fun _ => true) }

/-- Every word of a burst is poisoned (R17): the data that a read has brought back, or the data that a store or a co-add fragment
carries to its slice. -/
def poisonTxn (s : State) (txn : Nat) : State :=
  let mark (x : Txn) : Txn := if x.id = txn ∧ x.kind = .write then poisonWords x else x
  let inQueue (q : ReqQueue) : ReqQueue := { q with queue := q.queue.map mark, granted := q.granted.map mark }
  { s with deep := { s.deep with
      done := s.deep.done.map (fun e => if e.1.id = txn then (e.1, e.2.1, e.2.2.map (fun _ => true)) else e)
      slices := s.deep.slices.map (fun e => (e.1, { e.2 with rq := inQueue e.2.rq }))
      refused := s.deep.refused.map (fun r => { r with txn := mark r.txn })
      frags := s.deep.frags.map (fun f => if f.id = txn then { f with poison := f.data.map (fun _ => true) } else f) } }

/-- A burst is delivered poisoned (R17, TWR_LOST). -/
def deliverLost (s : State) (tile txn : Nat) : State := poisonTxn (incF s F.TWR_LOST_COUNT (tile / 128) 1) txn

/-- The transaction of a transfer that is no more leaves every queue: its response is dropped (Table: Transfers during a reset). -/
def dropTxn (s : State) (txn : Nat) : State :=
  let others (l : List Txn) : List Txn := l.filter (fun x => x.id != txn)
  { s with deep := { s.deep with
      done := s.deep.done.filter (fun e => e.1.id != txn)
      slices := s.deep.slices.map (fun e => (e.1, { e.2 with rq := { e.2.rq with queue := others e.2.rq.queue, granted := others e.2.rq.granted } }))
      refused := s.deep.refused.filter (fun r => r.txn.id != txn)
      frags := s.deep.frags.filter (fun f => f.id != txn) } }

/-- A transaction that ended with RETRY, whether on its way to its slice or back from it, waits to be issued again (R37). -/
def retryTxn (s : State) (txn : Nat) : State :=
  match s.deep.done.find? (fun e => e.1.id == txn) with
  | some e =>
    retryLater (setOutstanding (dropTxn s txn) e.1.cls e.1.inst e.1.band (outstanding s e.1.cls e.1.inst e.1.band + 1)) e.1
      (.slice (routeSlice s e.1.addr))
  | none =>
    match (s.deep.slices.flatMap (fun e => e.2.rq.queue ++ e.2.rq.granted)).find? (fun x => x.id == txn) with
    | some x => retryLater (keepFrag (dropTxn s txn)) x (.slice (routeSlice s x.addr))
    | none => s
where
  /-- The data of a co-add fragment stays with its tile until it is issued again. -/
  keepFrag (t : State) : State := { t with deep := { t.deep with frags := s.deep.frags } }

/-- SPINE_BURST_DELIVER (R16, R17, R36): in its fixed delivery cycle the oldest held burst is handed on. -/
def execSpineBurstDeliver (tile : Nat) (target : SpineEnd) (s : State) : Out :=
  let x := getSeg s tile target
  match x.holds with
  | .held i d data p :: rest =>
    if d ≤ s.clk.cyc then
      let st := spineEnd s tile target i p
      let s := setSeg s tile target { x with holds := rest }
      let data := if st = .good ∨ st = .poisoned then data else []
      let s := { s with tower := { s.tower with out := some ⟨tile, target, i, st, data⟩ } }
      .next (match st with
        | .good => s
        | .poisoned => deliverLost s tile i
        | .retry => retryTxn s i
        | .partitionDown => dropTxn s i
        | .discarded => dropTxn s i)
    else .next s
  | _ => .next s

/-! ## Aging (R21 to R26) -/

/-- A byte of the fuse map. -/
def fuseByte (s : State) (i : Nat) : Nat := mget s.boot.fuse i 0

/-- The fuse map as bytes (R446). -/
def fuseMap (s : State) : List Byte := (List.range 4096).map (fun i => BitVec.ofNat 8 (fuseByte s i))

/-- The SHA-384 digest of the fuse map. -/
def fuseDigest (s : State) : List Byte := sha384 (fuseMap s)

/-- The fused voltage offset of a physical tile, in 2.5 mV steps (R21, R446). -/
def fusedOffset (s : State) (p : Nat) : Nat := fuseByte s (1344 + p) % 16

def getPhys (s : State) (p : Nat) : PhysTile := mget s.tower.phys p {}

def setPhys (s : State) (p : Nat) (x : PhysTile) : State :=
  { s with tower := { s.tower with phys := mput natLt s.tower.phys p x {} } }

/-- The set-point of the clock mode in 2.5 mV steps: 0.775 V or 0.700 V (R462). -/
def modeBase (s : State) : Nat := if getB s F.GLB_MODES_SUSTAIN 0 then 280 else 310

/-- The total set-point of a tile, at most 0.90 V (R25, R462). -/
def setPoint (s : State) (p : Nat) : Nat := modeBase s + fusedOffset s p + (getPhys s p).age

/-- The ceiling of VDOME, 0.90 V, in 2.5 mV steps. -/
def vCeiling : Nat := 360

/-- The physical tiles of a tower. -/
def towerTiles (tower : Nat) : List Nat := (List.range 144).map (144 * tower + ·)

/-- The largest aging offset among a tower's tiles (TWR_AGE). -/
def maxAge (s : State) (tower : Nat) : Nat := (towerTiles tower).foldl (fun m p => max m (getPhys s p).age) 0

/-- The smallest distance of a set-point to 0.90 V among a tower's tiles, 0xFF before first light (TWR_AGE). -/
def minMargin (s : State) (tower : Nat) : Nat :=
  if devState s = 5 ∨ s.boot.lightDone = true then (towerTiles tower).foldl (fun m p => min m (vCeiling - setPoint s p)) 0xFF else 0xFF

/-- The time between evaluations of a tile: 1 ms in first light, and as long as a tile without a whole history has not met its
target with all four monitors; else 10 s in Tracking and Idle (R22, R24). -/
def agingPeriod (s : State) (p : Nat) : Option Nat :=
  if devState s = 5 then some 1000000
  else if devState s = 6 ∨ devState s = 4 then some (if (getPhys s p).ageKnown then 10000000000 else 1000000)
  else none

/-- A tile's total set-point lies within 15 mV, six steps, of the ceiling (R25). -/
def marginLow (s : State) (p : Nat) : Bool := decide (vCeiling ≤ setPoint s p + 6)

/-- AGE_MARGIN_LOW is recorded when a tile's set-point comes within 15 mV of the ceiling, whatever brought it there (R25). -/
def checkMargin (s : State) (p : Nat) : State :=
  let x := getPhys s p
  if marginLow s p = x.marginRec then s
  else
    let s := setPhys s p { x with marginRec := !x.marginRec }
    if x.marginRec then s else record s C.AGE_MARGIN_LOW (tileUnit s p)

/-- AGING_EVAL (R22 to R26): `below` marks the monitors that run below their target. -/
def execAgingEval (phys : Nat) (below : BitVec 4) (s : State) : Out :=
  match agingPeriod s phys with
  | none => .next s
  | some n =>
    let x := getPhys s phys
    if passed s x.lastEval n = false ∧ x.lastEval ≠ 0 then .next s
    else
      let s := setPhys s phys { x with lastEval := elapsedNs s, met := below == 0, ageKnown := x.ageKnown || below == 0 }
      let x := getPhys s phys
      if below = 0 then .next s
      else if vCeiling ≤ setPoint s phys then .next (shutterTile (record s C.AGE_CEILING (tileUnit s phys)) phys true)
      else .next (checkMargin (logKeep (setPhys s phys { x with age := x.age + 1 }) tAging phys (leBytes (x.age + 1) 4)) phys)

/-! ## Layer clocks (R27, R28) -/

def getPll (s : State) (tower layer : Nat) : PllPair := mget s.tower.pll (tower, layer) {}

def setPll (s : State) (tower layer : Nat) (x : PllPair) : State :=
  { s with tower := { s.tower with pll := mput pairLt s.tower.pll (tower, layer) x {} } }

def PllPair.activeLock (x : PllPair) : Bool := if x.useB then x.lockB else x.lockA
def PllPair.standbyLock (x : PllPair) : Bool := if x.useB then x.lockA else x.lockB

/-- PLL_LOCK and PLL_STANDBY_OK follow the layers (TWR_STATUS). -/
def postPll (s : State) (tower : Nat) : State :=
  let ps := (List.range 8).map (getPll s tower)
  setB (setB s F.TWR_STATUS_PLL_LOCK tower (ps.all (·.activeLock))) F.TWR_STATUS_PLL_STANDBY_OK tower (ps.all (·.standbyLock))

/-- LAYER_PLL_LOST (R28): both PLLs of a layer have lost lock. -/
def layerLost (s : State) (tower layer : Nat) : State :=
  let s := setPll s tower layer { getPll s tower layer with lockA := false, lockB := false }
  record (postPll s tower) C.LAYER_PLL_LOST tower

/-- LAYER_PLL_SWITCH (R27): the active PLL loses lock and the standby takes over; with no standby locked both are lost. -/
def execLayerPllSwitch (tower layer : Nat) (s : State) : Out :=
  let x := getPll s tower layer
  if x.standbyLock then
    let y := if x.useB then { x with lockB := false, useB := false } else { x with lockA := false, useB := true }
    .next (record (postPll (setPll s tower layer y) tower) C.LAYER_PLL_SWITCH tower)
  else .next (layerLost s tower layer)

/-- LAYER_PLL_LOST (R28). -/
def execLayerPllLost (tower layer : Nat) (s : State) : Out := .next (layerLost s tower layer)

/-! ## Resets (R34 to R38) -/

/-- The channels of a tower enter self-refresh, whatever their state (R34): a lamp run stops, and a spread copy is abandoned (R266). -/
def selfRefresh (s : State) (tower : Nat) : State :=
  (List.range 48).foldl (fun s k =>
    let c := 48 * tower + k
    setF (stopLamp s c) F.MCH_STATUS_STATE c 3) s

/-- The channels of a tower leave self-refresh: an abandoned copy begins again, a shuttered channel stays so, and one that has not
been trained is in training again during collimation. -/
def leaveRefresh (s : State) (tower : Nat) : State :=
  (List.range 48).foldl (fun s k =>
    let c := 48 * tower + k
    if getF s F.MCH_STATUS_STATE c = 3 then
      setF s F.MCH_STATUS_STATE c (if (getChan s c).copy.isSome then 5 else if getB s F.FLT_SHUT_CHANNEL c then 4
        else if getF s F.MCH_STATUS_TRAIN c ≠ 0 then 2 else if devState s = 3 then 1 else 0)
    else s) s

/-- The slices of a tower lose their lines without write-back; a dirty committed line clears STATE_INTACT (R35, R369). -/
def loseTowerLines (s : State) (tower : Nat) : State :=
  let mine (e : (Nat × Nat) × List CLine) : Bool := e.1.1 / 48 == tower
  let lost := s.deep.sets.any (fun e => mine e && e.2.any (fun x => x.dirty.any id && isCommitted s x.base))
  let s := { s with deep := { s.deep with sets := s.deep.sets.filter (fun e => !mine e) } }
  if lost then clearIntact s else s

/-- The stored bytes of a range with their side bits and page codes are gone. -/
def wipe (s : State) (lo hi : Nat) : State :=
  { s with store := { s.store with
      mem := s.store.mem.filter (fun e => !(decide (lo ≤ e.1) && decide (e.1 < hi)))
      side := s.store.side.filter (fun e => !(decide (lo / 32 ≤ e.1) && decide (e.1 < hi / 32)))
      pcode := s.store.pcode.filter (fun e => !(decide (lo / 4096 * 32 ≤ e.1) && decide (e.1 < hi / 4096 * 32))) } }

/-- The slices of a tower. -/
def towerSlices (tower : Nat) : List Nat := (List.range 48).map (48 * tower + ·)

/-- A slice controller loses what it holds: its streams (R214, R239), its co-add window and NEXT counters, its counts, its queue
and its overflow co-adds. The requests that it had taken end with RETRY (R36), so they wait to be issued again. -/
def clearController (s : State) (i : Nat) : State :=
  let c := getSlice s i
  let txns := c.rq.queue ++ c.rq.granted ++ c.pendingMiss.map (·.txn) ++ c.ovf.flatMap (·.behind) ++ c.window.map (fragTxn s)
  let s := setSlice { s with deep := { s.deep with frags := s.deep.frags ++ c.window } } i { folding := c.folding }
  let s := (c.pendingMiss.map (·.txn.id) ++ c.ovf.map (·.write)).foldl dropWrite s
  txns.foldl (fun s x => retryLater s x (.slice i)) s

/-- The contents of a slice's part of its plate: its ways and its carved scratch. -/
def wipeSlice (s : State) (i : Nat) : State :=
  wipe (wipe s (plateAddr i 0 0) (plateAddr (i + 1) 0 0)) (scratchBase + i * 0x8000000) (scratchBase + (i + 1) * 0x8000000)

/-- What a reset of a layer discards (R35): the tiles' work, the focal store, a plate's SRAM, or what a mount's slice controllers
hold. A reset of a plate or of a mount invalidates the lines of the whole tower without write-back. -/
def loseLayer (s : State) (tower layer : Nat) : State :=
  if layer = 7 then
    let mine (t : Nat) : Bool := t / 128 == tower
    let s := ((s.lane.tiles.map (·.1)).filter mine).foldl abortTile s
    { s with
        arr := s.arr.filter (fun e => !mine e.1)
        eph := { s.eph with tiles := s.eph.tiles.filter (fun e => !mine e.1) }
        lane := { s.lane with tiles := s.lane.tiles.filter (fun e => !mine e.1) } }
  else if layer = 6 then wipe s (focalAddr (128 * tower) 0) (focalAddr (128 * tower + 128) 0)
  else if layer = 0 then s
  else if layer % 2 = 1 then ((towerSlices tower).filter (fun i => plateOf i == layer)).foldl wipeSlice (loseTowerLines s tower)
  else ((towerSlices tower).filter (fun i => mountOf i == layer)).foldl clearController (loseTowerLines s tower)

/-- A reset in a running job closes shutters on every unit of its domain (02): the step in progress is rejected, and FLT_SHUT shows
them until the reset ends (R519; assumption 83). -/
def beginReset (s : State) (tower : Nat) (layer : Option Nat) (origin : Nat) : State :=
  let s := { s with tower := { s.tower with resets := s.tower.resets ++ [⟨tower, layer, origin, elapsedNs s, phase s != 0⟩] } }
  let bits := match layer with
    | some l => getF s F.TWR_STATUS_LAYER_RST tower ||| 2 ^ l
    | none => 255
  let s := setB (setF s F.TWR_STATUS_LAYER_RST tower bits) F.TWR_STATUS_PARTITION_UP tower false
  let s := if layer = some 0 ∨ layer = none then selfRefresh s tower else s
  let s := if phase s = 0 then s else shutterCloses s
  let s := if phase s = 4 then clearIntact s else s
  match layer with
  | some l => loseLayer s tower l
  | none => [7, 6, 5, 4, 3, 2, 1].foldl (fun s l => loseLayer s tower l) s

/-- A reset request by TWR_RESET or by a service command. Layers that are in reset already are not reset again. -/
def requestReset (s : State) (tower : Nat) (layers : List Nat) (partition : Bool) (origin : Nat) : State :=
  if partition then (if partitionDown s tower then s else beginReset s tower none origin)
  else layers.foldl (fun s l => if inReset s tower l then s else beginReset s tower (some l) origin) s

/-- A write to TWR_RESET (R38): acts only with the key and in Bench; both requests together make a partition reset. -/
def writeTwrReset (s : State) (tower v origin : Nat) : State :=
  if bits v 16 16 = 0x7A11 ∧ inBench s then
    requestReset s tower ((List.range 8).filter (bit v)) (bit v 8) origin
  else record s C.KEY_REFUSED tower origin

/-- LAYER_REQ (R38). -/
def execLayerReq (tower : Nat) (value : W32) (origin : Nat) (s : State) : Out := .next (writeTwrReset s tower value.toNat origin)

/-- PARTITION_REQ (R38). -/
def execPartitionReq (tower : Nat) (value : W32) (origin : Nat) (s : State) : Out := .next (writeTwrReset s tower value.toNat origin)

/-- The origin of a reset that ends. -/
def resetOrigin (s : State) (tower : Nat) (layer : Option Nat) : Nat :=
  match s.tower.resets.find? (fun r => r.tower == tower && r.layer == layer) with
  | some r => r.origin
  | none => 0

/-- What LAYER_RESET and PARTITION_RESET record: the layer or the tower, the origin and the duration (table of fault codes of the tower). -/
def resetDetail (s : State) (tower : Nat) (layer : Option Nat) : List Nat :=
  match s.tower.resets.find? (fun r => r.tower == tower && r.layer == layer) with
  | some r => [layer.getD tower, r.origin, elapsedNs s - r.start]
  | none => []

/-- A reset is no longer in progress. -/
def dropReset (s : State) (tower : Nat) (layer : Option Nat) : State :=
  { s with tower := { s.tower with resets := s.tower.resets.filter (fun r => !(r.tower == tower && r.layer == layer)) } }

/-- LAYER_RESET_DONE (R34, R35): the layer leaves reset; channels leave self-refresh after a reset of L0. -/
def execLayerResetDone (tower layer : Nat) (s : State) : Out :=
  if s.tower.resets.any (fun r => r.tower == tower && r.layer == some layer) then
    let o := resetOrigin s tower (some layer)
    let d := resetDetail s tower (some layer)
    let s := dropReset s tower (some layer)
    let b := getF s F.TWR_STATUS_LAYER_RST tower &&& (255 - 2 ^ layer)
    let s := setB (setF s F.TWR_STATUS_LAYER_RST tower b) F.TWR_STATUS_PARTITION_UP tower (b == 0)
    let s := if layer = 0 then leaveRefresh s tower else s
    .next (recordWith s C.LAYER_RESET tower d o)
  else .next s

/-- PARTITION_RESET_DONE (R34, R36): every layer has restored its crossings and the slices are initialised. -/
def execPartitionResetDone (tower : Nat) (s : State) : Out :=
  if partitionDown s tower then
    let o := resetOrigin s tower none
    let d := resetDetail s tower none
    let s := { s with tower := { s.tower with resets := s.tower.resets.filter (fun r => r.tower != tower) } }
    let s := setB (setF s F.TWR_STATUS_LAYER_RST tower 0) F.TWR_STATUS_PARTITION_UP tower true
    .next (recordWith (leaveRefresh s tower) C.PARTITION_RESET tower d o)
  else .next s

end Sys2Proof.Machine
end

