-- ==== Sys2Proof/Machine/Regs.lean ====
section
/-!
DEFINITION. Register access (00_scope.md, R5 to R7): from an address to a register, reads with the latched high halves, and
the plain effect of a write by the access codes.
-/
namespace Sys2Proof.Machine

/-! ## From an address to a register (Table: Register blocks) -/

/-- The base of the register space. -/
def regBase : Nat := 0x3F0000000000

/-- The block, unit and offset of a register address. -/
def regPlace (a : Nat) : Option (Block × Nat × Nat) :=
  if a < regBase then none
  else
    let o := a - regBase
    if o < 0x100000 then
      if 0x1000 ≤ o ∧ o < 0x1400 then some (.twr, (o - 0x1000) / 0x100, o % 0x100) else some (.glb, 0, o)
    else if o < 0x200000 then some (.flt, 0, o - 0x100000)
    else if o < 0x300000 then some (.thm, 0, o - 0x200000)
    else if o < 0x400000 then some (.pwr, 0, o - 0x300000)
    else if o < 0x500000 then some (.sec, 0, o - 0x400000)
    else if o < 0x600000 then some (.log, 0, o - 0x500000)
    else if o < 0x700000 then some (.mcc, 0, o - 0x600000)
    else if o < 0x800000 then some (.mer, 0, o - 0x700000)
    else if o < 0x900000 then some (.bnd, 0, o - 0x800000)
    else if o < 0x1000000 then none
    else if o < 0x2000000 then
      let p := (o - 0x1000000) / 0x10000
      if p < 192 ∨ p = 255 then some (.prt, p, o % 0x10000) else none
    else if o < 0x4000000 then
      let c := (o - 0x2000000) / 0x10000
      if c < 192 then some (.mch, c, o % 0x10000) else none
    else if o < 0x10000000 then
      let i := (o - 0x4000000) / 0x10000
      if i < 192 then some (.slc, i, o % 0x10000) else none
    else
      let t := (o - 0x10000000) / 0x100000
      if t < 512 then some (.til, t, o % 0x100000) else none

/-- A register found: its description, the unit of its fields, the block's unit. -/
structure RegAt where
  reg : RegWord
  unit : Nat
  owner : Nat
  deriving DecidableEq, Repr

/-- The register at an address. -/
def regAt (a : Nat) : Option RegAt :=
  match regPlace a with
  | none => none
  | some (b, u, o) =>
    match (regTable b).find? (fun r => decide (r.off ≤ o) && (o - r.off) % r.stride == 0 && decide ((o - r.off) / r.stride < r.count)) with
    | none => none
    | some r => some ⟨r, u * r.count + (o - r.off) / r.stride, u⟩

/-! ## Fields whose value follows from the state -/

/-- Bits of 32 units of a shutter bitmap: the shutters closed, and the units that `more` names (R519). -/
def bitWord (s : State) (f : Field) (more : Nat → Bool) (w : Nat) : Nat :=
  (List.range 32).foldl (fun n j => n + if getB s f (32 * w + j) || more (32 * w + j) then 2 ^ j else 0) 0

/-- A reset in a running job has closed the shutter of a physical tile: its dome or its focal die is in the reset domain. -/
def tileInReset (s : State) (p : Nat) : Bool := decide (p < 576) && (resetShuts s (p / 144) 7 || resetShuts s (p / 144) 6)

/-- The same of a slice: its plate or its mount. -/
def sliceInReset (s : State) (i : Nat) : Bool := decide (i < 192) && (resetShuts s (i / 48) (plateOf i) || resetShuts s (i / 48) (mountOf i))

/-- The same of a channel: its pier. -/
def chanInReset (s : State) (c : Nat) : Bool := decide (c < 192) && resetShuts s (c / 48) 0

/-- Entry `i` of the history ring: the newest event lies just below NEXT (R512). -/
def histEntry (s : State) (i : Nat) : Option Event :=
  let next := getF s F.FLT_HIST_HEAD_NEXT 0
  s.flt.hist[(next + 63 - i) % 64]?

/-- A field of a history entry. -/
def histField (s : State) (u : Nat) (g : Event → Nat) : Nat :=
  match histEntry s u with
  | some e => g e
  | none => 0

/-- ARR_STATUS.HELD: the datapath of the tile is held under R71 or R72. -/
def tileHeld (s : State) (t : Nat) : Bool := paused s || (stalled s && !stallWaitsFor s t)

/-- The first cause of the stall in force that a tile is; 0 for none (EPH_STATUS). -/
def causeHere (s : State) (t : Nat) : Nat :=
  match s.eph.causes.find? (fun c => c.tile == t) with
  | some c => c.cause
  | none => 0

/-- A 64-bit count of a tile with the cycles that the operation in progress adds. -/
def runningCount (s : State) (f : Field) (t n : Nat) : Nat := (getF s f t + n) % 2 ^ 64

/-- The group that a tile's debug registers show: the halted one. -/
def haltedGroup (s : State) (t : Nat) : Option Group :=
  match (getLane s t).haltSlot with
  | some i =>
    match getGroup s t i with
    | some g => if g.halted then some g else none
    | none => none
  | none => none

/-- The mask of an entry of a mask stack; entry 0 is the oldest. -/
def stackMask (g : Group) (i : Nat) : W32 :=
  match g.stack.reverse[i]? with
  | some (.rejoin m _) => m
  | some (.pend m _) => m
  | some (.waiting m _ _) => m
  | none => 0

/-- The value that DBG_DATA shows, with its poison flag (R181, DBG_SEL). -/
def dbgValue (s : State) (t : Nat) : Nat × Bool :=
  match haltedGroup s t with
  | none => (0, false)
  | some g =>
    let r := getF s F.DBG_SEL_REG t
    match getF s F.DBG_SEL_FILE t with
    | 0 => let x := vGet g r (getF s F.DBG_SEL_LANE t); (x.v.toNat, x.poison)
    | 1 => let x := sGet g (r % 32); (x.v.toNat % 2 ^ 32, x.poison)
    | 2 => let x := sGet g (r % 32); (x.v.toNat / 2 ^ 32, x.poison)
    | _ => ((stackMask g r).toNat, false)

/-- Groups of a tile that a test picks. -/
def countGroups (s : State) (t : Nat) (p : Group → Bool) : Nat :=
  ((getLane s t).groups.filter (fun e => match e.2 with | some g => p g | none => false)).length

/-- The spare column of an array of a tile: the nibble of SPARE_COLS of its physical tile (R446). -/
def fuseSpare (s : State) (t k : Nat) : Nat := (fuseByte s (192 + 2 * physOf s t + k / 2)) / 16 ^ (k % 2) % 16

/-- Fields of a tile's block that follow from its units. -/
def tileField (s : State) (f : Field) (t : Nat) : Option Nat :=
  if f.id = F.EPH_STATUS_HELD.id then some (paused s || stalled s).toNat
  else if f.id = F.ARR_STATUS_HELD.id then some (tileHeld s t).toNat
  else if f.id = F.EPH_STATUS_CAUSE_HERE.id then some (causeHere s t != 0).toNat
  else if f.id = F.EPH_STATUS_CAUSE.id then some (causeHere s t)
  else if f.id = F.EPH_PC_IN_SEGMENT.id then some (s.eph.inSegment && getF s F.EPH_LEN_COUNT t != 0).toNat
  else if f.id = F.ARR_STREAM_COUNT.id then some (runningCount s f t (streamSoFar s t))
  else if f.id = F.ARR_WAIT_COUNT.id then some (runningCount s f t (waitSoFar s t))
  else if f.id = F.FND_STREAM_COUNT.id then some (runningCount s f t (finderSoFar s t))
  else if f.id = F.ARR_FAULTS_IN_WINDOW.id then some (if (getArr s t).window = windowAt s t then getF s f t else 0)
  else if f.id = F.EPH_OUTSTANDING_TRANSFERS.id then some ((s.eph.xfers.filter (fun x => x.tile == t)).length)
  else if f.id = F.EPH_OUTSTANDING_TASKS.id then some (getEph s t).tokens.length
  else if f.id = F.LANE_STATUS_RESIDENT.id then some (countGroups s t (fun _ => true))
  else if f.id = F.LANE_STATUS_ACTIVE.id then some (countGroups s t (·.active))
  else if f.id = F.LANE_STATUS_TASKS.id then some (getLane s t).tasks.length
  else if f.id = F.LANE_STATUS_FRAG.id then some (getArr s t).owner.isSome.toNat
  else if f.id = F.LANE_STATUS_HALTED.id ∨ f.id = F.DBG_STATE_HALTED.id then some (haltedGroup s t).isSome.toNat
  else if f.id = F.DBG_STATE_STEP_BUSY.id then
    some (match haltedGroup s t with
      | some g => (getB s f t && (g.wait == .globalLoad || g.wait == .release || g.wait == .fullRelease)).toNat
      | none => 0)
  else if f.id = F.DBG_STATE_DEPTH.id then some (match haltedGroup s t with | some g => g.stack.length | none => 0)
  else if f.id = F.DBG_PC_PC.id then some (match haltedGroup s t with | some g => g.pc | none => 0)
  else if f.id = F.DBG_MASK_MASK.id then some (match haltedGroup s t with | some g => g.mask.toNat | none => 0)
  else if f.id = F.DBG_DATA_DATA.id then some (dbgValue s t).1
  else if f.id = F.DBG_SEL_POISON.id then some (dbgValue s t).2.toNat
  else if f.id = F.TRIM_STATUS_STATE.id then some (getTileP s (physOf s t)).state
  else if f.id = F.TRIM_STATUS_SET.id then some (if (getTileP s (physOf s t)).state = 0 then 0 else setPoint s (physOf s t))
  else if f.id = F.TRIM_STATUS_FUSE.id then some (fusedOffset s (physOf s t))
  else if f.id = F.TRIM_STATUS_AGE.id then some (getPhys s (physOf s t)).age
  else if f.id = F.TRIM_STATUS_QUOTA.id then some (getTileP s (physOf s t)).quota
  else if f.id = F.ARR_SPARE_SPARE_A.id then some (fuseSpare s t 0)
  else if f.id = F.ARR_SPARE_SPARE_B.id then some (fuseSpare s t 1)
  else if f.id = F.ARR_SPARE_SPARE_C.id then some (fuseSpare s t 2)
  else if f.id = F.ARR_SPARE_SPARE_D.id then some (fuseSpare s t 3)
  else none

/-- Fields of the collector that follow from its queue and bitmaps. -/
def fltField (s : State) (f : Field) (u : Nat) : Option Nat :=
  if f.id = F.FLT_SHUTS_TILE.id then some (bitWord s F.FLT_SHUT_TILE (tileInReset s) u)
  else if f.id = F.FLT_SHUTS_SLICE.id then some (bitWord s F.FLT_SHUT_SLICE (sliceInReset s) u)
  else if f.id = F.FLT_SHUTS_CHANNEL.id then some (bitWord s F.FLT_SHUT_CHANNEL (chanInReset s) u)
  else if f.id = F.FLT_SHUTS_PORT.id then some (bitWord s F.FLT_SHUT_PORT (fun _ => false) u)
  else if f.id = F.FLT_SHUTS_LANE.id then some (bitWord s F.FLT_SHUT_LANE (fun _ => false) u)
  else if f.id = F.FLT_HIST_TIME_LO.id then some (histField s u (fun e => e.time % 2 ^ 32))
  else if f.id = F.FLT_HIST_TIME_HI.id then some (histField s u (fun e => e.time / 2 ^ 32))
  else if f.id = F.FLT_HIST_CODE.id then some (histField s u (·.code))
  else if f.id = F.FLT_HIST_CLASS.id then some (histField s u (·.cls))
  else if f.id = F.FLT_HIST_ORIGIN.id then some (histField s u (·.origin))
  else if f.id = F.FLT_HIST_UNIT.id then some (histField s u (·.unit))
  else if f.id = F.FLT_STATUS_MGC_OK.id then some (s.flt.coreUp && decide (elapsedNs s ≤ s.flt.fedAt + 100000000)).toNat
  else none

/-- Fields of a slice that follow from its state. -/
def sliceField (s : State) (f : Field) (i : Nat) : Option Nat :=
  if f.id = F.SLC_STATUS_CACHE_WAYS.id then some (16 - 2 * getF s F.SLC_CFG_CARVE i)
  else if f.id = F.SLC_STATUS_PINNED_MAX.id then
    some ((s.deep.sets.filter (fun e => e.1.1 == i)).foldl (fun m e => max m (e.2.filter (·.pinned)).length) 0)
  else if f.id = F.SLC_STATUS_WINDOW_USED.id then some (getSlice s i).window.length
  else if f.id = F.SLC_STATUS_OVF_ACTIVE.id then some (!(getSlice s i).ovf.isEmpty).toNat
  else none

/-- The straps, the pins and the fuses as registers show them (R2, R503, R549, R574). -/
def strapField (s : State) (f : Field) (u : Nat) : Option Nat :=
  if f.id = F.PIN_STATUS_THERM_LATCH.id ∨ f.id = F.THM_STATUS_LATCH_STRAP.id then some s.thm.latch.toNat
  else if f.id = F.THM_STATUS_LATCH_FUSE.id then some (bit (fuseByte s 4) 0).toNat
  else if f.id = F.GLB_MODES_LATCHED.id then some (s.thm.latch || bit (fuseByte s 4) 0).toNat
  else if f.id = F.PIN_STATUS_ERRN_PIN.id then some (getF s F.FLT_STATUS_ERRN 0)
  else if f.id = F.PIN_STATUS_THERMTRIP_PIN.id then some s.thm.pin.toNat
  else if f.id = F.PIN_STATUS_SYNCE_OUT_ON.id then some (getF s F.TIME_STATUS_SYNCE_LOCKED 0)
  else if f.id = F.GLB_STEPPING_FUSE_FORMAT.id then some (fuseByte s 0 + 256 * fuseByte s 1)
  else if f.id = F.GLB_FUSE_ID_ID.id then some (leNat ((fuseDigest s).take 8))
  else if f.id = F.FUSE_MAP_DATA.id then some (leNat ((List.range 4).map (fun k => BitVec.ofNat 8 (fuseByte s (4 * u + k)))))
  else if f.id = F.SEC_STATUS_ROLLBACK.id then some s.log.fuses.rollback
  else if f.id = F.SEC_STATUS_POLICY_LOCK.id then some s.log.fuses.policyLock.toNat
  else if f.id = F.SEC_STATUS_ROOT_SLOT.id then some s.log.fuses.revoke.toNat
  else none

/-- Fields of the remaining blocks that follow from the state. -/
def otherField (s : State) (f : Field) (u : Nat) : Option Nat :=
  if f.id = F.TIME_NOW_TIME.id then some (nowNs s)
  else if f.id = F.IMG_DIGEST_DIGEST.id then some (leNat ((s.act.digest.drop (4 * u)).take 4))
  else if f.id = F.IMG_COVER_GRANULES.id then some s.act.granules.length
  else if f.id = F.PRT_REPLAY_USED.id then some ((s.net.replay.filter (fun b => b.port == u)).length)
  else if f.id = F.LOADER_STATUS_AHEAD.id then
    some ((s.net.loader.staged.filter (fun n => decide (getF s F.MER_STEP_STEP 0 < n))).length)
  else if f.id = F.DEV_SPARES_SPARES.id then some ((List.range 4).foldl (fun n d => n + domeSpares s d * 32 ^ d) 0)
  else if f.id = F.TWR_AGE_MAX_AGE.id then some (maxAge s u)
  else if f.id = F.TWR_AGE_MIN_MARGIN.id then some (minMargin s u)
  else if f.id = F.PWR_STATUS_WAKE_QUEUE.id then some s.pwr.queue.length
  else if f.id = F.LOG_PENDING_DEVICE.id then some (pendingOf s 0).length
  else if f.id = F.LOG_PENDING_SERVICE.id then some (pendingOf s 1).length
  else strapField s f u

/-- The value of a field as a read gives it. -/
def fieldNow (s : State) (b : Block) (f : Field) (u : Nat) : Nat :=
  let r := match b with
    | .til => tileField s f u
    | .flt => fltField s f u
    | .slc => sliceField s f u
    | _ => otherField s f u
  match r with
  | some v => v % 2 ^ f.width
  | none => getF s f u

/-! ## Reads (R5, R6, R312) -/

/-- A port index that names no port reads 0 in every register. -/
def noPort (s : State) (b : Block) (owner : Nat) : Bool :=
  b == .prt && owner != 255 && !getB s F.PRT_CFG_ENABLE owner

/-- The value of a part of a register word. -/
def partNow (s : State) (r : RegAt) (p : RegPart) : Nat :=
  if p.acc = .wo then 0 else bits (fieldNow s r.reg.block p.fld r.unit) p.src p.width

/-- The word of a register as a read gives it, without the latching of R6. -/
def wordNow (s : State) (r : RegAt) : Nat :=
  if noPort s r.reg.block r.owner then 0
  else r.reg.parts.foldl (fun n p => n + partNow s r p * 2 ^ p.lo) 0

/-- The reset value of the high half of a pair: that of GLB_FUSE_ID is the fuse map's digest (R2), every other the table's. -/
def highReset (s : State) (f : Field) : Nat :=
  (if f.id = F.GLB_FUSE_ID_ID.id then leNat ((fuseDigest s).take 8) else f.reset) / 2 ^ 32

/-- The latched value of a high half: the reset value until the low half was read (R6). -/
def latchNow (s : State) (r : RegAt) : Nat :=
  if noPort s r.reg.block r.owner then 0
  else r.reg.parts.foldl (fun n p => n + mget s.sys.latch (p.fld.id, r.unit) (highReset s p.fld) % 2 ^ p.width * 2 ^ p.lo) 0

/-- A read of an address: a low half latches its high half, a high half reads what was latched (R6). DESIGN CHOICE
(assumption 75): an address that holds no register reads 0; the spec says nothing of it. -/
def readReg (s : State) (a : Nat) : State × Nat :=
  match regAt a with
  | none => (s, 0)
  | some r =>
    match r.reg.pair with
    | .single => (s, wordNow s r)
    | .hi => (s, latchNow s r)
    | .lo =>
      let put (m : PMap Nat) (p : RegPart) : PMap Nat :=
        mput pairLt m (p.fld.id, r.unit) (bits (fieldNow s r.reg.block p.fld r.unit) (p.src + p.width) 32) (highReset s p.fld)
      ({ s with sys := { s.sys with latch := r.reg.parts.foldl put s.sys.latch } }, wordNow s r)

/-! ## Writes -/

/-- RWS fields are frozen (R410, IMG_STATUS.FROZEN). -/
def frozen (s : State) : Bool := getB s F.IMG_STATUS_FROZEN 0

/-- The bits of a field replaced from bit `src`. -/
def replaceBits (old src width v : Nat) : Nat := old - bits old src width * 2 ^ src + (v % 2 ^ width) * 2 ^ src

/-- The effect of a write on one part by its access code; RWS parts act when `rws` holds. -/
def writePart (u v : Nat) (rws : Bool) (s : State) (p : RegPart) : State :=
  let x := bits v p.lo p.width
  match p.acc with
  | .rw => setF s p.fld u (replaceBits (getF s p.fld u) p.src p.width x)
  | .rws => if rws then setF s p.fld u (replaceBits (getF s p.fld u) p.src p.width x) else s
  | .w1c => if x = 1 then setF s p.fld u 0 else s
  | .ro => s
  | .wo => s

/-- A write would change an RWS field of the register. -/
def changesRws (s : State) (r : RegAt) (v : Nat) : Bool :=
  r.reg.parts.any (fun p => p.acc == .rws && bits v p.lo p.width != bits (getF s p.fld r.unit) p.src p.width)

/-- A write to a register by its access codes (R7). -/
def writeFields (s : State) (r : RegAt) (v origin : Nat) : State :=
  let s := if frozen s && changesRws s r v then record s C.RWS_FROZEN r.owner origin else s
  r.reg.parts.foldl (writePart r.unit v (!frozen s)) s

/-- The device's own write of the RWS fields of a register, at the commit or apply of an image (R410, R411). -/
def imageWrite (s : State) (a v : Nat) : State :=
  match regAt a with
  | none => s
  | some r => r.reg.parts.foldl (fun s p => if p.acc = .rws then writePart r.unit v true s p else s) s

/-- Every RWS field of the register map. -/
def rwsFields : List Field :=
  [Block.glb, .twr, .til, .slc, .mch, .bnd, .prt, .mer, .mcc, .pwr, .thm, .flt, .sec, .log].flatMap (fun b =>
    (regTable b).flatMap (fun r => (r.parts.filter (fun p => p.acc == .rws)).map (·.fld)))

/-- Every RWS field takes its reset value (R411, step 2). -/
def resetRws (s : State) : State :=
  { s with sys := { s.sys with regs := s.sys.regs.filter (fun e => !(rwsFields.any (fun f => f.id == e.1.1))) } }

end Sys2Proof.Machine
end

