-- ==== Sys2Proof/Machine/ImgForm.lean ====
section
/-!
DEFINITION. The first checks of validation (13, R409, Table: Refusal codes): from IMG_FORMAT to IMG_SIGNATURE, on the bytes of the
staged image as it lies.
-/
namespace Sys2Proof.Machine

/-- A check: none when it passes, else its code with the offset of the failing record or field. -/
def need (ok : Bool) (code off : Nat) (tile : Nat := 0) : Option Refuse := if ok then none else some ⟨code, off, tile⟩

/-- The first refusal over a list. -/
def firstOf {α : Type} (l : List α) (f : α → Option Refuse) : Option Refuse := l.findSome? f

/-- `n` bytes at `o` are 0. -/
def zr (b : List Byte) (o n : Nat) : Bool := ((b.drop o).take n).all (· == 0)

/-! ## Header (R397, R407, R409) -/

def hKind (h : List Byte) : Nat := fld h 6 1
def hSections (h : List Byte) : Nat := fld h 12 2
def hLength (h : List Byte) : Nat := fld h 24 8

/-- IMG_FORMAT. -/
def chkFormat (h : List Byte) : Option Refuse :=
  need (fld h 0 4 = 0x58525456) 0x0D01 0 <|> need (fld h 4 2 = 1) 0x0D01 4 <|> need (hKind h ≤ 1) 0x0D01 6 <|>
  need (1 ≤ hSections h ∧ hSections h ≤ 10) 0x0D01 12 <|> need (fld h 14 1 ≤ 8) 0x0D01 14 <|> need (zr h 15 1) 0x0D01 15 <|>
  need (zr h 50 6) 0x0D01 50 <|> need (hKind h = 1 ∨ zr h 56 56) 0x0D01 56 <|> need (zr h 112 16) 0x0D01 112

/-- IMG_PART. -/
def chkPart (s : State) (h : List Byte) : Option Refuse :=
  need (fld h 7 1 = getF s F.GLB_STEPPING_STEPPING 0) 0x0D02 7 <|> need (fld h 8 4 = getF s F.GLB_PART_PART 0) 0x0D02 8

/-- The bytes of the active image, rounded up to 4 KiB. -/
def activeSpan (s : State) : Nat := match s.act.image with
  | some i => ceilDiv i.length 4096 * 4096
  | none => 0

/-- The base of the staged image (R407): after the active image in its image area, or page 0. -/
def stageBase (s : State) : Nat := match s.act.image with
  | some _ => 4096 * s.act.areas.getD 2 0 + activeSpan s
  | none => 0

/-- The room for a staged image (R407). -/
def stageRoom (s : State) : Nat := match s.act.image with
  | some _ => 4096 * s.act.areas.getD 3 0 - activeSpan s
  | none => installed s

/-- A LENGTH fits (R407). -/
def lengthFits (s : State) (n : Nat) : Bool := decide (n ≤ 2 ^ 34) && decide (n ≤ stageRoom s)

/-- IMG_INCOMPLETE: the first granule below LENGTH that was never written. -/
def chkCover (s : State) (n : Nat) : Option Refuse :=
  firstOf (List.range (ceilDiv n 4096)) (fun k => need (s.act.granules.contains k) 0x0D04 (4096 * k))

/-! ## Directory (R398) -/

/-- The directory of the staged image. -/
def dirOf (s : State) (h : List Byte) : List DirEntry :=
  (List.range (hSections h)).map (fun k => dirEntry (stgBytes s (128 + 32 * k) 32))

/-- The section types of Table: Section types. -/
def knownTypes : List Nat := [1, 2, 3, 4, 5, 6, 7, 8, 9, 15]

/-- The checks of one entry against the image and the entries before it. -/
def entryOk (h : List Byte) (before : List DirEntry) (e : DirEntry) : Bool :=
  knownTypes.contains e.type && before.all (fun x => decide (x.type < e.type)) && e.pads &&
  (e.flags == 0 || (e.flags == 1 && e.type == 5 && hKind h == 1)) && e.off % 8 == 0 &&
  decide (128 + 32 * hSections h ≤ e.off) && decide (e.off + e.len ≤ hLength h) &&
  before.all (fun x => decide (x.off + x.len ≤ e.off) || decide (e.off + e.len ≤ x.off)) &&
  (e.type != 15 || (e.off + e.len == hLength h && before.all (fun x => decide (x.off ≤ e.off))))

/-- Types that must be present. -/
def requiredTypes (h : List Byte) : List Nat := if hKind h = 1 then [15] else [2, 4, 5, 6, 7, 15]

/-- IMG_SECTION. -/
def chkSections (h : List Byte) (ds : List DirEntry) : Option Refuse :=
  firstOf (List.range ds.length) (fun k =>
    match ds[k]? with
    | some e => need (entryOk h (ds.take k) e) 0x0D05 (128 + 32 * k)
    | none => none) <|>
  need ((requiredTypes h).all (fun t => ds.any (fun e => e.type == t))) 0x0D05 128

/-- IMG_CRC. -/
def chkCrcs (s : State) (ds : List DirEntry) : Option Refuse :=
  firstOf ds (fun e => need (crc32c (stgBytes s e.off e.len) = e.crc) 0x0D06 e.off)

/-! ## Records (R399, R400, Table: Section records) -/

/-- The offset of the first broken record of a section's bytes. -/
def brokenAt (b : List Byte) (off : Nat) : Nat → Nat
  | 0 => off
  | f + 1 =>
    let len := fld b 4 4
    if b.length < 8 + len ∨ len % 8 ≠ 0 ∨ fld b 2 2 ≠ 0 then off else brokenAt (b.drop (8 + len)) (off + 8 + len) f

/-- The record kinds of a section, with the generic kinds it takes (Table: Registers an image may set). -/
def kindsOf : Nat → List Nat
  | 1 => [0x0101, 0x0102]
  | 2 => [0x0001, 0x0201, 0x0202, 0x0203, 0x0204, 0x0205, 0x0206]
  | 3 => [0x0001, 0x0301]
  | 4 => [0x0001, 0x0401, 0x0402, 0x0403, 0x0404, 0x0405, 0x0406, 0x0407, 0x0408, 0x0409, 0x040A, 0x040B, 0x040C, 0x040D, 0x040E]
  | 5 => [0x0001, 0x0002, 0x0003]
  | 6 => [0x0001, 0x0601, 0x0602, 0x0603, 0x0604]
  | 7 => [0x0701, 0x0702]
  | 8 => [0x0001, 0x0801]
  | 9 => [0x0901]
  | _ => []

/-- The fixed body sizes of Table: Section records with their ranges of zeros. -/
def fixedForm : Nat → Option (Nat × List (Nat × Nat))
  | 0x0101 => some (8, [(1, 7)])
  | 0x0102 => some (24, [(2, 6)])
  | 0x0201 => some (16, [(12, 4)])
  | 0x0202 => some (16, [(9, 7)])
  | 0x0203 => some (8, [])
  | 0x0204 => some (8, [])
  | 0x0206 => some (32, [(24, 8)])
  | 0x0301 => some (8, [(3, 5)])
  | 0x0401 => some (32, [(22, 10)])
  | 0x0402 => some (32, [(3, 5)])
  | 0x0403 => some (32, [(2, 6)])
  | 0x0404 => some (16, [(12, 4)])
  | 0x0406 => some (48, [(7, 1), (14, 2), (44, 4)])
  | 0x0408 => some (8, [])
  | 0x0409 => some (8, [(3, 5)])
  | 0x040A => some (24, [(16, 8)])
  | 0x040B => some (256, [(2, 2), (12, 4), (240, 16)])
  | 0x040C => some (48, [(25, 7)])
  | 0x040E => some (8, [(1, 1), (4, 4)])
  | 0x0601 => some (32, [(7, 1), (9, 3), (24, 8)])
  | 0x0602 => some (16, [(10, 6)])
  | 0x0603 => some (16, [(14, 2)])
  | 0x0604 => some (8, [(6, 2)])
  | 0x0701 => some (16, [(4, 12)])
  | 0x0801 => some (16, [(3, 1), (9, 7)])
  | 0x0901 => some (8, [(3, 5)])
  | _ => none

/-- Entries of `n` bytes fill a body and pass a test. -/
def entriesOk (b : List Byte) (n : Nat) (ok : List Byte → Bool) : Bool :=
  b.length % n == 0 && (List.range (b.length / n)).all (fun i => ok ((b.drop (n * i)).take n))

/-- A COLLECTIVE body: its phases and the member lists padded to 8 bytes. -/
def collForm (b : List Byte) : Bool :=
  let n := fld b 2 1
  let ms := ((List.range n).map (fun k => fld b (8 + 64 * k + 6) 2)).foldl (· + ·) 0
  let used := 8 + 64 * n + 2 * ms
  zr b 3 5 && b.length == ceilDiv used 8 * 8 && zr b used 8 &&
  (List.range n).all (fun k => zr b (8 + 64 * k + 5) 1 && zr b (8 + 64 * k + 10) 6 && zr b (8 + 64 * k + 40) 24)

/-- The form of a record's body: size and zeros. -/
def bodyOk (r : Rec) : Bool :=
  let b := r.body
  match fixedForm r.kind with
  | some (n, zs) => b.length == n && zs.all (fun z => zr b z.1 z.2)
  | none =>
    match r.kind with
    | 0x0001 => entriesOk b 16 (fun e => zr e 6 2 && zr e 12 4)
    | 0x0002 => entriesOk b 72 (fun _ => true)
    | 0x0003 => decide (72 ≤ b.length) && b.length == 72 + ceilDiv (fld b 68 4) 8 * 8 && zr b (72 + fld b 68 4) 8
    | 0x0205 => b.length % 64 == 0
    | 0x0405 => b.length == 8 + 4 * fld b 2 2 && zr b 4 4
    | 0x0407 => collForm b
    | 0x040D => b.length == 472 && zr b 2 6 && fld b 8 1 == 1 && zr b 9 7 && fld b 80 4 == 384 && zr b 84 4
    | 0x0702 => b.length == 8 + 8 * fld b 0 2 && zr b 2 6 && entriesOk (b.drop 8) 8 (fun e => zr e 1 1 && zr e 4 4)
    | _ => false

/-- The CAK that a key record of a CAK record holds, opened with the device's RSA identity key: none where KEY_ID names another
device or the ciphertext does not decrypt to 32 bytes (R539). -/
def cakOf (s : State) (b : List Byte) : Option (List Byte) :=
  let seed := s.log.fuses.idSeed
  if (b.drop 16).take 48 = sha384 (Config.identityKey 1 seed) then
    match Config.oaepOpen seed ((b.drop 88).take 384) with
    | some k => if k.length = 32 then some k else none
    | none => none
  else none

/-- The form of a record, and the key record of a CAK record (R396, R539). -/
def recordOk (s : State) (r : Rec) : Bool := bodyOk r && (r.kind != 0x040D || (cakOf s r.body).isSome)

/-- A section's records and its first broken one. -/
def sectOf (s : State) (e : DirEntry) : Sect × Option Refuse :=
  let b := stgBytes s e.off e.len
  match parseRecs b e.off (e.len / 8 + 1) with
  | some rs => (⟨e.type, e.flags, e.off, rs⟩,
      firstOf rs (fun r => need ((kindsOf e.type).contains r.kind && recordOk s r) 0x0D07 r.off))
  | none => (⟨e.type, e.flags, e.off, []⟩, need false 0x0D07 (brokenAt b e.off (e.len / 8 + 1)))

/-- The sections but the signature section. -/
def sectsOf (s : State) (ds : List DirEntry) : List (Sect × Option Refuse) :=
  (ds.filter (fun e => e.type != 15)).map (sectOf s)

/-! ## Registers (R401) -/

/-- Whether a register may be set by a section (Table: Registers an image may set). -/
def regAllowed (type : Nat) (r : RegAt) : Bool :=
  match r.reg.parts.head? with
  | none => false
  | some p =>
    let is (f : Field) : Bool := p.fld.id == f.id
    match type with
    | 2 => is F.SLC_CFG_CARVE || is F.MEM_CFG_TYPE || is F.SCRUB_CFG_THRESH
    | 3 => r.reg.block == .bnd && r.reg.parts.any (fun q => q.acc == .rws)
    | 4 => r.reg.block == .prt && r.owner != 255 && r.reg.parts.any (fun q => q.acc == .rws)
    | 5 => is F.EPOCH_BASE_TIME || is F.EPOCH_PERIOD_PERIOD || is F.STALL_LIMIT_LIMIT ||
        (r.reg.block == .til && r.reg.parts.any (fun q => q.acc == .rws))
    | 6 => r.reg.block == .mer && r.reg.parts.any (fun q => q.acc == .rws)
    | 8 => r.reg.block == .pwr && r.reg.parts.any (fun q => q.acc == .rws)
    | _ => false

/-- The bits that RWS fields of a register take. -/
def rwsMask (r : RegAt) : Nat :=
  r.reg.parts.foldl (fun n p => if p.acc = .rws then n + (2 ^ p.width - 1) * 2 ^ p.lo else n) 0

/-- One entry may be set with a value. -/
def regOk (type a v : Nat) : Bool :=
  match regAt a with
  | none => false
  | some r => regAllowed type r && (v &&& rwsMask r) == v

/-- The base of a tile's block. -/
def tilBase (t : Nat) : Nat := regBase + 0x10000000 + 0x100000 * t

/-- The registers that a record names, with their values. -/
def recRegs (r : Rec) : List (Nat × Nat) :=
  if r.kind = 1 then regEntries r
  else if r.kind = 2 then (tileEntries r).flatMap (fun e => e.2.2.map (fun t => (tilBase t + e.1, e.2.1)))
  else []

/-- The registers that an image names, in image order. -/
def imageRegs (sects : List Sect) : List (Nat × Nat) := sects.flatMap (fun x => x.recs.flatMap recRegs)

/-- No register is named twice, record by record. -/
def twice (seen : List Nat) : List Rec → Option Refuse
  | [] => none
  | r :: rs =>
    let as := (recRegs r).map (·.1)
    if as.any seen.contains || !(decide as.Nodup) then some ⟨0x0D08, r.off, 0⟩ else twice (seen ++ as) rs

/-- A REG_TILES entry stays within the TIL block. -/
def tilesInBlock (r : Rec) : Bool := r.kind != 2 || (tileEntries r).all (fun e => decide (e.1 < 0x100000))

/-- IMG_REG. -/
def chkRegs (sects : List Sect) : Option Refuse :=
  firstOf sects (fun x => firstOf x.recs (fun r =>
    need (tilesInBlock r && (recRegs r).all (fun e => regOk x.type e.1 e.2)) 0x0D08 r.off)) <|>
  twice [] (sects.flatMap (·.recs))

/-! ## Digest and signatures (R406, R535) -/

/-- A signature entry: ALG, KEY_ID and the signature; with whether its form is right and what follows it. -/
structure SigEntry where
  alg : Nat
  keyId : List Byte
  sig : List Byte
  deriving DecidableEq, Repr

/-- `n` signature entries of a list of bytes; none when the form of one fails (R406). -/
def sigEntries (b : List Byte) : Nat → Option (List SigEntry)
  | 0 => some []
  | n + 1 =>
    let alg := fld b 0 1
    let len := fld b 56 4
    let pad := ceilDiv len 8 * 8
    if b.length < 64 + pad then none
    else if (alg = 1 ∧ len = 384 ∨ alg = 2 ∧ len = 16224) ∧ zr b 1 7 ∧ zr b 60 4 ∧ zr b (64 + len) (pad - len) then
      match sigEntries (b.drop (64 + pad)) n with
      | some es => some (⟨alg, (b.drop 8).take 48, (b.drop 64).take len⟩ :: es)
      | none => none
    else none

/-- A key of an OWNER record (R533). -/
structure OwnerKey where
  role : Nat
  alg : Nat
  key : List Byte
  deriving DecidableEq, Repr

/-- The key entries of an OWNER body from an offset, with the offset after them. -/
def ownerKeysAt (b : List Byte) (o : Nat) : Nat → List OwnerKey × Nat
  | 0 => ([], o)
  | n + 1 =>
    let len := fld b (o + 8) 4
    let r := ownerKeysAt b (o + 16 + ceilDiv len 8 * 8) n
    (⟨fld b o 1, fld b (o + 1) 1, (b.drop (o + 16)).take len⟩ :: r.1, r.2)

/-- The body of the committed OWNER record. -/
def ownerBody (s : State) : Option (List Byte) := (liveRec s tOwner 0).map (·.body)

/-- The enrolled keys of a role. -/
def enrolled (s : State) (role : Nat) : List OwnerKey :=
  match ownerBody s with
  | some b => (ownerKeysAt b 8 (fld b 4 4)).1.filter (fun k => k.role == role)
  | none => []

/-- A policy bit of the OWNER record, or POLICY_LOCK (R535). -/
def policyBit (s : State) (k : Nat) : Bool :=
  s.log.fuses.policyLock || (match ownerBody s with | some b => bit (fld b 0 1) k | none => false)

/-- One valid signature of an ALG by one of the keys, over a digest. -/
def signedBy (keys : List OwnerKey) (es : List SigEntry) (alg : Nat) (msg : List Byte) : Bool :=
  es.any (fun e => e.alg == alg && keys.any (fun k => k.alg == alg && sha384 k.key == e.keyId && Config.sigOk alg k.key msg e.sig))

/-- IMG_DIGEST, then IMG_SIGNATURE. -/
def chkSignature (s : State) (ds : List DirEntry) : Option Refuse :=
  match ds.find? (fun e => e.type == 15) with
  | none => none
  | some e =>
    let b := stgBytes s e.off e.len
    let dg := b.take 48
    need (56 ≤ e.len ∧ dg = sha384 (stgBytes s 0 e.off)) 0x0D09 e.off <|>
    match sigEntries (b.drop 56) (fld b 48 1) with
    | none => some ⟨0x0D0A, e.off, 0⟩
    | some es =>
      let keys := enrolled s 0
      need (fld b 48 1 ≤ 2 ∧ zr b 49 7 ∧ (!policyBit s 0 || (signedBy keys es 1 dg && signedBy keys es 2 dg))) 0x0D0A e.off

/-! ## The staged image as a whole -/

/-- The checks from IMG_FORMAT to IMG_SIGNATURE. -/
def chkStaged (s : State) : Option Refuse :=
  let h := stgBytes s 0 128
  let ds := dirOf s h
  chkFormat h <|> chkPart s h <|> need (lengthFits s (hLength h)) 0x0D03 24 <|> chkCover s (hLength h) <|>
  chkSections h ds <|> chkCrcs s ds <|> firstOf (sectsOf s ds) (·.2) <|> chkRegs ((sectsOf s ds).map (·.1)) <|>
  chkSignature s ds

/-- The staged image, read. -/
def stagedImage (s : State) : Image :=
  let h := stgBytes s 0 128
  let ds := dirOf s h
  { kind := hKind h, minSpares := fld h 14 1, job := fld h 16 4, imageId := fld h 20 4, length := hLength h, seed := fld h 32 8,
    fuseBind := fld h 40 8, fuseFormat := fld h 48 2, applyStep := fld h 56 8, baseDigest := (h.drop 64).take 48,
    sects := (sectsOf s ds).map (·.1),
    digest := match ds.find? (fun e => e.type == 15) with | some e => stgBytes s e.off 48 | none => [] }

/-! ## The image that a delta would produce (R413, Delta images) -/

/-- The tiles that the records of a section name. -/
def namedTiles (x : Sect) : List Nat :=
  x.recs.flatMap (fun r => if r.kind = 2 then (tileEntries r).flatMap (·.2.2) else if r.kind = 3 then (focalRec r).1 else [])

/-- A tile mask of 64 bytes without some tiles. -/
def dropMask (b : List Byte) (o : Nat) (ts : List Nat) : List Byte :=
  let m := ((List.range 512).filter (fun t => bit (fld b o 64) t && !ts.contains t)).foldl (fun n t => n + 2 ^ t) 0
  b.take o ++ leBytes m 64 ++ b.drop (o + 64)

/-- A record of the ephemeris section without what it gives some tiles. -/
def dropTiles (ts : List Nat) (r : Rec) : Rec :=
  if r.kind = 2 then
    { r with body := (List.range (r.body.length / 72)).foldl (fun b i => dropMask b (72 * i + 8) ts) r.body }
  else if r.kind = 3 then { r with body := dropMask r.body 0 ts }
  else r

/-- A delta's ephemeris section laid over the active one: with FLAGS bit 0 it replaces what the tiles it names have. -/
def mergeSect (old : List Sect) (x : Sect) : Sect :=
  if x.type = 5 ∧ x.flags % 2 = 1 then
    match old.find? (fun y => y.type == 5) with
    | some y =>
      let named := (x.recs.filter (fun r => r.kind == 1)).flatMap regEntries
      let keep := y.recs.map (fun r => dropTiles (namedTiles x) (if r.kind = 1 then
        { r with body := (regEntries r).flatMap (fun e => if named.any (fun n => n.1 == e.1) then []
          else leBytes e.1 8 ++ leBytes e.2 4 ++ leBytes 0 4) } else r))
      { x with flags := 0, recs := keep ++ x.recs }
    | none => x
  else x

/-- The active image with the sections of a delta in the place of its own (R413). -/
def mergeImage (i d : Image) : Image :=
  let kept := i.sects.filter (fun x => !d.sects.any (fun y => y.type == x.type))
  let new := d.sects.map (mergeSect i.sects)
  { i with
    minSpares := d.minSpares, imageId := d.imageId, fuseFormat := d.fuseFormat
    sects := (List.range 10).flatMap (fun t => (kept ++ new).filter (fun x => x.type == t)) }

end Sys2Proof.Machine
end

