-- ==== Sys2Proof/Machine/Firm.lean ====
section
/-!
DEFINITION. Firmware, certificates, owner records and policy (19, R524 to R537).
-/
namespace Sys2Proof.Machine

/-! ## Firmware sets (R525, R526) -/

/-- A manifest body has the form of Table: Firmware manifest. -/
def manifestOk (m : List Byte) : Bool :=
  let n := fld m 8 4
  m.length == 17240 && fld m 0 2 == 1 && decide (fld m 2 1 ≤ 128) && decide (fld m 3 1 ≤ 1) && decide (1 ≤ n) &&
    decide (n ≤ 3145728) && fld m 12 4 == ceilDiv n 32768 && zr m 500 4

/-- The bytes of a chunk body of a set and an index, where it has the form of R525. -/
def chunkData (m : List Byte) (set i : Nat) (c : List Byte) : Option (List Byte) :=
  if c.length = 8 + min 32768 (fld m 8 4 - 32768 * i) ∧ fld c 0 4 = set ∧ fld c 4 4 = i then some (c.drop 8) else none

/-- The firmware bytes of a set, where every chunk is present; `find` gives a chunk record's body by its KEY. -/
def fwBytes (find : Nat → Option (List Byte)) (set : Nat) (m : List Byte) : Option (List Byte) :=
  (List.range (fld m 12 4)).foldl (fun acc i =>
    match acc, (find (128 * set + i)).bind (chunkData m set i) with
    | some b, some d => some (b ++ d)
    | _, _ => none) (some [])

/-- The root hash in use of RSA (1) or SLH-DSA (2). -/
def rootHash (s : State) (alg : Nat) : List Byte :=
  (if alg = 1 then s.log.fuses.rootRsa else s.log.fuses.rootSlh).getD (if s.log.fuses.revoke then 1 else 0) []

/-- A firmware set verifies (R526). -/
def fwVerifies (s : State) (find : Nat → Option (List Byte)) (set : Nat) (m : List Byte) : Bool :=
  let rsa := (m.drop 64).take 388
  let slh := (m.drop 452).take 48
  let msg := sha384 (m.take 504)
  let signed (es : List SigEntry) (alg : Nat) (key : List Byte) : Bool :=
    es.any (fun e => e.alg == alg && e.keyId == sha384 key && Config.sigOk alg key msg e.sig)
  manifestOk m && sha384 rsa == rootHash s 1 && sha384 slh == rootHash s 2 &&
    (match sigEntries (m.drop 504) 2 with
     | some es => signed es 1 rsa && signed es 2 slh
     | none => false) &&
    (match fwBytes find set m with
     | some b => sha384 b == (m.drop 16).take 48
     | none => false) &&
    decide (s.log.fuses.rollback ≤ fld m 2 1)

/-- A set as its manifest gives it. -/
def fwSetOf (set : Nat) (m : List Byte) : FwSet := ⟨set, fld m 2 1, bit (fld m 3 1) 0, fld m 4 4, (m.drop 16).take 48⟩

/-- The record of the highest SEQ. -/
def newestRec (l : List LogRec) : Option LogRec :=
  l.foldl (fun (m : Option LogRec) r => match m with
    | some x => if x.seq < r.seq then some r else some x
    | none => some r) none

/-- Live records of a TYPE. -/
def liveRecs (s : State) (type : Nat) : List LogRec :=
  (((journal s).filter (fun r => r.type == type)).map (·.key)).eraseDups.filterMap (liveRec s type)

/-- The newest committed firmware set and the one before it, less a set that was reverted (R527, R531). -/
def fwCandidates (s : State) : List LogRec :=
  let l := (liveRecs s tManifest).filter (fun r => !s.log.reverted.contains r.key)
  match newestRec l with
  | none => []
  | some a =>
    match newestRec (l.filter (fun r => r.key != a.key)) with
    | some b => [a, b]
    | none => [a]

/-- The body of a committed chunk record. -/
def liveChunk (s : State) (key : Nat) : Option (List Byte) := (liveRec s tChunk key).map (·.body)

/-! ## Policy and registers (R535, R549) -/

/-- Twelve words of a digest register. -/
def putDigest (s : State) (f : Field) (d : List Byte) : State :=
  (List.range 12).foldl (fun s k => setF s f k (fld d (4 * k) 4)) s

/-- The running firmware and the owner record as the registers show them. -/
def postSec (s : State) : State :=
  let s := match s.log.running with
    | some x => putDigest (setF (setF s F.SEC_STATUS_SVN 0 x.svn) F.GLB_FW_VERSION_VERSION 0 x.version) F.SEC_FW_DIGEST_DIGEST x.digest
    | none => putDigest (setF (setF s F.SEC_STATUS_SVN 0 0) F.GLB_FW_VERSION_VERSION 0 0) F.SEC_FW_DIGEST_DIGEST []
  let s := setB (setB s F.SEC_STATUS_IMG_SIG 0 (policyBit s 0)) F.SEC_STATUS_CTRL_AUTH 0 (policyBit s 1)
  let s := setB s F.SEC_STATUS_FW_PENDING 0 (s.log.next.isSome)
  match ownerBody s with
  | some b => putDigest (setB s F.SEC_STATUS_OWNER 0 true) F.SEC_OWNER_DIGEST_DIGEST (sha384 b)
  | none => putDigest (setB s F.SEC_STATUS_OWNER 0 false) F.SEC_OWNER_DIGEST_DIGEST []

/-- A set runs from now on. -/
def runSet (s : State) (x : FwSet) : State :=
  postSec { s with log := { s.log with running := some x, runSince := elapsedNs s } }

/-- R527: the newest set, then the one before it; a set that fails records FW_VERIFY_FAIL. None verifies: netboot (R532). -/
def loadFirmware (s : State) : State :=
  let rec go (s : State) : List LogRec → State
    | [] => record (postSec { s with log := { s.log with running := none }, boot := { s.boot with netboot := true } }) C.NETBOOT 0
    | r :: rest =>
      if fwVerifies s (liveChunk s) r.key r.body then
        runSet { s with boot := { s.boot with netboot := false } } (fwSetOf r.key r.body)
      else go (record s C.FW_VERIFY_FAIL 0) rest
  go s (fwCandidates s)

/-! ## Checks of FW_COMMIT (R529, R534, R537) -/

/-- All signature entries of a list of bytes; the last argument bounds their number. -/
def sigAll (b : List Byte) : Nat → Option (List SigEntry)
  | 0 => if b.isEmpty then some [] else none
  | n + 1 =>
    if b.isEmpty then some []
    else match sigEntries b 1 with
      | some [e] => (sigAll (b.drop (64 + ceilDiv (fld b 56 4) 8 * 8)) n).map (e :: ·)
      | _ => none

/-- A key entry has the form of R533. -/
def ownerEntryOk (b : List Byte) (o : Nat) : Bool :=
  let len := fld b (o + 8) 4
  decide (o + 16 + ceilDiv len 8 * 8 ≤ b.length) && decide (fld b o 1 ≤ 1) && (fld b (o + 1) 1 == 1 || fld b (o + 1) 1 == 2) &&
    zr b (o + 2) 6 && zr b (o + 12) 4

/-- `n` key entries from an offset have the form of R533. -/
def ownerEntriesOk (b : List Byte) (o : Nat) : Nat → Bool
  | 0 => true
  | n + 1 => ownerEntryOk b o && ownerEntriesOk b (o + 16 + ceilDiv (fld b (o + 8) 4) 8 * 8) n

/-- A new OWNER record is accepted (R533, R534): with none committed, without signatures; else with valid signatures of both
ALG values by controller keys of the committed record. -/
def ownerAccepted (s : State) (b : List Byte) : Bool :=
  let n := fld b 4 4
  if decide (8 ≤ b.length) && decide (fld b 0 1 < 4) && zr b 1 3 && decide (1 ≤ n) && decide (n ≤ 8) && ownerEntriesOk b 8 n then
    let o := (ownerKeysAt b 8 n).2
    match sigAll (b.drop o) 64 with
    | none => false
    | some es =>
      let msg := sha384 (b.take o)
      (ownerBody s).isNone || (signedBy (enrolled s 1) es 1 msg && signedBy (enrolled s 1) es 2 msg)
  else false

/-- A CERT record is accepted (R537): KEY 0 holds the RSA chain and KEY 1 the SLH-DSA chain. -/
def certAccepted (s : State) (key : Nat) (b : List Byte) : Bool :=
  decide (key ≤ 1) && Config.chainOk (key + 1) (rootHash s (key + 1)) (Config.identityKey (key + 1) s.log.fuses.idSeed) b

/-- Records of the service group that wait for FW_COMMIT: those of the flash, or those that netboot keeps. -/
def servicePending (s : State) : List LogRec := pendingOf s 1 ++ s.log.netRecs

/-- A chunk by its KEY: a pending one, else a committed one. -/
def anyChunk (s : State) (key : Nat) : Option (List Byte) :=
  match ((servicePending s).filter (fun r => r.type == tChunk && r.key == key)).getLast? with
  | some r => some r.body
  | none => liveChunk s key

/-- The check of one pending record. -/
def serviceOk (s : State) (r : LogRec) : Bool :=
  if r.type = tManifest then fwVerifies s (anyChunk s) r.key r.body
  else if r.type = tCert then certAccepted s r.key r.body
  else if r.type = tOwner then ownerAccepted s r.body
  else true

end Sys2Proof.Machine
end

