-- ==== Sys2Proof/Machine/Coll.lean ====
section
/-!
DEFINITION. The collective engine (11, R343 to R346) and the reception of block frames (R325 to R327).
-/
namespace Sys2Proof.Machine

/-! ## Phases -/

/-- The steps that a phase counts in SEQ: P − 1 for RING, one for DIRECT (assumption 50). -/
def phaseSteps (p : CollPhase) : Nat := if p.algo = 0 then p.p - 1 else 1

/-- The phases of a collective. -/
def phasesOf (s : State) (id : Nat) : List CollPhase :=
  match s.act.colls.find? (fun c => c.id == id) with
  | some c => c.phases
  | none => []

/-- The steps of the phases before one. -/
def stepsBefore (ps : List CollPhase) (k : Nat) : Nat := ((ps.take k).map phaseSteps).foldl (· + ·) 0

/-- The device at a position, modulo P. -/
def memberAt (p : CollPhase) (j : Nat) : Nat := p.members.getD (j % max p.p 1) 0

/-- The position of a device. -/
def posOf (p : CollPhase) (d : Nat) : Nat := p.members.findIdx (· == d)

/-- Blocks of a chunk. -/
def chunkBlocks (p : CollPhase) : Nat := p.chunk / 4096

/-- SEQ of block `b` of a step (R345). -/
def collSeq (step b : Nat) : Nat := step * 1048576 + b

/-- The positions other than this device's, ascending. -/
def othersOf (p : CollPhase) : List Nat := (List.range p.p).filter (fun j => j != p.i)

/-- The keys of the blocks that a phase receives, by sender and SEQ. -/
def phaseKeys (p : CollPhase) (base : Nat) : List (Nat × Nat) :=
  if p.algo = 0 then
    (List.range (p.p - 1)).flatMap (fun k => (List.range (chunkBlocks p)).map (fun b =>
      (memberAt p (p.i + p.p - 1), collSeq (base + k + 1) b)))
  else (othersOf p).flatMap (fun j => (List.range (chunkBlocks p)).map (fun b => (memberAt p j, collSeq (base + 1) b)))

/-- The current phase of a run with the steps before it. -/
def runPhase (s : State) (c : CollRun) : Option (CollPhase × Nat) :=
  let ps := phasesOf s c.id
  match ps[c.phase]? with
  | some p => some (p, stepsBefore ps c.phase)
  | none => none

/-- The keys that a run waits for in its current phase. -/
def runKeys (s : State) (c : CollRun) : List (Nat × Nat) :=
  match runPhase s c with
  | some (p, base) => phaseKeys p base
  | none => []

/-- A block is one of some phase of the run from the current one on. -/
def runTakes (s : State) (c : CollRun) (b : BlockFrame) : Bool :=
  let ps := phasesOf s c.id
  c.id == b.stream && (List.range ps.length).any (fun k => decide (c.phase ≤ k) &&
    (match ps[k]? with
     | some p => (phaseKeys p (stepsBefore ps k)).contains (b.src, b.seq)
     | none => false))

def findRun (s : State) (xfer : Nat) : Option CollRun := s.net.colls.find? (fun c => c.xfer == xfer)

def putRun (s : State) (c : CollRun) : State :=
  { s with net := { s.net with colls := s.net.colls.map (fun d => if d.xfer = c.xfer then c else d) } }

/-! ## The engine's accesses (R202, R215, R359) -/

/-- A block read from the store. -/
def engineRead (s : State) (a : Nat) : State × List Byte × List Bool :=
  let r := engineGet s a 4096
  (if isCommitted s a && r.2.2.any id then committedPoison r.1 a else r.1, r.2.1, r.2.2)

/-- A write of the engine is accepted: mapped, and not to a committed page (R202, R359). -/
def engineMay (s : State) (a : Nat) : Option State :=
  if (targetSlice s a).isNone then some (unmapped s (routeSlice s a) a)
  else if isCommitted s a then some (sliceEvent s (routeSlice s a) C.GATE_WRITE (lineOf s a))
  else none

/-- A block written to the store. -/
def engineWrite (s : State) (a : Nat) (d : List Byte) (ps : List Bool) : State :=
  match engineMay s a with
  | some s => s
  | none => notePoisonWrite (enginePut s a d ps) (routeSlice s a) a ps

/-- A block co-added at the home slice of its destination (R343), for collective `id` and the block's sequence number. -/
def engineAdd (s : State) (op id seq a : Nat) (d : List Byte) (ps : List Bool) : State :=
  match engineMay s a with
  | some s => s
  | none => engineCoadd s (routeSlice s a) op (.coll id seq) a d ps

/-! ## Sends -/

/-- A collective's block to a member joins the blocks for its route's replay buffer. -/
def collSend (s : State) (id cls dst step b chunk : Nat) (d : List Byte) (ps : List Bool) : State :=
  match routeTo s id (some dst) with
  | none => s
  | some r =>
    let f := mkBlock s id (collSeq step b) dst 4 chunk d ps
    let s := { s with net := { s.net with txq := s.net.txq ++ [⟨f, portOf s r, cls, none, holdNs s r, false⟩] } }
    feedReplay s s.net.txq.length

/-- A chunk read from an address and sent. -/
def sendChunk (s : State) (id : Nat) (p : CollPhase) (dst step chunk a : Nat) : State :=
  (List.range (chunkBlocks p)).foldl (fun s b =>
    let r := engineRead s (a + 4096 * b)
    collSend r.1 id p.cls dst step b chunk r.2.1 r.2.2) s

/-- A chunk copied within the store. -/
def copyChunk (s : State) (p : CollPhase) (from_ to_ : Nat) : State :=
  (List.range (chunkBlocks p)).foldl (fun s b =>
    let r := engineRead s (from_ + 4096 * b)
    engineWrite r.1 (to_ + 4096 * b) r.2.1 r.2.2) s

/-- What a phase does when it starts: its own chunk in place, and the sends that wait for nothing (R343, R344). -/
def startPhase (s : State) (id : Nat) (p : CollPhase) (base : Nat) : State :=
  let n := max p.p 1
  if p.type = 0 then
    let s := copyChunk s p (p.src + p.i * p.chunk) p.dst
    if p.algo = 0 then
      let k := (p.i + n - 1) % n
      sendChunk s id p (memberAt p (p.i + 1)) (base + 1) k (p.src + k * p.chunk)
    else (othersOf p).foldl (fun s j => sendChunk s id p (memberAt p j) (base + 1) j (p.src + j * p.chunk)) s
  else if p.type = 1 then
    let s := copyChunk s p p.src (p.dst + p.i * p.chunk)
    if p.algo = 0 then sendChunk s id p (memberAt p (p.i + 1)) (base + 1) p.i p.src
    else (othersOf p).foldl (fun s j => sendChunk s id p (memberAt p j) (base + 1) p.i p.src) s
  else
    let s := copyChunk s p (p.src + p.i * p.chunk) (p.dst + p.i * p.chunk)
    (othersOf p).foldl (fun s j => sendChunk s id p (memberAt p j) (base + 1) j (p.src + j * p.chunk)) s

/-! ## Applying received blocks (R343 to R346) -/

/-- In Strict mode a DIRECT reduction applies the blocks of a chunk in ascending position. -/
def mayApply (s : State) (c : CollRun) (p : CollPhase) (b : BlockFrame) : Bool :=
  if p.type = 0 ∧ p.algo ≠ 0 ∧ relaxed s = false then
    ((othersOf p).filter (fun j => decide (j < posOf p b.src))).all (fun j => c.applied.contains (memberAt p j, b.seq))
  else true

/-- A block applied in its phase: added or stored, and sent on by a RING. -/
def applyBlock (s : State) (id : Nat) (p : CollPhase) (base : Nat) (b : BlockFrame) : State :=
  let step := b.seq / 1048576 - base
  let i := b.seq % 1048576
  let off := 4096 * i
  let n := max p.p 1
  let ps := blockMarks b
  let next := memberAt p (p.i + 1)
  if p.type = 0 then
    if p.algo = 0 ∧ step + 1 < p.p then
      let k := (p.i + 2 * n - step - 1) % n
      let a := p.src + k * p.chunk + off
      let r := engineRead (engineAdd s p.opx id b.seq a b.payload ps) a
      collSend r.1 id p.cls next (base + step + 1) i k r.2.1 r.2.2
    else engineAdd s p.opx id b.seq (p.dst + off) b.payload ps
  else if p.type = 1 ∧ p.algo = 0 then
    let k := (p.i + 2 * n - step) % n
    let s := engineWrite s (p.dst + k * p.chunk + off) b.payload ps
    if step + 1 < p.p then collSend s id p.cls next (base + step + 1) i k b.payload ps else s
  else engineWrite s (p.dst + posOf p b.src * p.chunk + off) b.payload ps

/-- The phase has applied every block: the next one starts. -/
def advancePhase (s : State) (c : CollRun) (p : CollPhase) (base : Nat) : State :=
  if (phaseKeys p base).length ≤ c.applied.length then
    let c := { c with phase := c.phase + 1, applied := [] }
    let s := putRun s c
    match runPhase s c with
    | some (q, b) => startPhase s c.id q b
    | none => s
  else s

/-- Waiting blocks applied while one may be; the count bounds them. -/
def drainColl (s : State) (xfer : Nat) : Nat → State
  | 0 => s
  | n + 1 =>
    match findRun s xfer with
    | none => s
    | some c =>
      match runPhase s c with
      | none => s
      | some (p, base) =>
        match c.waiting.find? (fun b => (phaseKeys p base).contains (b.src, b.seq) && mayApply s c p b) with
        | none => s
        | some b =>
          let s := applyBlock s c.id p base b
          let c := { c with waiting := c.waiting.erase b, applied := c.applied ++ [(b.src, b.seq)] }
          drainColl (advancePhase (putRun s c) c p base) xfer n

/-- A block that passes reaches the collective that waits for it (R326, R345). -/
def takeColl (s : State) (v : RecvSt) (c : CollRun) (port : Nat) (b : BlockFrame) : State :=
  let k := blockKey true b
  if v.landed.contains k then s
  else
    let w := { v with landed := v.landed ++ [k] }
    let s := nakKeys (putRecv s w) w ((gapBefore w (runKeys s c) k).filter (fun e => mget w.naks e 0 == 0))
    let s := putRun (incF s F.PRT_BLK_RX_COUNT port 1) { c with waiting := c.waiting ++ [b] }
    drainColl s c.xfer (c.waiting.length + 1)

/-- The collective in progress that a block is addressed to. -/
def collFor (s : State) (b : BlockFrame) : Option (RecvSt × CollRun) :=
  if bit b.flags 2 then
    s.net.recv.findSome? (fun v =>
      if v.coll && v.stream == b.stream then
        match findRun s v.xfer with
        | some c => if v.landed.contains (blockKey true b) || runTakes s c b then some (v, c) else none
        | none => none
      else none)
  else none

/-- COLL (R343, R345): the collective starts, and blocks held in the pier for it are taken. -/
def execColl (tile : Nat) (s : State) : Out :=
  match netDue s tile 2 with
  | some f =>
    let id := xRemote f.ndesc % 65536
    let r := startNet s tile f .coll 1
    let x := r.2.id
    let c : CollRun := ⟨x, id, 0, [], []⟩
    let s := { r.1 with net := { r.1.net with
      recv := r.1.net.recv ++ [⟨x, true, id, [], [], none, false⟩], colls := r.1.net.colls ++ [c] } }
    let s := match runPhase s c with
      | some (p, base) => startPhase s id p base
      | none => s
    .next (takeHeld s (fun h => h.xfer.isNone && bit h.blk.flags 2 && h.blk.stream == id && decide (h.blk.step ≤ getF s F.SEG_STEP_STEP 0)) (fun s h =>
      match collFor s h.blk with
      | some (v, c) => takeColl s v c h.port h.blk
      | none => s))
  | none => .next (holdBusy s tile)

/-- COLL_COMPLETE (R118, R343): every phase has ended and every block has gone to its replay buffer. -/
def execCollComplete (xfer : Nat) (s : State) : Out :=
  match findX s xfer, findRun s xfer with
  | some x, some c =>
    if (runPhase s c).isNone && !s.net.txq.any (fun t => t.hdr.stream == c.id && bit t.hdr.flags 2) then
      let keys := match s.net.recv.find? (fun v => v.xfer == xfer) with
        | some v => v.landed.map (fun k => (65536 * (k.1 + 1) + v.stream, k.2))
        | none => []
      .next (endXfer { s with net := { s.net with
        recv := s.net.recv.filter (fun v => v.xfer != xfer), colls := s.net.colls.filter (fun d => d.xfer != xfer)
        ended := s.net.ended ++ keys } } x)
    else .next s
  | _, _ => .next s

/-! ## NAK_RECEIVE (R328) -/

/-- A block of a stream whose first send is still to come: its SEND has not issued, or has not copied it yet. -/
def sendAhead (s : State) (stream seq : Nat) : Bool :=
  s.eph.xfers.any (fun x => x.kind == .send && x.remote % 65536 == stream &&
    (let n := ceilDiv x.size 4096
     let i := seqIndex x.tag seq
     decide (n - x.left ≤ i) && decide (i < n))) ||
  (runTiles s).any (fun t => programHas s t (fun i => decide (nextIndex s t ≤ i)) 0 (fun x =>
    xRemote x % 65536 == stream && decide (seqIndex (xTag x) seq < ceilDiv (xSize x) 4096)))

/-- A block of a collective whose first send is still to come: a later phase sends it, a RING sends it on after the block of the step
before, or the collective has not started. -/
def collAhead (s : State) (id seq : Nat) : Bool :=
  s.net.colls.any (fun c => c.id == id &&
    (match runPhase s c with
     | some (p, base) =>
       let step := seq / 1048576
       decide (base + phaseSteps p < step) ||
         (p.algo == 0 && decide (base + 1 < step) && decide (step ≤ base + phaseSteps p) &&
           !c.applied.contains (memberAt p (p.i + p.p - 1), seq - 1048576))
     | none => false)) ||
  (runTiles s).any (fun t => programHas s t (fun i => decide (nextIndex s t ≤ i)) 2 (fun x => xRemote x % 65536 == id))

/-- A block that a NAK names is no longer held: it is in no replay buffer, waits for none, and its first send is not still to come. -/
def blockGone (s : State) (b : BlockFrame) (seq : Nat) : Bool :=
  let it (t : TxBlock) : Bool := t.hdr.stream == b.stream && t.hdr.dst == b.src && t.hdr.seq == seq
  !(s.net.replay.any it || s.net.txq.any it || (if bit b.flags 2 then collAhead s b.stream seq else sendAhead s b.stream seq))

/-- A NAK (R328): held blocks that it names are re-sent; one no longer held is ignored with RESEND_EXPIRED. -/
def takeNak (s : State) (port : Nat) (b : BlockFrame) : State :=
  if blockPasses b && portReady s port then
    if b.version = 1 ∧ b.type = 1 then
      let s := incF s F.PRT_NAK_RX_COUNT port 1
      let n := min (max b.aux 1) 256
      let names (t : TxBlock) : Bool :=
        t.hdr.stream == b.stream && t.hdr.dst == b.src && decide (seqIndex b.seq t.hdr.seq < n) && t.sent.isSome
      let gone := (List.range n).any (fun i => blockGone s b ((b.seq + i) % 4294967296))
      let s := { s with net := { s.net with replay := s.net.replay.map (fun t => if names t then { t with resend := true } else t) } }
      if gone then portEvent s port C.RESEND_EXPIRED b.stream else s
    else incF s F.PRT_DROP_COUNT port 1
  else s

/-- NAK_RECEIVE. -/
def execNakReceive (port : Nat) (blk : BlockFrame) (s : State) : Out := .next (takeNak s port blk)

/-! ## BLOCK_RECEIVE (R325, R326) -/

/-- The key under which a block of an ended transfer is remembered. -/
def endedKey (b : BlockFrame) : Nat × Nat := (if bit b.flags 2 then 65536 * (b.src + 1) + b.stream else b.stream, b.seq)

/-- A block that fails but is identified by its header is NAKed (R325, R327). -/
def nakBad (s : State) (b : BlockFrame) : State :=
  let k := blockKey (bit b.flags 2) b
  match expectFor s b, collFor s b with
  | some (v, _), _ => if v.landed.contains k then s else nakKeys s v [k]
  | none, some (v, _) => if v.landed.contains k then s else nakKeys s v [k]
  | none, none => s

/-- A block of the right form reaches its transfer, its pier, or nothing. One of a later step is for no transfer of this segment: it
waits in its pier (R125). -/
def takeBlock (s : State) (port : Nat) (b : BlockFrame) : State :=
  if s.eph.inSegment ∧ b.step < getF s F.SEG_STEP_STEP 0 then incF s F.PRT_DROP_COUNT port 1
  else if getF s F.SEG_STEP_STEP 0 < b.step then (if awaited s b then holdBlock s port b else record s C.ORPHAN_BLOCK port)
  else
    match expectFor s b, collFor s b with
    | some (v, x), _ => takeExpect s v x port b
    | none, some (v, c) => takeColl s v c port b
    | none, none =>
      if s.net.ended.contains (endedKey b) then s
      else if awaited s b then holdBlock s port b
      else record s C.ORPHAN_BLOCK port

/-- BLOCK_RECEIVE. -/
def execBlockReceive (port : Nat) (blk : BlockFrame) (s : State) : Out :=
  if portReady s port then
    if blockPasses blk then
      if blk.version ≠ 1 ∨ 1 < blk.type then .next (incF s F.PRT_DROP_COUNT port 1)
      else if blk.type = 1 then .next (takeNak s port blk)
      else .next (takeBlock s port blk)
    else if blk.hchk = blockHchk blk then
      if blk.version ≠ 1 ∨ 1 < blk.type then .next (incF s F.PRT_DROP_COUNT port 1)
      else .next (if blk.type = 0 then nakBad s blk else s)
    else .next s
  else .next s

/-! ## Repeats (R327) -/

/-- What a transfer's reception waits for. -/
def recvKeys (s : State) (v : RecvSt) : List (Nat × Nat) :=
  if v.coll then (match findRun s v.xfer with | some c => runKeys s c | none => [])
  else match findX s v.xfer with | some x => expectKeys x | none => []

def findRecv (s : State) (xfer : Nat) : Option RecvSt := s.net.recv.find? (fun v => v.xfer == xfer)

/-- NAK_REPEAT: one re-send time after the last NAK, blocks NAKed and still missing are NAKed again. -/
def execNakRepeat (xfer : Nat) (s : State) : Out :=
  match findRecv s xfer with
  | some v =>
    let miss := (missingOf v (recvKeys s v)).filter (fun k => mget v.naks k 0 != 0)
    match miss, v.lastNak with
    | k :: _, some t =>
      match recvRoute s v k.1 with
      | some r => .next (if t + resendNs s r ≤ elapsedNs s then nakKeys s v miss else s)
      | none => .next s
    | _, _ => .next s
  | none => .next s

/-- EXPECT_ARRIVAL_PASS: the ARRIVAL cycle has passed and every missing block is NAKed, once; a COLL acts as an EXPECT (R345). -/
def execExpectArrivalPass (xfer : Nat) (s : State) : Out :=
  match findRecv s xfer, findX s xfer with
  | some v, some x =>
    let miss := missingOf v (recvKeys s v)
    if s.eph.inSegment && !v.arrivalNak && decide (x.arrival < segCycle s) && !miss.isEmpty then
      let w := { v with arrivalNak := true }
      .next (nakKeys (putRecv s w) w miss)
    else .next s
  | _, _ => .next s

end Sys2Proof.Machine
end

