-- ==== Sys2Proof/Machine/ImgCand.lean ====
section
/-!
DEFINITION. What an image puts in the registers, the tables and the focal windows (13, R400 to R403, R411), and the state that an
image in validation would make, on which its checks run (R409).
-/
namespace Sys2Proof.Machine

/-! ## Registers, tables and focal contents -/

/-- Table: Modes as the MODES record gives them (R402). -/
def imgMode (i : Image) (k : Nat) : Nat := recFld i 0x0701 k 1 0

/-- A field of LIMITS, or its default where the record is absent (R403). -/
def limitOf (i : Option Image) (o n d : Nat) : Nat := match i with
  | some i => recFld i 0x0801 o n d
  | none => d

/-- The modes, the limits and the overrides of an image in their registers (R411, steps 2 and 3). -/
def putModes (s : State) (i : Image) : State :=
  let s := setF (setF s F.GLB_MODES_SUSTAIN 0 (imgMode i 0)) F.GLB_MODES_RELAXED 0 (imgMode i 1)
  let s := setF (setF s F.GLB_MODES_STAGGER 0 (imgMode i 2)) F.GLB_MODES_BENCH 0 (imgMode i 3)
  let s := setF (setF s F.EPH_MODE_RELAXED 0 (imgMode i 1)) F.THM_CFG_STAGGER 0 (imgMode i 2)
  let s := setF (setF s F.PWR_STATUS_CLOCK 0 (imgMode i 0)) F.PWR_STATUS_FCST 0 (limitOf (some i) 8 1 0)
  let s := setF s F.THM_CFG_THR_DOME 0 (limitOf (some i) 0 1 95)
  let s := setF s F.THM_CFG_THR_LOGIC 0 (limitOf (some i) 1 1 90)
  let s := setF s F.THM_CFG_THR_SRAM 0 (limitOf (some i) 2 1 85)
  let excess := (recsOf i 0x0901).foldl (fun m r => minsert natLt (merase m (fld r.body 0 2)) (fld r.body 0 2) (fld r.body 2 1)) []
  { s with flt := { s.flt with overrides := excess } }

/-- The named barriers of the tile map section (R171, R402). -/
def barriersOf (i : Image) : NMap NamedBar :=
  (recsOf i 0x0102).foldl (fun m r =>
    let id := fld r.body 0 1
    let ms := ((List.range 128).filter (bit (fld r.body 8 16))).map (128 * fld r.body 1 1 + ·)
    minsert natLt (merase m id) id { members := ms }) []

/-- The tables of an image, with what belongs to the staged image kept. -/
def putTables (s : State) (i : Image) : State :=
  let a := s.act
  { s with
    act := { tablesOf i with
             copyLost := a.copyLost, clockDue := a.clockDue, sweepDue := a.sweepDue, live := a.live, digest := a.digest, staged := a.staged, stagedBase := a.stagedBase, granules := a.granules, stagedId := a.stagedId }
    lane := { s.lane with bars := barriersOf i } }

/-- A FOCAL record written to the windows of its tiles, below offset 0xE0_0000 (R400, R187). -/
def putFocal (s : State) (r : Rec) : State :=
  let f := focalRec r
  let d := f.2.2.take (0xE00000 - f.2.1)
  f.1.foldl (fun s t => writeBytes s (focalAddr t f.2.1) d []) s

/-- The FOCAL records of an image. -/
def putFocals (s : State) (i : Image) : State := (recsOf i 0x0003).foldl putFocal s

/-- The registers of an image: every RWS field at its reset value, then the entries in image order (R411, step 2). -/
def putRegs (s : State) (i : Image) : State := (imageRegs i.sects).foldl (fun s e => imageWrite s e.1 e.2) (resetRws s)

/-- The state in which the checks of an image run (R409): its registers, tables, modes and focal contents. -/
def wouldBe (s : State) (i : Image) : State :=
  putFocals (putModes (putTables (putRegs { s with net := { s.net with detours := [] } } i) i) i) i

/-! ## Where a check failed (R409) -/

/-- The offset of the first record of a kind, or of a section where the record is absent. -/
def recAt (i : Image) (type kind : Nat) : Nat :=
  match recOf i kind with
  | some r => r.off
  | none => match i.sects.find? (fun x => x.type == type) with
    | some x => x.off
    | none => 0

/-- The offset of the record that sets a register, or of its section. -/
def regAtOff (i : Image) (type a : Nat) : Nat :=
  match (i.sects.flatMap (·.recs)).find? (fun r => (recRegs r).any (fun e => e.1 == a)) with
  | some r => r.off
  | none => recAt i type 0

/-- The offset of the FOCAL record that holds an offset of a tile's window. -/
def focalOff (i : Image) (t off : Nat) : Nat :=
  match (recsOf i 0x0003).find? (fun r => let f := focalRec r
      f.1.contains t && decide (f.2.1 ≤ off) && decide (off < f.2.1 + f.2.2.length)) with
  | some r => r.off
  | none => recAt i 5 0

/-- Every one of `n` bytes at an offset of a tile's window is written by a FOCAL record (R144). -/
def focalHas (i : Image) (t off n : Nat) : Bool :=
  let rs := (recsOf i 0x0003).map focalRec
  (List.range n).all (fun k => rs.any (fun f =>
    f.1.contains t && decide (f.2.1 ≤ off + k) && decide (off + k < f.2.1 + f.2.2.length)))

/-- A task index names a task entry (R144). -/
def namesTask (c : State) (i : Image) (t x : Nat) : Bool :=
  let o := getF c F.LANE_TTAB_BASE t + 32 * x
  decide (o + 32 ≤ 0xE00000) && focalHas i t o 32

/-! ## Page ranges -/

/-- Two page ranges meet. -/
def pagesMeet (a b : Nat × Nat) : Bool := decide (a.1 < b.1 + b.2) && decide (b.1 < a.1 + a.2)

/-- Ranges ascend without overlap. -/
def ascending : List (Nat × Nat) → Bool
  | [] => true
  | [_] => true
  | a :: b :: r => decide (a.1 + a.2 ≤ b.1) && ascending (b :: r)

/-- The end of the regions, in bytes. -/
def regionsEnd (c : State) : Nat := ((regionsOf c).map (·.size)).foldl (· + ·) 0

/-- `n` bytes at an LPDDR address lie in the regions and the installed capacity. -/
def inRegions (c : State) (a n : Nat) : Bool := decide (a + n ≤ min (regionsEnd c) (installed c))

/-- The three areas of the store partition: checkpoint reserve, image area and ring. -/
def areaAt (c : State) (k : Nat) : Nat × Nat := (c.act.areas.getD (2 * k) 0, c.act.areas.getD (2 * k + 1) 0)

/-- The pages of the committed state. -/
def committedCount (c : State) : Nat := (c.act.committed.map (·.2)).foldl (· + ·) 0

/-- A byte extent meets the committed pages. -/
def meetsCommitted (c : State) (a n : Nat) : Bool :=
  decide (a < lpddrEnd) && c.act.committed.any (fun r => pagesMeet (a / 4096, (a + n - 1) / 4096 + 1 - a / 4096) r)

/-- A byte extent lies in a place of R202: outside the regions, in scratch that is not carved or of a slice out of service, or
outside LPDDR and scratch. -/
def noPlace (c : State) (a n : Nat) : Bool :=
  if a < lpddrEnd then !inRegions c a n
  else if scratchBase ≤ a ∧ a < scratchBase + 192 * 0x08000000 then
    let i := (a - scratchBase) / 0x08000000
    let o := (a - scratchBase) % 0x08000000
    getB c F.FLT_SHUT_SLICE i || getB c F.SLC_STATUS_FOLDED i || decide (getF c F.SLC_CFG_CARVE i * 0x1000000 < o + n)
  else true

end Sys2Proof.Machine
end

