-- ==== Sys2Proof/Machine/LaneAlu.lean ====
section
/-!
DEFINITION. Arithmetic of the lane unit (06, Table: Opcodes): vector and scalar operations, comparisons, conversions and
the shuffle, as operations on a group that has been picked for issue.
-/
namespace Sys2Proof.Machine

/-! ## Reserved fields (R183, R184) -/

/-- A scalar flag on a register number above 31. -/
def scalBad (r : BitVec 6) (f : Bool) : Bool := f && decide (32 ≤ r.toNat)

/-- A reserved value in an R form: RND 3, CC 8 and above, or a scalar register number above 31. -/
def rBad (f : RForm) : Bool :=
  f.rnd == 3 || decide (8 ≤ f.cc.toNat) || scalBad f.d f.dS || scalBad f.a f.aS || scalBad f.b f.bS || scalBad f.c f.cS

/-- A reserved value in an I form. -/
def iBad (f : IForm) : Bool := scalBad f.d f.dS || scalBad f.a f.aS

/-- A reserved value in a C form. -/
def cBad (f : CForm) : Bool := scalBad f.c f.cS

/-- A reserved SIZE in an M form that is not a format code. -/
def mBad (f : MForm) : Bool := decide (4 ≤ f.size.toNat)

/-- The fault of a reserved instruction (R184). -/
def illegal (s : State) (t slot : Nat) : State := groupFault s t slot C.LANE_ILLEGAL 0

/-- The group stored back. -/
def keepGroup (s : State) (t slot : Nat) (g : Group) : State := putGroup s t slot (some g)

/-! ## Vector operations -/

/-- A vector operation: each active lane of D gets the value of the function on the lane's operands. D as a scalar has no
stated value for a vector result, and gets a free one (assumption 30), poisoned where a lane's result is (R105). -/
def vecOp (s : State) (t slot : Nat) (g : Group) (f : RForm) (fn : Nat → LaneVal → LaneVal → LaneVal → LaneVal) : State :=
  let out (l : Nat) : LaneVal := fn l (operand g f.a f.aS l) (operand g f.b f.bS l) (operand g f.c f.cS l)
  if rBad f then illegal s t slot
  else if f.dS then
    keepGroup s t slot (advance (drew (sPut g f.d.toNat ⟨(laneWord s t g 32).setWidth 64, (activeLanes g).any (fun l => (out l).poison)⟩)))
  else keepGroup s t slot (advance (vMap g f.d.toNat out))

/-- One, two or three sources; the result is poisoned when any source is (R105). -/
def lift1 (fn : W32 → W32) : Nat → LaneVal → LaneVal → LaneVal → LaneVal := fun _ a _ _ => ⟨fn a.v, a.poison⟩
def lift2 (fn : W32 → W32 → W32) : Nat → LaneVal → LaneVal → LaneVal → LaneVal :=
  fun _ a b _ => ⟨fn a.v b.v, a.poison || b.poison⟩
def lift3 (fn : W32 → W32 → W32 → W32) : Nat → LaneVal → LaneVal → LaneVal → LaneVal :=
  fun _ a b c => ⟨fn a.v b.v c.v, a.poison || b.poison || c.poison⟩

/-- The rounding mode of an instruction in a lane (R102). The stochastic mode draws a word the spec gives only for CVTN,
so elsewhere it is an open one (assumption 31). -/
def laneMode (s : State) (t : Nat) (g : Group) (f : RForm) (l : Nat) : RMode := modeOf f.rnd.toNat (laneWord s t g l).toNat

/-- A rounded FP32 operation of one, two or three sources. -/
def fpOp (s : State) (t slot : Nat) (g : Group) (f : RForm) (fn : RMode → W32 → W32 → W32 → W32) (n : Nat) : State :=
  vecOp s t slot (if f.rnd = 2 then drew g else g) f (fun l a b c =>
    ⟨fn (laneMode s t g f l) a.v b.v c.v, a.poison || (decide (2 ≤ n) && b.poison) || (decide (3 ≤ n) && c.poison)⟩)

/-! ## Comparisons (Table: Compare conditions) -/

/-- FCMP; with a NaN operand only NE and UN are true. -/
def cmpF (cc : Nat) (a b : W32) : Bool :=
  let x := ofFp32 a
  let y := ofFp32 b
  if isNan x || isNan y then cc == 1 || cc == 6
  else
    match cc with
    | 0 => eqV x y
    | 1 => !eqV x y
    | 2 => ltV x y
    | 3 => ltV x y || eqV x y
    | 4 => ltV y x
    | 5 => ltV y x || eqV x y
    | _ => false

/-- ICMP and SCMP on signed values, with unsigned LTU. -/
def cmpI (cc : Nat) (a b : Int) (ltu : Bool) : Bool :=
  match cc with
  | 0 => a == b
  | 1 => a != b
  | 2 => decide (a < b)
  | 3 => decide (a ≤ b)
  | 4 => decide (b < a)
  | 5 => decide (b ≤ a)
  | 7 => ltu
  | _ => false

/-- 1 or 0. -/
def oneIf {n : Nat} (b : Bool) : BitVec n := if b then 1 else 0

/-! ## The operations of the R forms -/

def opFadd (s : State) (t slot : Nat) (g : Group) (f : RForm) : State := fpOp s t slot g f (fun m a b _ => fAdd m a b) 2
def opFsub (s : State) (t slot : Nat) (g : Group) (f : RForm) : State := fpOp s t slot g f (fun m a b _ => fSub m a b) 2
def opFmul (s : State) (t slot : Nat) (g : Group) (f : RForm) : State := fpOp s t slot g f (fun m a b _ => fMul m a b) 2
def opFfma (s : State) (t slot : Nat) (g : Group) (f : RForm) : State := fpOp s t slot g f fFma 3
def opFdiv (s : State) (t slot : Nat) (g : Group) (f : RForm) : State := fpOp s t slot g f (fun m a b _ => fDiv m a b) 2
def opFrcp (s : State) (t slot : Nat) (g : Group) (f : RForm) : State := fpOp s t slot g f (fun m a _ _ => fDiv m 0x3F800000 a) 1
def opFrsq (s : State) (t slot : Nat) (g : Group) (f : RForm) : State := fpOp s t slot g f (fun m a _ _ => fRsqrt m a) 1
def opFmin (s : State) (t slot : Nat) (g : Group) (f : RForm) : State := vecOp s t slot g f (lift2 fMin)
def opFmax (s : State) (t slot : Nat) (g : Group) (f : RForm) : State := vecOp s t slot g f (lift2 fMax)
def opFexp2 (s : State) (t slot : Nat) (g : Group) (f : RForm) : State := vecOp s t slot g f (lift1 fExp2)
def opFlog2 (s : State) (t slot : Nat) (g : Group) (f : RForm) : State := vecOp s t slot g f (lift1 fLog2)

/-- FCMP; LTU is for ICMP and SCMP only, and reserved here. -/
def opFcmp (s : State) (t slot : Nat) (g : Group) (f : RForm) : State :=
  if f.cc = 7 then illegal s t slot else vecOp s t slot g f (lift2 (fun a b => oneIf (cmpF f.cc.toNat a b)))

/-- ICMP; UN is for FCMP only, and reserved here. -/
def opIcmp (s : State) (t slot : Nat) (g : Group) (f : RForm) : State :=
  if f.cc = 6 then illegal s t slot
  else vecOp s t slot g f (lift2 (fun a b => oneIf (cmpI f.cc.toNat a.toInt b.toInt (decide (a.toNat < b.toNat)))))

/-- CVTF: the FP32 value of A's low bits read in format FMT; a NaN is the canonical one (R101). -/
def cvtF (c : Nat) (a : W32) : W32 := if c = 0 then toFp32 .rne (ofFp32 a) else toFp32 .rne (decodeElem c (a.toNat % 2 ^ elemBits c))

def opCvtf (s : State) (t slot : Nat) (g : Group) (f : RForm) : State := vecOp s t slot g f (lift1 (cvtF f.fmt.toNat))

/-- CVTN to FP32 leaves the value unchanged but for a NaN, which becomes the canonical one (R97, R101). DESIGN CHOICE (assumption 107):
the code of a narrower format is zero-extended in the register. -/
def cvtN (c : Nat) (m : RMode) (a : W32) : W32 :=
  if c = 0 then (if isNan (ofFp32 a) then 0x7FC00000 else a) else BitVec.ofNat 32 (convert c m (ofFp32 a)).1

/-- The word that CVTN draws in a lane: stream 1, counter word 0 from B, OP_INDEX from scalar C (R99, R184). Where C is not a
scalar the spec names no OP_INDEX, and the word is free (assumption 31). -/
def cvtDraw (s : State) (t : Nat) (g : Group) (f : RForm) (l : Nat) (b : LaneVal) : Nat :=
  if f.cS then drawWord s.act.seed b.v.toNat ((sGet g f.c.toNat).v.toNat % 65536) t 1 (getF s F.SEG_STEP_STEP 0)
  else (laneWord s t g l).toNat

def opCvtn (s : State) (t slot : Nat) (g : Group) (f : RForm) : State :=
  let st := f.rnd == 2
  vecOp s t slot (if st && !f.cS then drew g else g) f (fun l a b c =>
    ⟨cvtN f.fmt.toNat (modeOf f.rnd.toNat (if st then cvtDraw s t g f l b else 0)) a.v,
     a.poison || (st && (b.poison || c.poison))⟩)

def opI2f (s : State) (t slot : Nat) (g : Group) (f : RForm) : State := fpOp s t slot g f (fun m a _ _ => toFp32 m (ofInt a.toInt)) 1

/-- F2I: NaN gives 0, and values beyond INT32 saturate. -/
def f2i (m : RMode) (a : W32) : W32 :=
  match ofFp32 a with
  | .nan => 0
  | .inf neg => if neg then 0x80000000 else 0x7FFFFFFF
  | .fin neg k e => BitVec.ofInt 32 (satI32 (roundInt m neg k e))

def opF2i (s : State) (t slot : Nat) (g : Group) (f : RForm) : State := fpOp s t slot g f (fun m a _ _ => f2i m a) 1

def opIadd (s : State) (t slot : Nat) (g : Group) (f : RForm) : State := vecOp s t slot g f (lift2 (· + ·))
def opIsub (s : State) (t slot : Nat) (g : Group) (f : RForm) : State := vecOp s t slot g f (lift2 (· - ·))
def opImul (s : State) (t slot : Nat) (g : Group) (f : RForm) : State := vecOp s t slot g f (lift2 (· * ·))
def opImad (s : State) (t slot : Nat) (g : Group) (f : RForm) : State := vecOp s t slot g f (lift3 (fun a b c => a * b + c))
def opAnd (s : State) (t slot : Nat) (g : Group) (f : RForm) : State := vecOp s t slot g f (lift2 (· &&& ·))
def opOr (s : State) (t slot : Nat) (g : Group) (f : RForm) : State := vecOp s t slot g f (lift2 (· ||| ·))
def opXor (s : State) (t slot : Nat) (g : Group) (f : RForm) : State := vecOp s t slot g f (lift2 (· ^^^ ·))
def opShl (s : State) (t slot : Nat) (g : Group) (f : RForm) : State := vecOp s t slot g f (lift2 (fun a b => a <<< (b.toNat % 32)))
def opShr (s : State) (t slot : Nat) (g : Group) (f : RForm) : State := vecOp s t slot g f (lift2 (fun a b => a >>> (b.toNat % 32)))
def opSar (s : State) (t slot : Nat) (g : Group) (f : RForm) : State := vecOp s t slot g f (lift2 (fun a b => a.sshiftRight (b.toNat % 32)))
def opImin (s : State) (t slot : Nat) (g : Group) (f : RForm) : State := vecOp s t slot g f (lift2 (fun a b => if b.slt a then b else a))
def opImax (s : State) (t slot : Nat) (g : Group) (f : RForm) : State := vecOp s t slot g f (lift2 (fun a b => if a.slt b then b else a))
def opSel (s : State) (t slot : Nat) (g : Group) (f : RForm) : State :=
  vecOp s t slot g f (fun _ a b c => ⟨if condTrue a then b.v else c.v, a.poison || b.poison || c.poison⟩)
def opMov (s : State) (t slot : Nat) (g : Group) (f : RForm) : State := vecOp s t slot g f (lift1 id)

/-- MOVI: every active lane of D gets IMM. DEDUCED (assumption 30): a scalar D gets IMM zero-extended, as SMOVI alone sign-extends. -/
def opMovi (s : State) (t slot : Nat) (g : Group) (f : IForm) : State :=
  if iBad f then illegal s t slot
  else if f.dS then keepGroup s t slot (advance (sPut g f.d.toNat ⟨f.imm.setWidth 64, false⟩))
  else keepGroup s t slot (advance (vMap g f.d.toNat (fun _ => ⟨f.imm, false⟩)))

/-- SHFL: lane `l` of D gets lane (B mod 32) of A; a poisoned index is consumed and reads lane 0 (R161). -/
def opShfl (s : State) (t slot : Nat) (g : Group) (f : RForm) : State :=
  let p := if rBad f then [] else (activeLanes g).filter (fun l => (operand g f.b f.bS l).poison)
  vecOp (usePoison s t slot g.pc p) t slot g f (fun _ _ b _ => operand g f.a f.aS (if b.poison then 0 else b.v.toNat % 32))

/-! ## Scalar operations (0x80 to 0x8D) -/

/-- A scalar operation of two sources on 64-bit registers. -/
def scalOp (s : State) (t slot : Nat) (g : Group) (f : RForm) (n : Nat) (fn : W64 → W64 → W64) : State :=
  if rBad f || decide (32 ≤ f.d.toNat) || decide (32 ≤ f.a.toNat) || (decide (2 ≤ n) && decide (32 ≤ f.b.toNat)) then
    illegal s t slot
  else
    let a := sGet g f.a.toNat
    let b := sGet g f.b.toNat
    keepGroup s t slot (advance (sPut g f.d.toNat ⟨fn a.v b.v, a.poison || (decide (2 ≤ n) && b.poison)⟩))

def opSadd (s : State) (t slot : Nat) (g : Group) (f : RForm) : State := scalOp s t slot g f 2 (· + ·)
def opSsub (s : State) (t slot : Nat) (g : Group) (f : RForm) : State := scalOp s t slot g f 2 (· - ·)
def opSmul (s : State) (t slot : Nat) (g : Group) (f : RForm) : State := scalOp s t slot g f 2 (· * ·)
def opSand (s : State) (t slot : Nat) (g : Group) (f : RForm) : State := scalOp s t slot g f 2 (· &&& ·)
def opSor (s : State) (t slot : Nat) (g : Group) (f : RForm) : State := scalOp s t slot g f 2 (· ||| ·)
def opSxor (s : State) (t slot : Nat) (g : Group) (f : RForm) : State := scalOp s t slot g f 2 (· ^^^ ·)
def opSshl (s : State) (t slot : Nat) (g : Group) (f : RForm) : State := scalOp s t slot g f 2 (fun a b => a <<< (b.toNat % 64))
def opSshr (s : State) (t slot : Nat) (g : Group) (f : RForm) : State := scalOp s t slot g f 2 (fun a b => a >>> (b.toNat % 64))
def opSsar (s : State) (t slot : Nat) (g : Group) (f : RForm) : State := scalOp s t slot g f 2 (fun a b => a.sshiftRight (b.toNat % 64))
def opSmin (s : State) (t slot : Nat) (g : Group) (f : RForm) : State := scalOp s t slot g f 2 (fun a b => if b.slt a then b else a)
def opSmax (s : State) (t slot : Nat) (g : Group) (f : RForm) : State := scalOp s t slot g f 2 (fun a b => if a.slt b then b else a)
def opScmp (s : State) (t slot : Nat) (g : Group) (f : RForm) : State :=
  if f.cc = 6 then illegal s t slot
  else scalOp s t slot g f 2 (fun a b => oneIf (cmpI f.cc.toNat a.toInt b.toInt (decide (a.toNat < b.toNat))))
def opSmov (s : State) (t slot : Nat) (g : Group) (f : RForm) : State := scalOp s t slot g f 1 (fun a _ => a)

/-- SMOVI: scalar D gets IMM sign-extended. -/
def opSmovi (s : State) (t slot : Nat) (g : Group) (f : IForm) : State :=
  if iBad f || decide (32 ≤ f.d.toNat) then illegal s t slot
  else keepGroup s t slot (advance (sPut g f.d.toNat ⟨f.imm.signExtend 64, false⟩))

end Sys2Proof.Machine
end

