-- ==== Sys2Proof/Machine/LaneCtl.lean ====
section
/-!
DEFINITION. Control of the lane unit (06): branches, the mask stack, locks, barriers, ownership of the arrays and the
fragment path, as operations on a group that has been picked for issue.
-/
namespace Sys2Proof.Machine

/-! ## Control (0x00 to 0x05) -/

def opNop (s : State) (t slot : Nat) (g : Group) (f : IForm) : State :=
  if iBad f then illegal s t slot else keepGroup s t slot (advance g)

/-- The signed 32-bit branch offset of BRA and BRS, in instructions. -/
def off32 (f : CForm) : Int := (f.off2 ++ f.off1).toInt

/-- BRA: the group goes on at the target, counted from the branch itself (assumption 13). -/
def opBra (s : State) (t slot : Nat) (g : Group) (f : CForm) : State :=
  if cBad f then illegal s t slot else keepGroup s t slot { g with pc := branchTo g.pc (off32 f) }

/-- BRS: a branch when scalar C is nonzero; a poisoned condition is consumed and false (R161). -/
def opBrs (s : State) (t slot : Nat) (g : Group) (f : CForm) : State :=
  if decide (32 ≤ f.c.toNat) then illegal s t slot
  else
    let c := sGet g f.c.toNat
    let s := usePoison s t slot g.pc (groupUse c.poison)
    if c.v != 0 && !c.poison then keepGroup s t slot { g with pc := branchTo g.pc (off32 f) }
    else keepGroup s t slot (advance g)

/-- YIELD: the group leaves the active set (R148). -/
def opYield (s : State) (t slot : Nat) (g : Group) (f : CForm) : State :=
  if cBad f then illegal s t slot else leaveActive s t slot (advance g) .none

/-- RDSR: scalar D gets a special value by IMM. -/
def opRdsr (s : State) (t slot : Nat) (g : Group) (f : IForm) : State :=
  if iBad f || decide (32 ≤ f.d.toNat) then illegal s t slot
  else
    let put (v : Nat) : State := keepGroup s t slot (advance (sPut g f.d.toNat ⟨BitVec.ofNat 64 v, false⟩))
    match f.imm.toNat with
    | 0 => put (nowNs s)
    | 1 => put (getF s F.SEG_STEP_STEP 0)
    | 2 => put (segCycle s)
    | 3 => put t
    | 4 => put slot
    | _ => illegal s t slot

/-! ## Barriers between groups (R170, R171) -/

/-- The slots of a task's groups that wait in a given way. -/
def waitingSlots (s : State) (t task : Nat) (w : GroupWait) : List Nat :=
  (taskSlots s t task).filter (fun i => match getGroup s t i with | some g => g.wait == w | none => false)

/-- Groups of a tile wake up. -/
def wakeAll (s : State) (t : Nat) (slots : List Nat) : State :=
  slots.foldl (fun s i => match getGroup s t i with | some g => wake s t i g | none => s) s

/-- A tile barrier completes when every group of the task has executed it or ended (R170). -/
def checkTileBar (s : State) (t task b : Nat) : State :=
  let w := waitingSlots s t task (.tileBarrier b)
  if w ≠ [] ∧ w.length = (taskSlots s t task).length then
    let l := getLane s t
    wakeAll (setLane s t { l with tileBarStart := merase l.tileBarStart (task, b) }) t w
  else s

/-- A tile arrives at a named barrier when every group of the task has executed it or ended (R171). -/
def checkNamedBar (s : State) (t task b : Nat) : State :=
  let w := waitingSlots s t task (.namedBarrier b)
  if w ≠ [] ∧ w.length = (taskSlots s t task).length then
    let x := mget s.lane.bars b {}
    if x.arrived.contains t then s
    else { s with lane := { s.lane with bars := mput natLt s.lane.bars b { x with arrived := x.arrived ++ [t] } {} } }
  else s

/-- A group of a task has ended: barriers that waited for it alone complete. -/
def afterEnd (s : State) (t task : Nat) : State :=
  let s := (List.range 8).foldl (fun s b => checkTileBar s t task b) s
  (List.range 64).foldl (fun s b => checkNamedBar s t task b) s

/-! ## The mask stack (R153 to R155) -/

/-- Group barriers whose arrived and exited lanes now make 32 release their waiting entries (R168). -/
def releaseFull (g : Group) : Group :=
  (List.range 4).foldl (fun g b =>
    let w := waitingLanes b g.stack
    if w != 0 && (w ||| g.exited) == 0xFFFFFFFF then
      { g with stack := releaseBar b g.stack, barStart := merase g.barStart b }
    else g) g

/-- EXIT: the active lanes leave the group for good (R147, R155, R166, R168). -/
def opExit (s : State) (t slot : Nat) (g : Group) (f : CForm) : State :=
  if cBad f then illegal s t slot
  else
    let left := g.locks.filter (fun x => inMask g.mask x.2)
    match left with
    | x :: _ =>
      let s := freeLocks s t left
      let lane := left.foldl (fun m y => min m y.2) x.2
      groupFault (keepGroup s t slot { g with locks := g.locks.filter (fun y => !inMask g.mask y.2) }) t slot C.LOCK_LEFT lane
    | [] =>
      let ex := g.exited ||| g.mask
      let g := releaseFull { g with mask := 0, exited := ex, stack := g.stack.map (dropLanes g.mask) }
      if ex = 0xFFFFFFFF then afterEnd (endGroup s t slot) t g.task
      else doRcv (keepGroup s t slot g) t slot g

/-- The condition lanes that are true, and the active lanes whose condition is poisoned. -/
def condMask (g : Group) (r : BitVec 6) (scal : Bool) : W32 × List Nat :=
  (maskOf ((activeLanes g).filter (fun l => condTrue (operand g r scal l))),
   (activeLanes g).filter (fun l => (operand g r scal l).poison))

/-- PUSH (R153, R154). -/
def opPush (s : State) (t slot : Nat) (g : Group) (f : CForm) : State :=
  if cBad f then illegal s t slot
  else
    let c := condMask g f.c f.cS
    let s := usePoison s t slot g.pc c.2
    let no := g.mask &&& ~~~c.1
    let need := if no = 0 then 1 else 2
    if 16 < g.stack.length + need then groupFault (keepGroup s t slot g) t slot C.MASK_OVERFLOW 0
    else
      let base := MaskEntry.rejoin g.mask (branchTo g.pc f.off2.toInt + 8) :: g.stack
      let st := if no = 0 then base else MaskEntry.pend no (branchTo g.pc f.off1.toInt) :: base
      if c.1 = 0 then doRcv s t slot { g with stack := st }
      else keepGroup s t slot { g with stack := st, mask := c.1, pc := g.pc + 8 }

/-- BRK (R153). -/
def opBrk (s : State) (t slot : Nat) (g : Group) (f : CForm) : State :=
  if cBad f then illegal s t slot
  else
    let c := condMask g f.c f.cS
    let s := usePoison s t slot g.pc c.2
    let m := g.mask &&& ~~~c.1
    let g := { g with mask := m, stack := joinRejoin c.1 g.stack }
    if m = 0 then doRcv (keepGroup s t slot g) t slot g else keepGroup s t slot (advance g)

def opRcv (s : State) (t slot : Nat) (g : Group) (f : CForm) : State :=
  if cBad f then illegal s t slot else doRcv s t slot g

/-- POP: the top entry is discarded. -/
def opPop (s : State) (t slot : Nat) (g : Group) (f : CForm) : State :=
  if cBad f then illegal s t slot
  else
    match g.stack with
    | [] => groupFault s t slot C.MASK_UNDERFLOW 0
    | _ :: r => keepGroup s t slot (advance { g with stack := r })

/-- A scalar destination of a mask instruction. -/
def scalDest (s : State) (t slot : Nat) (g : Group) (f : RForm) (v : W64) : State :=
  keepGroup s t slot (advance (sPut g f.d.toNat ⟨v, false⟩))

/-- ANY: 1 when A is true in any active lane. -/
def opAny (s : State) (t slot : Nat) (g : Group) (f : RForm) : State :=
  if rBad f || decide (32 ≤ f.d.toNat) then illegal s t slot
  else
    let c := condMask g f.a f.aS
    scalDest (usePoison s t slot g.pc c.2) t slot g f (oneIf (c.1 != 0))

/-- ALL: 1 when A is true in every active lane. -/
def opAll (s : State) (t slot : Nat) (g : Group) (f : RForm) : State :=
  if rBad f || decide (32 ≤ f.d.toNat) then illegal s t slot
  else
    let c := condMask g f.a f.aS
    scalDest (usePoison s t slot g.pc c.2) t slot g f (oneIf (c.1 == g.mask))

/-- MASK: scalar D gets the active mask. -/
def opMask (s : State) (t slot : Nat) (g : Group) (f : RForm) : State :=
  if rBad f || decide (32 ≤ f.d.toNat) then illegal s t slot else scalDest s t slot g f (g.mask.setWidth 64)

/-! ## Focal words named by lanes -/

/-- The lowest active lane whose unpoisoned address is no focal word of `n` bytes. -/
def focalBad (s : State) (g : Group) (f : MForm) (n : Nat) : Option Nat :=
  (activeLanes g).find? (fun l =>
    let a := laneAddr g f l
    !a.2 && (f.space != 0 || laneAddrNeg g f l || badAddr s 0 a.1 n))

/-- The window offsets that the active lanes name, with their lanes, where the address is not poisoned. -/
def laneOffs (g : Group) (f : MForm) : List (Nat × Nat) :=
  (activeLanes g).filterMap (fun l => let a := laneAddr g f l; if a.2 then none else some (l, a.1))

/-- The word at a focal offset decodes as uncorrectable. -/
def focalLost (s : State) (t off : Nat) : Bool := (readWord s (focalAddr t off)).1 == .uncorrectable

/-- An access of focal words that must wait: a read while the finder streams (R66), a write into an extent of R120, or a word
whose page is to be recovered first (R291). The state answered starts the recovery; the group does not move. -/
def focalHold (s : State) (t n : Nat) (offs : List Nat) (load store : Bool) : Option State :=
  if load && !offs.isEmpty && finderStreams s t then some s
  else if store && offs.any (fun o => extentHeld s t o n) then some s
  else if offs.any (focalLost s t) then
    some (offs.foldl (fun s o => if focalLost s t o then noteFocal s (focalAddr t o / 32 * 32) 1 else s) s)
  else none

/-- SIZE of a lock or atomic instruction is reserved: a format code, or 3, which only a scalar access has (R183). -/
def sizeBad (f : MForm) : Bool := mBad f || f.size == 3

/-- The hold of a lock or atomic instruction. -/
def atomHold (s : State) (t : Nat) (g : Group) (f : MForm) : Option State :=
  if sizeBad f then none
  else
    match focalBad s g f 4 with
    | some _ => none
    | none => focalHold s t 4 ((laneOffs g f).map (·.2)) true true

/-! ## Locks (R162 to R166) -/

/-- The contents of a lock that a lane of a slot holds. -/
def lockId (slot lane : Nat) : Nat := 0x80000000 + 32 * slot + lane

/-- What TAKE gathers lane by lane. -/
structure TakeAcc where
  s : State
  g : Group
  given : List Nat
  watch : Bool
  deriving DecidableEq, Repr

/-- TAKE in one lane. -/
def takeLane (t slot d : Nat) (mask : W32) (acc : TakeAcc) (x : Nat × Nat) : TakeAcc :=
  let w := focalWord acc.s t x.2
  let out (g : Group) (v : W32) : Group := vPut g d x.1 ⟨v, false⟩
  if acc.given.contains x.2 then { acc with g := out acc.g 1 }
  else if w = 0 then
    if 8 ≤ acc.g.locks.length then { acc with g := out acc.g 3 }
    else
      { acc with s := putFocal32 acc.s t x.2 (lockId slot x.1)
                 g := out { acc.g with locks := acc.g.locks ++ [(x.2, x.1)] } 0
                 given := acc.given ++ [x.2] }
  else if 0x80000000 ≤ w ∧ (w - 0x80000000) / 32 = slot then
    { acc with g := out acc.g 1, watch := acc.watch || !inMask mask (w % 32) }
  else { acc with g := out acc.g 2 }

/-- TAKE (R162, R165). -/
def opTake (s : State) (t slot : Nat) (g : Group) (f : MForm) : State :=
  if sizeBad f then illegal s t slot
  else
    let s := usePoison s t slot g.pc (poisonAddrs g f)
    match focalBad s g f 4 with
    | some l => groupFault s t slot C.LANE_ADDRESS l
    | none =>
      let r := (laneOffs g f).foldl (takeLane t slot f.d.toNat g.mask) ⟨s, g, [], false⟩
      let start := if r.given ≠ [] then none
        else if r.watch then (match g.lockStart with | some x => some x | none => some s.clk.laneCyc) else g.lockStart
      keepGroup r.s t slot (advance { r.g with lockStart := start })

/-- GIVE (R164, R165): a lane that names a word it does not hold makes the group fault with no word written. -/
def opGive (s : State) (t slot : Nat) (g : Group) (f : MForm) : State :=
  if sizeBad f then illegal s t slot
  else
    let s := usePoison s t slot g.pc (poisonAddrs g f)
    match focalBad s g f 4 with
    | some l => groupFault s t slot C.LANE_ADDRESS l
    | none =>
      let offs := laneOffs g f
      match offs.find? (fun x => focalWord s t x.2 != lockId slot x.1) with
      | some x => groupFault s t slot C.LOCK_NOT_HELD x.1
      | none =>
        let s := offs.foldl (fun s x => putFocal32 s t x.2 0) s
        keepGroup s t slot (advance { g with lockStart := none,
                                             locks := g.locks.filter (fun y => !(offs.any (fun x => x.2 == y.1))) })

/-! ## Barriers (R167 to R171) -/

/-- BARG (R167, R168). -/
def opBarg (s : State) (t slot : Nat) (g : Group) (f : IForm) : State :=
  if iBad f || decide (4 ≤ f.imm.toNat) then illegal s t slot
  else
    let b := f.imm.toNat
    let start := if (mget g.barStart b 0) = 0 then mput natLt g.barStart b (s.clk.laneCyc + 1) 0 else g.barStart
    if (g.mask ||| g.exited ||| waitingLanes b g.stack) = 0xFFFFFFFF then
      keepGroup s t slot (advance { g with stack := releaseBar b g.stack, barStart := merase g.barStart b })
    else
      match swapPending (.waiting g.mask (g.pc + 8) b) g.stack with
      | some r => keepGroup s t slot { g with stack := r.1, mask := r.2.1 &&& ~~~g.exited, pc := r.2.2, barStart := start }
      | none => leaveActive s t slot { g with barStart := start } (.groupBarrier b)

/-- BART (R170). -/
def opBart (s : State) (t slot : Nat) (g : Group) (f : IForm) : State :=
  if iBad f || decide (8 ≤ f.imm.toNat) then illegal s t slot
  else
    let b := f.imm.toNat
    let l := getLane s t
    let s := if (mget l.tileBarStart (g.task, b) 0) = 0 then
        setLane s t { l with tileBarStart := mput pairLt l.tileBarStart (g.task, b) (s.clk.laneCyc + 1) 0 } else s
    checkTileBar (leaveActive s t slot g (.tileBarrier b)) t g.task b

/-- BARN (R171): a tile that is no member faults. -/
def opBarn (s : State) (t slot : Nat) (g : Group) (f : IForm) : State :=
  if iBad f || decide (64 ≤ f.imm.toNat) then illegal s t slot
  else
    let b := f.imm.toNat
    let x := mget s.lane.bars b {}
    if x.members.contains t then
      let x := if x.start.isSome then x else { x with start := some s.clk.laneCyc }
      let s := { s with lane := { s.lane with bars := mput natLt s.lane.bars b x {} } }
      checkNamedBar (leaveActive s t slot g (.namedBarrier b)) t g.task b
    else illegal s t slot

/-- NAMED_BARRIER_COMPLETE: every member tile has arrived, and every one continues (R171). -/
def namedDone (s : State) (b : Nat) : State :=
  let x := mget s.lane.bars b {}
  if paused s = false ∧ x.members ≠ [] ∧ x.members.all (fun t => x.arrived.contains t) then
    let s := { s with lane := { s.lane with bars := mput natLt s.lane.bars b { x with arrived := [], start := none } {} } }
    x.members.foldl (fun s t =>
      wakeAll s t (((getLane s t).groups.filter (fun e => match e.2 with | some g => g.wait == .namedBarrier b | none => false)).map (·.1))) s
  else s

/-- The barrier watchdog of a task in lane cycles (R144, R169, R185): the task's exponent, else the tile's; a value outside
16 to 30 reads as 22. -/
def barLimit (s : State) (t : Nat) (x : Option Task) : Nat :=
  let own := match x with
    | some k => k.barLog2
    | none => 0
  let e := if own = 0 then getF s F.LANE_CFG_BAR_LOG2 t else own
  2 ^ (if 16 ≤ e ∧ e ≤ 30 then e else 22)

/-- The first arrivals at the barriers that have not completed and that the group or lanes of it wait at: its group barriers, and
the tile or named barrier it waits at (R169). -/
def barrierStarts (s : State) (t : Nat) (g : Group) : List Nat :=
  (g.barStart.map (fun e => e.2 - 1)) ++
  (match g.wait with
   | .tileBarrier b => ((getLane s t).tileBarStart.filter (fun e => e.1 == (g.task, b))).map (fun e => e.2 - 1)
   | .namedBarrier b => (mget s.lane.bars b {}).start.toList
   | _ => [])

/-- BARRIER_TIMEOUT: a group whose barrier has not completed in time faults (R169). -/
def barrierTimeout (s : State) (t slot : Nat) : State :=
  match getGroup s t slot with
  | none => s
  | some g =>
    if !paused s && (barrierStarts s t g).any (fun st => decide (st + barLimit s t (findTask s t g.task) ≤ s.clk.laneCyc)) then
      groupFault s t slot C.BARRIER_TIMEOUT 0
    else s

/-- LOCK_STALL: the lock watchdog has reached 2^20 counted cycles (R165). -/
def lockStall (s : State) (t slot : Nat) : State :=
  match getGroup s t slot with
  | none => s
  | some g =>
    match g.lockStart with
    | none => s
    | some st =>
      if paused s = false ∧ st + 1048576 ≤ s.clk.laneCyc then groupFault s t slot C.LOCK_STALL 0 else s

/-! ## Ownership and fragments (R172 to R175) -/

/-- Groups of a tile that wait for ownership of the arrays, by slot. -/
def macqSlots (s : State) (t : Nat) : List Nat :=
  ((getLane s t).groups.filter (fun e => match e.2 with | some g => g.wait == .macq | none => false)).map (·.1)

/-- MACQ. -/
def opMacq (s : State) (t slot : Nat) (g : Group) (f : CForm) : State :=
  if cBad f then illegal s t slot
  else if (getArr s t).owner = some slot then keepGroup s t slot (advance g)
  else if dpBusy s t || !(macqSlots s t).isEmpty then keepGroup s t slot { g with wait := .macq }
  else keepGroup (setArr s t { getArr s t with owner := some slot }) t slot (advance g)

/-- ARRAY_OWNERSHIP_GRANT: the waiting group of the lowest slot gets the arrays once the datapath is idle. -/
def ownershipGrant (s : State) (t : Nat) : State :=
  match macqSlots s t with
  | [] => s
  | slot :: _ =>
    if dpBusy s t || paused s then s
    else
      match getGroup s t slot with
      | none => s
      | some g => keepGroup (setArr s t { getArr s t with owner := some slot }) t slot (advance { g with wait := .none })

/-- MREL: the group's ownership ends. -/
def opMrel (s : State) (t slot : Nat) (g : Group) (f : CForm) : State :=
  if cBad f then illegal s t slot else keepGroup (dropOwner s t slot) t slot (advance g)

/-- The base of a weight set that MWLD names: SB + OFF (assumption 32). -/
def mwldBase (g : Group) (f : MForm) : Nat × Bool := laneAddr g { f with vx := false } 0

/-- The bytes of the weight set that MWLD reads: its blocks in the format of SIZE, by rows or by columns (R173, R194). -/
def mwldSpan (f : MForm) : Nat :=
  let c := f.size.toNat
  let kc := kChunk (fmtClass c)
  if f.t then dataBytes c 128 kc else dataBytes c kc 128

/-- MWLD reads its blocks below the end of the window. -/
def mwldBad (g : Group) (f : MForm) : Bool :=
  f.space != 0 || laneAddrNeg g { f with vx := false } 0 ||
  decide (0xE00000 < (mwldBase g f).1 + mwldSpan f) || (mwldBase g f).1 % 1024 != 0

/-- The words that MWLD reads. -/
def mwldOffs (g : Group) (f : MForm) : List Nat :=
  let c := f.size.toNat
  let kc := kChunk (fmtClass c)
  (List.range 128).flatMap (fun n => (List.range kc).map (fun k =>
    if f.t then elemOff (mwldBase g f).1 c kc n k else elemOff (mwldBase g f).1 c 128 k n))

/-- The hold of MWLD for a page to be recovered. -/
def mwldHold (s : State) (t : Nat) (g : Group) (f : MForm) : Option State :=
  if mwldBad g f || (mwldBase g f).2 then none else focalHold s t 1 (mwldOffs g f) true false

/-- MWLD: the shadow takes a weight set of four blocks in the format of SIZE (R173). A weight set with a non-finite element
is counted (R106). A poisoned base loads zeros with the poison flag set (R161). -/
def opMwld (s : State) (t slot : Nat) (g : Group) (f : MForm) : State :=
  let base := mwldBase g f
  let s := usePoison s t slot g.pc (groupUse base.2)
  let c := f.size.toNat
  let kc := kChunk (fmtClass c)
  let put (s : State) (es : List (Nat × Bool)) : State :=
    keepGroup (setArr s t { getArr s t with shadow := some { fmt := c, rows := kc, elems := es } }) t slot (advance g)
  if base.2 then put s (List.replicate (128 * kc) (0, true))
  else if mwldBad g f then groupFault s t slot C.LANE_ADDRESS 0
  else
    let es := (List.range 128).flatMap (fun n => (List.range kc).map (fun k =>
      if f.t then elemAt s t base.1 c kc n k else elemAt s t base.1 c 128 k n))
    let bad := es.any (fun e => let v := decodeElem c e.1; isNan v || isInf v)
    let s := if bad then setB (incF s F.FIN_NAN_IN_COUNT t 1) F.FIN_STEP_NAN_IN t true else s
    put s es

/-- MWSW: the shadow becomes the active weight set for the MMAs after it. -/
def opMwsw (s : State) (t slot : Nat) (g : Group) (f : CForm) : State :=
  if cBad f then illegal s t slot
  else
    let a := getArr s t
    let s := match a.shadow with
      | some w => setArr s t { a with active := some w, shadow := none }
      | none => s
    keepGroup s t slot (advance g)

/-- Element `k` of row `r` of the activation fragment in vA (R174): its code and the mark of its lane. -/
def fragElem (g : Group) (va c r k : Nat) : Nat × Bool :=
  let at_ := k * elemBits c / 8
  let x := vGet g va (8 * r + at_ / 4)
  let v := bits x.v.toNat (8 * (at_ % 4)) (min 16 (max 8 (elemBits c)))
  (if c = 6 then (if k % 2 = 0 then v % 16 else v / 16 % 16) else v, x.poison)

/-- Column `n` of the active weight set as operand elements; MX scales are not applied on this path (R175). -/
def weightCol (w : WeightSet) (n : Nat) : List OpElem :=
  ((w.elems.drop (n * w.rows)).take w.rows).map (fun e => ⟨operandVal w.fmt e.1 none, e.1, e.2⟩)

/-- The fragment of one array computed into four registers from `d` (R174, R175): registers, and INT32 saturations. -/
def mmaArray (g0 : Group) (w : WeightSet) (af va arr d : Nat) (z : Bool) (acc : Group × Nat) : Group × Nat :=
  let kc := kChunk (pairClass af w.fmt)
  let int := af == 7 && w.fmt == 7
  (List.range 4).foldl (fun acc r =>
    let as := (List.range kc).map (fun k =>
      let e := fragElem g0 va af r k
      (⟨operandVal af e.1 none, e.1, e.2⟩ : OpElem))
    let rowPoison := (List.range 8).any (fun i => (vGet g0 va (8 * r + i)).poison)
    (activeLanes g0).foldl (fun acc n =>
      if 64 ≤ d + r then acc
      else
        let old := vGet g0 (d + r) n
        let e := passEntry int z (accEntry old.v old.poison) as (weightCol w (32 * arr + n))
        (vPut acc.1 (d + r) n ⟨e.1.v, e.1.poison || rowPoison⟩, acc.2 + e.2.toNat)) acc) acc

/-- The poison of an output row of a fragment product: that of the lanes of vA that hold its activations, and with the register
added to, that register's (R103, R175). -/
def fragPoison (g : Group) (va r : Nat) (z : Bool) (old : LaneVal) : Bool :=
  (List.range 8).any (fun i => (vGet g va (8 * (r % 4) + i)).poison) || (!z && old.poison)

/-- Registers whose value the spec does not state: the output of a fragment product with no weight set, without
ownership, or of a pair that R43 and R45 shut out (assumption 33). Their poison is that of the sources (R105). -/
def freeRegs (s : State) (t : Nat) (g0 : Group) (va d n : Nat) (z : Bool) : Group :=
  (List.range n).foldl (fun g r =>
    (activeLanes g).foldl (fun g l =>
      if 64 ≤ d + r then g
      else vPut g (d + r) l ⟨laneWord s t g0 (32 * r + l), fragPoison g0 va r z (vGet g0 (d + r) l)⟩) g) (drew g0)

/-- The pair of formats that the arrays accept (R43, R45). -/
def mmaPair (af wf : Nat) : Bool := af != 0 && wf != 0 && ((af == 7) == (wf == 7))

/-- The hold of a fragment product: it waits while the datapath is held (R71, R175). -/
def mmaHold (s : State) (t : Nat) : Option State := if dpRuns s t then none else some s

/-- MMA and MMA4: the fragments of the arrays named, into registers 4 apart. -/
def mmaOp (s : State) (t slot : Nat) (g : Group) (f : RForm) (arrs : List Nat) : State :=
  if rBad f || f.dS || f.aS then illegal s t slot
  else
    let a := getArr s t
    match a.active with
    | some w =>
      if a.owner = some slot ∧ mmaPair f.fmt.toNat w.fmt then
        let r := (arrs.zipIdx).foldl (fun acc x =>
          mmaArray g w f.fmt.toNat f.a.toNat x.1 (f.d.toNat + 4 * x.2) f.z acc) (g, 0)
        let kc := kChunk (pairClass f.fmt.toNat w.fmt)
        let bad := (List.range 4).any (fun i => (List.range kc).any (fun k =>
          let v := decodeElem f.fmt.toNat (fragElem g f.a.toNat f.fmt.toNat i k).1
          isNan v || isInf v))
        let s := if bad then setB (incF s F.FIN_NAN_IN_COUNT t 1) F.FIN_STEP_NAN_IN t true else s
        let s := if 0 < r.2 then setB (incF s F.FIN_SAT_COUNT t r.2) F.FIN_STEP_SAT_ANY t true else s
        keepGroup s t slot (advance r.1)
      else
        keepGroup s t slot (advance (freeRegs s t g f.a.toNat f.d.toNat (4 * arrs.length) f.z))
    | none => keepGroup s t slot (advance (freeRegs s t g f.a.toNat f.d.toNat (4 * arrs.length) f.z))

def opMma (s : State) (t slot : Nat) (g : Group) (f : RForm) : State := mmaOp s t slot g f [f.arr.toNat]
def opMma4 (s : State) (t slot : Nat) (g : Group) (f : RForm) : State := mmaOp s t slot g f [0, 1, 2, 3]

end Sys2Proof.Machine
end

