-- ==== Sys2Proof/Machine/LaneMem.lean ====
section
/-!
DEFINITION. Memory instructions of the lane unit (06, R156 to R161), the returns of its global accesses, fences, and the
start and end of tasks (R144 to R147).
-/
namespace Sys2Proof.Machine

/-! ## Loads -/

/-- The hold of a vector load or store in the focal window. -/
def vecHold (s : State) (t : Nat) (g : Group) (f : MForm) (store : Bool) : Option State :=
  if mBad f || f.size == 3 || f.space != 0 then none
  else
    match firstBad s g f (sizeBytes f.size.toNat) with
    | some _ => none
    | none => focalHold s t (sizeBytes f.size.toNat) ((laneOffs g f).map (·.2)) (!store) store

/-- The hold of a scalar load or store in the focal window. -/
def scalHold (s : State) (t : Nat) (g : Group) (f : MForm) (store : Bool) : Option State :=
  let f := { f with vx := false }
  let a := laneAddr g f 0
  if mBad f || f.space != 0 || a.2 || laneAddrNeg g f 0 || badAddr s 0 a.1 (sizeBytes f.size.toNat) then none
  else focalHold s t (sizeBytes f.size.toNat) [a.1] (!store) store

/-- Results of a load put into its destination: a lane of a vector register, or a scalar register; narrow loads
zero-extend (R183), and the flag follows the word (R105). -/
def loadPut (g : Group) (d lane : Nat) (scal : Bool) (bs : List Byte) (p : Bool) : Group :=
  if scal then sPut g d ⟨BitVec.ofNat 64 (leNat bs), p⟩ else vPut g d lane ⟨BitVec.ofNat 32 (leNat bs), p⟩

/-- The lines of a list of addresses, each once, in order. -/
def linesOf (as : List Nat) : List Nat :=
  as.foldl (fun ls a => let b := a / 256 * 256; if ls.contains b then ls else ls ++ [b]) []

/-- The band of a group's task. -/
def groupBand (s : State) (t : Nat) (g : Group) : Nat :=
  match findTask s t g.task with
  | some x => x.band
  | none => 0

/-- The lanes of a finished access filled from its lines. -/
def fillLanes (g : Group) (d : Nat) (scal : Bool) (size : Nat) (ls : List LcLine) (xs : List (Nat × Nat)) : Group :=
  xs.foldl (fun g x => let r := fromLines ls x.2 (sizeBytes size); loadPut g d x.1 scal r.1 r.2) g

/-- A global load: from the lane data cache when every line is there, else the missing lines are asked of their home
slices and the group leaves the active set (R148, R157). -/
def globalLoad (s : State) (t slot : Nat) (g : Group) (d size : Nat) (scal pref : Bool) (xs : List (Nat × Nat)) : State :=
  let bases := linesOf (xs.map (·.2))
  let l := getLane s t
  let hits := bases.filterMap (lcFind l)
  let miss := bases.filter (fun b => (lcFind l b).isNone)
  let s := incF (incF s F.LANE_HIT_COUNT t hits.length) F.LANE_MISS_COUNT t miss.length
  let s := setLane s t (hits.foldl lcPut (getLane s t))
  if miss.isEmpty then keepGroup s t slot (advance (if pref then g else fillLanes g d scal size hits xs))
  else
    let acc : LaneAccess := { slot := slot, reg := d, scalar := scal, size := size, lanes := xs, lines := miss, got := hits,
                              prefetch := pref }
    let l := getLane s t
    let s := setLane s t { l with accesses := l.accesses ++ [acc] }
    let s := submitLane s (miss.map (fun b => laneTxn t (groupBand s t g) .read b 256 [] [] (.laneLoad t slot)))
    if pref then
      let act := match getGroup s t slot with
        | some h => h.active
        | none => g.active
      keepGroup s t slot (advance { g with active := act })
    else leaveActive s t slot g .globalLoad

/-- A focal load of lanes. -/
def focalLoad (s : State) (t slot : Nat) (g : Group) (d size : Nat) (scal : Bool) (xs : List (Nat × Nat)) : State :=
  let r := xs.foldl (fun (acc : State × Group) x =>
    let v := focalRead acc.1 t x.2 (sizeBytes size)
    (v.1, loadPut acc.2 d x.1 scal v.2.1 v.2.2)) (s, g)
  keepGroup r.1 t slot (advance r.2)

/-- LD: a lane with a poisoned address gets 0 with the flag set (R161). -/
def opLd (s : State) (t slot : Nat) (g : Group) (f : MForm) : State :=
  if mBad f || f.size == 3 then illegal s t slot
  else
    let s := usePoison s t slot g.pc (poisonAddrs g f)
    match firstBad s g f (sizeBytes f.size.toNat) with
    | some l => groupFault s t slot C.LANE_ADDRESS l
    | none =>
      let g := (activeLanes g).foldl (fun h l => if (laneAddr g f l).2 then vPut h f.d.toNat l ⟨0, true⟩ else h) g
      if f.space = 0 then focalLoad s t slot g f.d.toNat f.size.toNat false (laneOffs g f)
      else globalLoad s t slot g f.d.toNat f.size.toNat false false (laneOffs g f)

/-- LDS: scalar load at SB + OFF. -/
def opLds (s : State) (t slot : Nat) (g : Group) (f : MForm) : State :=
  if mBad f || decide (32 ≤ f.d.toNat) then illegal s t slot
  else
    let f := { f with vx := false }
    let a := laneAddr g f 0
    let s := usePoison s t slot g.pc (groupUse a.2)
    if a.2 then keepGroup s t slot (advance (sPut g f.d.toNat ⟨0, true⟩))
    else if laneAddrNeg g f 0 || badAddr s f.space.toNat a.1 (sizeBytes f.size.toNat) then
      groupFault s t slot C.LANE_ADDRESS 0
    else if f.space = 0 then focalLoad s t slot g f.d.toNat f.size.toNat true [(0, a.1)]
    else globalLoad s t slot g f.d.toNat f.size.toNat true false [(0, a.1)]

/-- PREF: global lines into the lane data cache; a focal address has nothing to bring. -/
def opPref (s : State) (t slot : Nat) (g : Group) (f : MForm) : State :=
  if mBad f || f.size == 3 then illegal s t slot
  else
    let s := usePoison s t slot g.pc (poisonAddrs g f)
    match firstBad s g f (sizeBytes f.size.toNat) with
    | some l => groupFault s t slot C.LANE_ADDRESS l
    | none => if f.space = 0 then keepGroup s t slot (advance g)
        else globalLoad s t slot g 0 f.size.toNat false true (laneOffs g f)

/-! ## Stores -/

/-- A group with `n` more global stores on their way. -/
def moreStores (g : Group) (n : Nat) : Group := { g with stores := g.stores + n }

/-- ST: lanes in ascending order; a poisoned address stores nothing (R161). DESIGN CHOICE (assumption 110): each lane is a write of its own
bytes, so lanes that together cover a 32-byte word merge its mark as narrow writes do, and an old mark stays. -/
def opSt (s : State) (t slot : Nat) (g : Group) (f : MForm) : State :=
  if mBad f || f.size == 3 then illegal s t slot
  else
    let n := sizeBytes f.size.toNat
    let s := usePoison s t slot g.pc (poisonAddrs g f)
    match firstBad s g f n with
    | some l => groupFault s t slot C.LANE_ADDRESS l
    | none =>
      let xs := laneOffs g f
      let val (l : Nat) : LaneVal := vGet g f.d.toNat l
      if f.space = 0 then
        let s := xs.foldl (fun s x =>
          laneStore s t x.2 (leBytes (val x.1).v.toNat n) (val x.1).poison (f.size == 2)) s
        keepGroup s t slot (advance g)
      else
        let g := moreStores g xs.length
        let s := keepGroup s t slot (advance g)
        xs.foldl (fun s x => globalStore s t slot g x.2 (leBytes (val x.1).v.toNat n) (val x.1).poison (f.size == 2)) s

/-- STS: scalar store at SB + OFF. -/
def opSts (s : State) (t slot : Nat) (g : Group) (f : MForm) : State :=
  if mBad f || decide (32 ≤ f.d.toNat) then illegal s t slot
  else
    let f := { f with vx := false }
    let n := sizeBytes f.size.toNat
    let a := laneAddr g f 0
    let s := usePoison s t slot g.pc (groupUse a.2)
    let v := sGet g f.d.toNat
    if a.2 then keepGroup s t slot (advance g)
    else if laneAddrNeg g f 0 || badAddr s f.space.toNat a.1 n then groupFault s t slot C.LANE_ADDRESS 0
    else if f.space = 0 then keepGroup (laneStore s t a.1 (leBytes v.v.toNat n) v.poison false) t slot (advance g)
    else
      let g := moreStores g 1
      globalStore (keepGroup s t slot (advance g)) t slot g a.1 (leBytes v.v.toNat n) v.poison false

/-! ## Atomics (R160) -/

/-- An atomic in ascending lane order: each lane gets the value before its own update. -/
def atomOp (s : State) (t slot : Nat) (g : Group) (f : MForm) (fp : Bool) (upd : Nat → W32 → Option (W32 × Bool)) : State :=
  if sizeBad f then illegal s t slot
  else
    let s := usePoison s t slot g.pc (poisonAddrs g f)
    match focalBad s g f 4 with
    | some l => groupFault s t slot C.LANE_ADDRESS l
    | none =>
      let r := (laneOffs g f).foldl (fun (acc : State × Group) x =>
        let v := focalRead acc.1 t x.2 4
        let old := BitVec.ofNat 32 (leNat v.2.1)
        let s := match upd x.1 old with
          | some n => laneStore v.1 t x.2 (leBytes n.1.toNat 4) n.2 fp
          | none => v.1
        (s, vPut acc.2 f.d.toNat x.1 ⟨old, v.2.2⟩)) (s, g)
      keepGroup r.1 t slot (advance r.2)

/-- AADD: INT32 with wrapping, or FP32 to nearest even. -/
def opAadd (s : State) (t slot : Nat) (g : Group) (f : MForm) : State :=
  atomOp s t slot g f f.t (fun l old =>
    let d := vGet g f.d.toNat l
    some (if f.t then fAdd .rne old d.v else old + d.v, d.poison))

/-- AMAX: signed INT32, or FP32. -/
def opAmax (s : State) (t slot : Nat) (g : Group) (f : MForm) : State :=
  atomOp s t slot g f f.t (fun l old =>
    let d := vGet g f.d.toNat l
    some (if f.t then fMax old d.v else if old.slt d.v then d.v else old, d.poison))

/-- ACAS: when the word equals vD it becomes vD+1. Register v64 does not exist, and its value is free (assumption 34). -/
def opAcas (s : State) (t slot : Nat) (g : Group) (f : MForm) : State :=
  let last := f.d == 63
  atomOp s t slot (if last then drew g else g) f true (fun l old =>
    let d := vGet g f.d.toNat l
    let e := if last then (⟨laneWord s t g l, false⟩ : LaneVal) else vGet g (f.d.toNat + 1) l
    if old = d.v then some (e.v, d.poison || e.poison) else none)

/-! ## Fences (R158) -/

/-- The lane data cache of a tile is invalidated. -/
def dropLines (s : State) (t : Nat) : State := setLane s t { getLane s t with lines := [] }

def opFenceRelease (s : State) (t slot : Nat) (g : Group) (f : IForm) : State :=
  if iBad f then illegal s t slot
  else if g.stores = 0 then keepGroup s t slot (advance g)
  else keepGroup s t slot { g with wait := .release }

def opFenceAcquire (s : State) (t slot : Nat) (g : Group) (f : IForm) : State :=
  if iBad f then illegal s t slot else keepGroup (dropLines s t) t slot (advance g)

def opFenceFull (s : State) (t slot : Nat) (g : Group) (f : IForm) : State :=
  if iBad f then illegal s t slot
  else if g.stores = 0 then keepGroup (dropLines s t) t slot (advance g)
  else keepGroup s t slot { g with wait := .fullRelease }

/-! ## Returns -/

/-- A returned line goes to every access of the slot that waits for it. -/
def giveLine (slot : Nat) (x : LcLine) (as : List LaneAccess) : List LaneAccess :=
  as.map (fun a => if a.slot = slot ∧ a.lines.contains x.base then
      { a with lines := a.lines.filter (· != x.base), got := a.got ++ [x] } else a)

/-- GLOBAL_LOAD_RETURN: lines that have returned for a group fill the cache where the task allocates or the access is a
prefetch, and a load whose last line has come completes (R157, R148). DESIGN CHOICE (assumption 111): PREF allocates its line even where
the task's CACHE bit is 0. -/
def loadReturn (s : State) (t slot : Nat) : State :=
  let mine := s.deep.done.filter (fun e => e.1.owner == .laneLoad t slot)
  match mine with
  | [] => s
  | _ =>
    let s := { s with deep := { s.deep with done := s.deep.done.filter (fun e => e.1.owner != .laneLoad t slot) } }
    match getGroup s t slot with
    | none => s
    | some g =>
      let alloc := match findTask s t g.task with
        | some x => x.cache
        | none => false
      let l := getLane s t
      let l := mine.foldl (fun l e =>
        let x : LcLine := ⟨e.1.addr, e.2.1, e.2.2⟩
        let pf := l.accesses.any (fun a => a.slot == slot && a.prefetch && a.lines.contains x.base)
        let l := if alloc || pf then lcPut l x else l
        { l with accesses := giveLine slot x l.accesses }) l
      let ready := l.accesses.filter (fun a => a.slot == slot && !a.prefetch && a.lines.isEmpty)
      let s := setLane s t { l with accesses := l.accesses.filter (fun a => !(a.slot == slot && a.lines.isEmpty)) }
      match ready with
      | [] => s
      | a :: _ => wake s t slot (fillLanes g a.reg a.scalar a.size a.got a.lanes)

/-- GLOBAL_STORE_ACCEPTED: a store of a group is accepted at its home slice (R147, R158). -/
def storeAccepted (s : State) (t slot : Nat) : State :=
  let mine (e : Txn × List Byte × List Bool) : Bool := match e.1.owner with
    | .laneStore u i _ => u == t && i == slot
    | _ => false
  match s.deep.done.find? mine with
  | none => s
  | some e =>
    let s := { s with deep := { s.deep with done := s.deep.done.filter (fun x => x.1.id != e.1.id) } }
    let task := match e.1.owner with
      | .laneStore _ _ k => k
      | _ => 0
    let s := match findTask s t task with
      | some x => putTask s t { x with stores := x.stores - 1 }
      | none => s
    match getGroup s t slot with
    | none => s
    | some g =>
      if g.task = task then
        let g := { g with stores := g.stores - 1 }
        if g.stores = 0 then
          match g.wait with
          | .release => wake s t slot g
          | .fullRelease => wake (dropLines s t) t slot g
          | _ => keepGroup s t slot g
        else keepGroup s t slot g
      else s

/-! ## Tasks (R144 to R147) -/

/-- The free group slots of a tile. -/
def freeSlots (s : State) (t : Nat) : List Nat := lanes.filter (fun i => (getGroup s t i).isNone)

/-- A group at its start (R146). -/
def startGroup (s : State) (t : Nat) (x : Task) (i : Nat) : Group :=
  let sreg := (List.range 30).foldl (fun (m : NMap ScalVal) r =>
    let b := readBytes s (focalAddr t (x.args + 8 * r)) 8
    mput natLt m (r + 2) ⟨BitVec.ofNat 64 (leNat b.1), b.2.any id⟩ {}) []
  let sreg := mput natLt (mput natLt sreg 0 ⟨BitVec.ofNat 64 i, false⟩ {}) 1 ⟨BitVec.ofNat 64 x.groups, false⟩ {}
  let vreg := lanes.foldl (fun (m : PMap LaneVal) l => mput pairLt m (0, l) ⟨BitVec.ofNat 32 l, false⟩ {}) []
  { task := x.id, index := i, pc := x.code, mask := 0xFFFFFFFF, exited := 0, stack := [], vreg := vreg,
    sreg := sreg.map (fun e => (e.1, { e.2 with poison := false })), locks := [], lockStart := none, wait := .none,
    active := false, since := s.clk.laneCyc, barStart := [], stores := 0, halted := false }

/-- TASK_RESIDENT: the first task of a tile that waits for slots becomes resident when enough are free (R145 to R147). -/
def taskResident (s : State) (t : Nat) : State :=
  match (getLane s t).tasks.find? (fun x => !x.resident) with
  | none => s
  | some x =>
    let fs := freeSlots s t
    if fs.length < x.groups || paused s then s
    else
      let use := fs.take x.groups
      let s := noteFocal s (focalAddr t x.args / 32 * 32) 8
      let s := dropLines (putTask s t { x with resident := true, slots := use }) t
      let s := (use.zipIdx).foldl (fun s e => putGroup s t e.1 (some (startGroup s t x e.2))) s
      refill s t 4

/-- TASK_END: a task whose groups have ended and whose stores are accepted ends (R147). -/
def taskEnd (s : State) (t id : Nat) : State :=
  match findTask s t id with
  | none => s
  | some x =>
    if x.resident ∧ taskSlots s t id = [] ∧ x.stores = 0 then finishTask s t x false else s

/-! ## Instruction words (R183, R184) -/

/-- The R format of a word. -/
def rForm (w : W64) : RForm :=
  ⟨w.extractLsb' 8 6, w.extractLsb' 14 6, w.extractLsb' 20 6, w.extractLsb' 26 6, w.getLsbD 32, w.getLsbD 33, w.getLsbD 34,
   w.getLsbD 35, w.extractLsb' 36 3, w.extractLsb' 39 2, w.extractLsb' 41 4, w.extractLsb' 45 2, w.getLsbD 47⟩

/-- The I format of a word. -/
def iForm (w : W64) : IForm := ⟨w.extractLsb' 8 6, w.extractLsb' 14 6, w.getLsbD 20, w.getLsbD 21, w.extractLsb' 32 32⟩

/-- The M format of a word. -/
def mForm (w : W64) : MForm :=
  ⟨w.extractLsb' 8 6, w.extractLsb' 14 5, w.extractLsb' 19 6, w.getLsbD 25, w.extractLsb' 26 2, w.extractLsb' 28 3,
   w.getLsbD 31, w.extractLsb' 32 32⟩

/-- The C format of a word. -/
def cForm (w : W64) : CForm := ⟨w.extractLsb' 8 6, w.getLsbD 14, w.extractLsb' 32 16, w.extractLsb' 48 16⟩

/-- Reserved bits of the formats are 0. -/
def rWordOk (w : W64) : Bool := w.extractLsb' 48 16 == 0 && !rBad (rForm w)
def iWordOk (w : W64) : Bool := w.extractLsb' 22 10 == 0 && !iBad (iForm w)
def mWordOk (w : W64) : Bool := !mBad (mForm w)
def cWordOk (w : W64) : Bool := w.extractLsb' 15 17 == 0 && !cBad (cForm w)

end Sys2Proof.Machine
end

