-- ==== Sys2Proof/Machine/LaneIssue.lean ====
section
/-!
DEFINITION. The issue of lane instructions (06): the decoding of an instruction word (R183, R184), what keeps an instruction from
issuing (R66, R71, R120, R291), ports, dual issue and the order of groups (R150), and latencies (R151).
-/
namespace Sys2Proof.Machine

/-- An instruction word read as the lane instruction of a tile and slot; none where the word is reserved. -/
def decodeLane (t slot : Nat) (w : W64) : Option Instr :=
  match w.toNat % 256 with
  | 0x00 => if iWordOk w then some (.nop t slot (iForm w)) else none
  | 0x01 => if cWordOk w then some (.exit t slot (cForm w)) else none
  | 0x02 => if cWordOk w then some (.bra t slot (cForm w)) else none
  | 0x03 => if cWordOk w && decide ((cForm w).c.toNat < 32) then some (.brs t slot (cForm w)) else none
  | 0x04 => if cWordOk w then some (.yield t slot (cForm w)) else none
  | 0x05 => if iWordOk w && decide ((iForm w).imm.toNat < 5) && decide ((iForm w).d.toNat < 32) then some (.rdsr t slot (iForm w)) else none
  | 0x08 => if cWordOk w then some (.push t slot (cForm w)) else none
  | 0x09 => if cWordOk w then some (.brk t slot (cForm w)) else none
  | 0x0A => if cWordOk w then some (.rcv t slot (cForm w)) else none
  | 0x0B => if cWordOk w then some (.pop t slot (cForm w)) else none
  | 0x0C => if rWordOk w && decide ((rForm w).d.toNat < 32) then some (.any t slot (rForm w)) else none
  | 0x0D => if rWordOk w && decide ((rForm w).d.toNat < 32) then some (.all t slot (rForm w)) else none
  | 0x0E => if rWordOk w && decide ((rForm w).d.toNat < 32) then some (.mask t slot (rForm w)) else none
  | 0x10 => if mWordOk w && (mForm w).size != 3 then some (.take t slot (mForm w)) else none
  | 0x11 => if mWordOk w && (mForm w).size != 3 then some (.give t slot (mForm w)) else none
  | 0x14 => if iWordOk w && decide ((iForm w).imm.toNat < 4) then some (.barg t slot (iForm w)) else none
  | 0x15 => if iWordOk w && decide ((iForm w).imm.toNat < 8) then some (.bart t slot (iForm w)) else none
  | 0x16 => if iWordOk w && decide ((iForm w).imm.toNat < 64) then some (.barn t slot (iForm w)) else none
  | 0x18 => if cWordOk w then some (.macq t slot (cForm w)) else none
  | 0x19 => if cWordOk w then some (.mrel t slot (cForm w)) else none
  | 0x1A => some (.mwld t slot (mForm w))
  | 0x1B => if cWordOk w then some (.mwsw t slot (cForm w)) else none
  | 0x1C => if rWordOk w && !(rForm w).dS && !(rForm w).aS then some (.mma t slot (rForm w)) else none
  | 0x1D => if rWordOk w && !(rForm w).dS && !(rForm w).aS then some (.mma4 t slot (rForm w)) else none
  | 0x20 => if mWordOk w && (mForm w).size != 3 then some (.ld t slot (mForm w)) else none
  | 0x21 => if mWordOk w && (mForm w).size != 3 then some (.st t slot (mForm w)) else none
  | 0x22 => if mWordOk w && decide ((mForm w).d.toNat < 32) then some (.lds t slot (mForm w)) else none
  | 0x23 => if mWordOk w && decide ((mForm w).d.toNat < 32) then some (.sts t slot (mForm w)) else none
  | 0x24 => if mWordOk w && (mForm w).size != 3 then some (.aadd t slot (mForm w)) else none
  | 0x25 => if mWordOk w && (mForm w).size != 3 then some (.amax t slot (mForm w)) else none
  | 0x26 => if mWordOk w && (mForm w).size != 3 then some (.acas t slot (mForm w)) else none
  | 0x27 =>
    if iWordOk w then
      match (iForm w).imm.toNat with
      | 0 => some (.fenceRelease t slot (iForm w))
      | 1 => some (.fenceAcquire t slot (iForm w))
      | 2 => some (.fenceFull t slot (iForm w))
      | _ => none
    else none
  | 0x28 => if mWordOk w && (mForm w).size != 3 then some (.pref t slot (mForm w)) else none
  | 0x40 => if rWordOk w then some (.fadd t slot (rForm w)) else none
  | 0x41 => if rWordOk w then some (.fsub t slot (rForm w)) else none
  | 0x42 => if rWordOk w then some (.fmul t slot (rForm w)) else none
  | 0x43 => if rWordOk w then some (.ffma t slot (rForm w)) else none
  | 0x44 => if rWordOk w then some (.fmin t slot (rForm w)) else none
  | 0x45 => if rWordOk w then some (.fmax t slot (rForm w)) else none
  | 0x46 => if rWordOk w && (rForm w).cc != 7 then some (.fcmp t slot (rForm w)) else none
  | 0x47 => if rWordOk w then some (.frcp t slot (rForm w)) else none
  | 0x48 => if rWordOk w then some (.frsq t slot (rForm w)) else none
  | 0x49 => if rWordOk w then some (.fexp2 t slot (rForm w)) else none
  | 0x4A => if rWordOk w then some (.flog2 t slot (rForm w)) else none
  | 0x4B => if rWordOk w then some (.fdiv t slot (rForm w)) else none
  | 0x50 => if rWordOk w then some (.cvtf t slot (rForm w)) else none
  | 0x51 => if rWordOk w then some (.cvtn t slot (rForm w)) else none
  | 0x52 => if rWordOk w then some (.i2f t slot (rForm w)) else none
  | 0x53 => if rWordOk w then some (.f2i t slot (rForm w)) else none
  | 0x60 => if rWordOk w then some (.iadd t slot (rForm w)) else none
  | 0x61 => if rWordOk w then some (.isub t slot (rForm w)) else none
  | 0x62 => if rWordOk w then some (.imul t slot (rForm w)) else none
  | 0x63 => if rWordOk w then some (.imad t slot (rForm w)) else none
  | 0x64 => if rWordOk w then some (.and t slot (rForm w)) else none
  | 0x65 => if rWordOk w then some (.or t slot (rForm w)) else none
  | 0x66 => if rWordOk w then some (.xor t slot (rForm w)) else none
  | 0x67 => if rWordOk w then some (.shl t slot (rForm w)) else none
  | 0x68 => if rWordOk w then some (.shr t slot (rForm w)) else none
  | 0x69 => if rWordOk w then some (.sar t slot (rForm w)) else none
  | 0x6A => if rWordOk w then some (.imin t slot (rForm w)) else none
  | 0x6B => if rWordOk w then some (.imax t slot (rForm w)) else none
  | 0x6C => if rWordOk w && (rForm w).cc != 6 then some (.icmp t slot (rForm w)) else none
  | 0x6D => if rWordOk w then some (.sel t slot (rForm w)) else none
  | 0x6E => if rWordOk w then some (.mov t slot (rForm w)) else none
  | 0x6F => if iWordOk w then some (.movi t slot (iForm w)) else none
  | 0x70 => if rWordOk w then some (.shfl t slot (rForm w)) else none
  | 0x80 => if rWordOk w && decide ((rForm w).d.toNat < 32) && decide ((rForm w).a.toNat < 32) && decide ((rForm w).b.toNat < 32) then some (.sadd t slot (rForm w)) else none
  | 0x81 => if rWordOk w && decide ((rForm w).d.toNat < 32) && decide ((rForm w).a.toNat < 32) && decide ((rForm w).b.toNat < 32) then some (.ssub t slot (rForm w)) else none
  | 0x82 => if rWordOk w && decide ((rForm w).d.toNat < 32) && decide ((rForm w).a.toNat < 32) && decide ((rForm w).b.toNat < 32) then some (.smul t slot (rForm w)) else none
  | 0x83 => if rWordOk w && decide ((rForm w).d.toNat < 32) && decide ((rForm w).a.toNat < 32) && decide ((rForm w).b.toNat < 32) then some (.sand t slot (rForm w)) else none
  | 0x84 => if rWordOk w && decide ((rForm w).d.toNat < 32) && decide ((rForm w).a.toNat < 32) && decide ((rForm w).b.toNat < 32) then some (.sor t slot (rForm w)) else none
  | 0x85 => if rWordOk w && decide ((rForm w).d.toNat < 32) && decide ((rForm w).a.toNat < 32) && decide ((rForm w).b.toNat < 32) then some (.sxor t slot (rForm w)) else none
  | 0x86 => if rWordOk w && decide ((rForm w).d.toNat < 32) && decide ((rForm w).a.toNat < 32) && decide ((rForm w).b.toNat < 32) then some (.sshl t slot (rForm w)) else none
  | 0x87 => if rWordOk w && decide ((rForm w).d.toNat < 32) && decide ((rForm w).a.toNat < 32) && decide ((rForm w).b.toNat < 32) then some (.sshr t slot (rForm w)) else none
  | 0x88 => if rWordOk w && decide ((rForm w).d.toNat < 32) && decide ((rForm w).a.toNat < 32) && decide ((rForm w).b.toNat < 32) then some (.ssar t slot (rForm w)) else none
  | 0x89 => if rWordOk w && decide ((rForm w).d.toNat < 32) && decide ((rForm w).a.toNat < 32) && decide ((rForm w).b.toNat < 32) then some (.smin t slot (rForm w)) else none
  | 0x8A => if rWordOk w && decide ((rForm w).d.toNat < 32) && decide ((rForm w).a.toNat < 32) && decide ((rForm w).b.toNat < 32) then some (.smax t slot (rForm w)) else none
  | 0x8B => if rWordOk w && decide ((rForm w).d.toNat < 32) && decide ((rForm w).a.toNat < 32) && decide ((rForm w).b.toNat < 32) && (rForm w).cc != 6 then some (.scmp t slot (rForm w)) else none
  | 0x8C => if rWordOk w && decide ((rForm w).d.toNat < 32) && decide ((rForm w).a.toNat < 32) then some (.smov t slot (rForm w)) else none
  | 0x8D => if iWordOk w && decide ((iForm w).d.toNat < 32) then some (.smovi t slot (iForm w)) else none
  | _ => none

/-- The fetch of the next instruction of a group: eight bytes of its tile's window. -/
def fetchLane (s : State) (t pc : Nat) : W64 := BitVec.ofNat 64 (leNat (readBytes s (focalAddr t pc) 8).1)

/-- What a lane instruction must wait for before it issues: the state answered starts a recovery where the wait is for one. -/
def instrHold (i : Instr) (s : State) (g : Group) : Option State :=
  match i with
  | .take t _ f => atomHold s t g f
  | .give t _ f => atomHold s t g f
  | .mwld t _ f => mwldHold s t g f
  | .ld t _ f => vecHold s t g f false
  | .st t _ f => vecHold s t g f true
  | .lds t _ f => scalHold s t g f false
  | .sts t _ f => scalHold s t g f true
  | .aadd t _ f => atomHold s t g f
  | .amax t _ f => atomHold s t g f
  | .acas t _ f => atomHold s t g f
  | _ => none

/-- The tile whose arrays a fragment product works on. -/
def mmaTile (i : Instr) : Option Nat :=
  match i with
  | .mma t _ _ => some t
  | .mma4 t _ _ => some t
  | _ => none

/-- The same for an instruction that issues by itself: a fragment product waits while the datapath is held (R71, R175). -/
def issueHold (i : Instr) (s : State) (g : Group) : Option State :=
  match mmaTile i with
  | some t => mmaHold s t
  | none => instrHold i s g

/-! ## Ports, registers and latencies (R150, R151, Table: Opcodes, Table: Lane latencies) -/

/-- The number of a register: v0 to v63 are 0 to 63, s0 to s31 are 64 to 95. -/
def regNo (r : BitVec 6) (scal : Bool) : Nat := if scal then 64 + r.toNat % 32 else r.toNat

/-- The first `n` source registers of an R form. -/
def srcs (f : RForm) (n : Nat) : List Nat := [regNo f.a f.aS, regNo f.b f.bS, regNo f.c f.cS].take n

/-- A vector instruction of `n` sources on both ports, or on X alone. -/
def vecIssue (f : RForm) (n latency : Nat) (y : Bool) (kind every : Nat) : Issue :=
  { x := true, y := y, reads := srcs f n, writes := [regNo f.d f.dS], latency := latency, kind := kind, every := every }

/-- A scalar instruction of `n` sources: port Y. -/
def scalIssue (f : RForm) (n : Nat) : Issue :=
  { x := false, y := true, reads := ([64 + f.a.toNat % 32, 64 + f.b.toNat % 32]).take n, writes := [64 + f.d.toNat % 32], latency := 2 }

/-- ANY, ALL and MASK: mask instructions with a scalar destination. -/
def maskIssue (f : RForm) (n : Nat) : Issue :=
  { x := false, y := true, ctl := true, reads := srcs f n, writes := [64 + f.d.toNat % 32], latency := 2 }

/-- A control, mask, lock or barrier instruction without registers of its own. -/
def ctlIssue (reads : List Nat) : Issue := { x := false, y := true, ctl := true, reads := reads }

/-- The registers of an M form's address. -/
def addrRegs (f : MForm) : List Nat := (64 + f.sb.toNat) :: (if f.vx then [f.vi.toNat] else [])

/-- A memory, lock or atomic instruction: port Y. A load of the focal window has its latency, and one of the lane data cache its own. -/
def memIssue (f : MForm) (data writes : List Nat) : Issue :=
  { x := false, y := true, ctl := true, reads := addrRegs f ++ data, writes := writes,
    latency := if f.space = 0 then 16 else 10 }

/-- A fragment product: port X, four or sixteen registers from D, added to without Z. -/
def mmaIssue (f : RForm) (n every : Nat) : Issue :=
  let ds := (List.range n).map (· + f.d.toNat)
  { x := true, y := false, reads := [f.a.toNat], writes := ds, adds := if f.z then [] else ds, latency := 16, kind := 3, every := every }

/-- What the issue rules need of an instruction. DESIGN CHOICE (assumption 112): an instruction of Table: Lane latencies' classes has that
latency; MASK, ANY, ALL and RDSR that of scalar arithmetic; every other 1 cycle. -/
def issueOf (i : Instr) : Issue :=
  match i with
  | .nop _ _ _ => { x := true, y := true }
  | .movi _ _ f => { x := true, y := true, writes := [regNo f.d f.dS], latency := 2 }
  | .smovi _ _ f => { x := false, y := true, writes := [64 + f.d.toNat % 32], latency := 2 }
  | .rdsr _ _ f => { x := false, y := true, ctl := true, writes := [64 + f.d.toNat % 32], latency := 2 }
  | .brs _ _ f => ctlIssue [64 + f.c.toNat % 32]
  | .push _ _ f => ctlIssue [regNo f.c f.cS]
  | .brk _ _ f => ctlIssue [regNo f.c f.cS]
  | .any _ _ f => maskIssue f 1
  | .all _ _ f => maskIssue f 1
  | .mask _ _ f => maskIssue f 0
  | .take _ _ f => memIssue { f with space := 0 } [] [f.d.toNat]
  | .give _ _ f => memIssue f [] []
  | .mwld _ _ f => memIssue { f with vx := false } [] []
  | .mma _ _ f => mmaIssue f 4 1
  | .mma4 _ _ f => mmaIssue f 16 4
  | .ld _ _ f => memIssue f [] [f.d.toNat]
  | .st _ _ f => memIssue f [f.d.toNat] []
  | .lds _ _ f => memIssue { f with vx := false } [] [64 + f.d.toNat % 32]
  | .sts _ _ f => memIssue { f with vx := false } [64 + f.d.toNat % 32] []
  | .aadd _ _ f => memIssue { f with space := 0 } [f.d.toNat] [f.d.toNat]
  | .amax _ _ f => memIssue { f with space := 0 } [f.d.toNat] [f.d.toNat]
  | .acas _ _ f => memIssue { f with space := 0 } (if f.d = 63 then [63] else [f.d.toNat, f.d.toNat + 1]) [f.d.toNat]
  | .pref _ _ f => memIssue f [] []
  | .fadd _ _ f => vecIssue f 2 4 true 0 1
  | .fsub _ _ f => vecIssue f 2 4 true 0 1
  | .fmul _ _ f => vecIssue f 2 4 true 0 1
  | .ffma _ _ f => vecIssue f 3 4 true 0 1
  | .fmin _ _ f => vecIssue f 2 4 true 0 1
  | .fmax _ _ f => vecIssue f 2 4 true 0 1
  | .fcmp _ _ f => vecIssue f 2 2 true 0 1
  | .frcp _ _ f => vecIssue f 1 12 false 1 4
  | .frsq _ _ f => vecIssue f 1 12 false 1 4
  | .fexp2 _ _ f => vecIssue f 1 12 false 1 4
  | .flog2 _ _ f => vecIssue f 1 12 false 1 4
  | .fdiv _ _ f => vecIssue f 2 24 false 2 16
  | .cvtf _ _ f => vecIssue f 1 4 false 0 1
  | .cvtn _ _ f => vecIssue f (if f.rnd = 2 then 3 else 1) 4 false 0 1
  | .i2f _ _ f => vecIssue f 1 4 false 0 1
  | .f2i _ _ f => vecIssue f 1 4 false 0 1
  | .imad _ _ f => vecIssue f 3 2 true 0 1
  | .sel _ _ f => vecIssue f 3 2 true 0 1
  | .mov _ _ f => vecIssue f 1 2 true 0 1
  | .shfl _ _ f => vecIssue f 2 4 false 0 1
  | .iadd _ _ f => vecIssue f 2 2 true 0 1
  | .isub _ _ f => vecIssue f 2 2 true 0 1
  | .imul _ _ f => vecIssue f 2 2 true 0 1
  | .and _ _ f => vecIssue f 2 2 true 0 1
  | .or _ _ f => vecIssue f 2 2 true 0 1
  | .xor _ _ f => vecIssue f 2 2 true 0 1
  | .shl _ _ f => vecIssue f 2 2 true 0 1
  | .shr _ _ f => vecIssue f 2 2 true 0 1
  | .sar _ _ f => vecIssue f 2 2 true 0 1
  | .imin _ _ f => vecIssue f 2 2 true 0 1
  | .imax _ _ f => vecIssue f 2 2 true 0 1
  | .icmp _ _ f => vecIssue f 2 2 true 0 1
  | .sadd _ _ f => scalIssue f 2
  | .ssub _ _ f => scalIssue f 2
  | .smul _ _ f => scalIssue f 2
  | .sand _ _ f => scalIssue f 2
  | .sor _ _ f => scalIssue f 2
  | .sxor _ _ f => scalIssue f 2
  | .sshl _ _ f => scalIssue f 2
  | .sshr _ _ f => scalIssue f 2
  | .ssar _ _ f => scalIssue f 2
  | .smin _ _ f => scalIssue f 2
  | .smax _ _ f => scalIssue f 2
  | .scmp _ _ f => scalIssue f 2
  | .smov _ _ f => scalIssue f 1
  | _ => ctlIssue []

/-! ## Which instruction issues (R150, R151) -/

/-- The instructions that a tile has issued in the lane cycle under way. -/
def issuesNow (s : State) (t : Nat) : List Issued :=
  let l := getLane s t
  if l.issueCyc = s.clk.laneCyc then l.issues else []

/-- One more instruction finds a port: at most one goes to each (R150). -/
def portsFit (now : List Issued) (k : Issue) : Bool :=
  match now with
  | [] => true
  | [j] => (j.k.x && k.y) || (j.k.y && k.x)
  | _ => false

/-- An instruction may issue in one cycle with an earlier one of its own group (R150). -/
def pairs (j : Issued) (pc : Nat) (k : Issue) : Bool :=
  decide (pc = j.pc + 8) && !(j.k.ctl && k.ctl) &&
    !((k.reads ++ k.writes ++ k.adds).any (fun r => j.k.writes.contains r))

/-- The sources of an instruction of a slot are ready (R151). Products of fragments into the same registers do not wait on one another
(R175). -/
def sourcesReady (s : State) (t slot : Nat) (k : Issue) : Bool :=
  (getLane s t).late.all (fun r => r.slot != slot || decide (r.at_ ≤ s.clk.laneCyc) ||
    !(k.reads.contains r.reg || (k.adds.contains r.reg && !r.frag)))

/-- An instruction of a group finds a port, its partner, its sources and its unit (R150, R151). -/
def fits (s : State) (t slot : Nat) (g : Group) (k : Issue) : Bool :=
  portsFit (issuesNow s t) k && (issuesNow s t).all (fun j => j.slot != slot || pairs j g.pc k) && sourcesReady s t slot k &&
    decide (mget (getLane s t).unitFree k.kind 0 ≤ s.clk.laneCyc)

/-- A decoded instruction of a group could issue now; the fault of a reserved word could. -/
def instrCould (s : State) (t slot : Nat) (g : Group) : Option Instr → Bool
  | none => true
  | some i => (issueHold i s g).isNone && fits s t slot g (issueOf i)

/-- The next instruction of a group could issue now: that at its address in the code. -/
def couldIssue (s : State) (t slot : Nat) (g : Group) : Bool := instrCould s t slot g (decodeLane t slot (fetchLane s t g.pc))

/-- Among the groups that could issue, the one that issued least recently goes first; a group that has issued in this cycle may issue its
second instruction (R150). -/
def goesFirst (s : State) (t slot : Nat) : Bool :=
  let last (i : Nat) : Nat := mget (getLane s t).last i 0
  (issuesNow s t).any (fun j => j.slot == slot) ||
  (List.range 32).all (fun i => decide (last slot ≤ last i) || (match runnable s t i with
    | some g => !couldIssue s t i g
    | none => true))

/-- The issue rules let an instruction of a runnable group issue (R150, R151). -/
def issueOk (s : State) (t slot : Nat) (g : Group) (k : Issue) : Bool := fits s t slot g k && goesFirst s t slot

/-- The count of an issued instruction (LANE_ISSUE, and LANE_DUAL for the second of a cycle) and what the issue rules keep of it. -/
def noteIssue (s : State) (t slot pc : Nat) (k : Issue) : State :=
  let now := issuesNow s t
  let s := incF s F.LANE_ISSUE_COUNT t 1
  let s := if now.length = 1 then incF s F.LANE_DUAL_COUNT t 1 else s
  let l := getLane s t
  let c := s.clk.laneCyc
  setLane s t { l with
    issueCyc := c
    issues := now ++ [⟨slot, pc, k⟩]
    last := mput natLt l.last slot (c + 1) 0
    late := (l.late.filter (fun r => decide (c < r.at_) && !(r.slot == slot && k.writes.contains r.reg))) ++
      k.writes.map (fun r => ⟨slot, r, c + k.latency, k.kind == 3⟩)
    unitFree := if k.kind = 0 then l.unitFree else mput natLt l.unitFree k.kind (c + k.every) 0 }

/-- A lane instruction issues: the group picked, the count of instructions raised, the action done. A group that cannot issue, an
instruction that the issue rules do not let issue in this cycle and one that must be held leave their group where it is. -/
def laneRun (i : Instr) (t slot : Nat) (s : State) (act : State → Group → State) : State :=
  match runnable s t slot with
  | none => s
  | some g =>
    match issueHold i s g with
    | some s' => s'
    | none => if issueOk s t slot g (issueOf i) then act (noteIssue s t slot g.pc (issueOf i)) g else s

end Sys2Proof.Machine
end

