-- ==== Sys2Proof/Machine/Lane.lean ====
section
/-!
DEFINITION. The lane instructions of Table: Opcodes (06): the action of a decoded instruction on a group, and the meaning of each row.
-/
namespace Sys2Proof.Machine

/-- The action of a lane instruction on a group that has been picked for issue. -/
def laneBody (i : Instr) (s : State) (g : Group) : State :=
  match i with
  | .nop t slot f => opNop s t slot g f
  | .exit t slot f => opExit s t slot g f
  | .bra t slot f => opBra s t slot g f
  | .brs t slot f => opBrs s t slot g f
  | .yield t slot f => opYield s t slot g f
  | .rdsr t slot f => opRdsr s t slot g f
  | .push t slot f => opPush s t slot g f
  | .brk t slot f => opBrk s t slot g f
  | .rcv t slot f => opRcv s t slot g f
  | .pop t slot f => opPop s t slot g f
  | .any t slot f => opAny s t slot g f
  | .all t slot f => opAll s t slot g f
  | .mask t slot f => opMask s t slot g f
  | .take t slot f => opTake s t slot g f
  | .give t slot f => opGive s t slot g f
  | .barg t slot f => opBarg s t slot g f
  | .bart t slot f => opBart s t slot g f
  | .barn t slot f => opBarn s t slot g f
  | .macq t slot f => opMacq s t slot g f
  | .mrel t slot f => opMrel s t slot g f
  | .mwld t slot f => opMwld s t slot g f
  | .mwsw t slot f => opMwsw s t slot g f
  | .mma t slot f => opMma s t slot g f
  | .mma4 t slot f => opMma4 s t slot g f
  | .ld t slot f => opLd s t slot g f
  | .st t slot f => opSt s t slot g f
  | .lds t slot f => opLds s t slot g f
  | .sts t slot f => opSts s t slot g f
  | .aadd t slot f => opAadd s t slot g f
  | .amax t slot f => opAmax s t slot g f
  | .acas t slot f => opAcas s t slot g f
  | .fenceRelease t slot f => opFenceRelease s t slot g f
  | .fenceAcquire t slot f => opFenceAcquire s t slot g f
  | .fenceFull t slot f => opFenceFull s t slot g f
  | .pref t slot f => opPref s t slot g f
  | .fadd t slot f => opFadd s t slot g f
  | .fsub t slot f => opFsub s t slot g f
  | .fmul t slot f => opFmul s t slot g f
  | .ffma t slot f => opFfma s t slot g f
  | .fmin t slot f => opFmin s t slot g f
  | .fmax t slot f => opFmax s t slot g f
  | .fcmp t slot f => opFcmp s t slot g f
  | .frcp t slot f => opFrcp s t slot g f
  | .frsq t slot f => opFrsq s t slot g f
  | .fexp2 t slot f => opFexp2 s t slot g f
  | .flog2 t slot f => opFlog2 s t slot g f
  | .fdiv t slot f => opFdiv s t slot g f
  | .cvtf t slot f => opCvtf s t slot g f
  | .cvtn t slot f => opCvtn s t slot g f
  | .i2f t slot f => opI2f s t slot g f
  | .f2i t slot f => opF2i s t slot g f
  | .iadd t slot f => opIadd s t slot g f
  | .isub t slot f => opIsub s t slot g f
  | .imul t slot f => opImul s t slot g f
  | .imad t slot f => opImad s t slot g f
  | .and t slot f => opAnd s t slot g f
  | .or t slot f => opOr s t slot g f
  | .xor t slot f => opXor s t slot g f
  | .shl t slot f => opShl s t slot g f
  | .shr t slot f => opShr s t slot g f
  | .sar t slot f => opSar s t slot g f
  | .imin t slot f => opImin s t slot g f
  | .imax t slot f => opImax s t slot g f
  | .icmp t slot f => opIcmp s t slot g f
  | .sel t slot f => opSel s t slot g f
  | .mov t slot f => opMov s t slot g f
  | .movi t slot f => opMovi s t slot g f
  | .shfl t slot f => opShfl s t slot g f
  | .sadd t slot f => opSadd s t slot g f
  | .ssub t slot f => opSsub s t slot g f
  | .smul t slot f => opSmul s t slot g f
  | .sand t slot f => opSand s t slot g f
  | .sor t slot f => opSor s t slot g f
  | .sxor t slot f => opSxor s t slot g f
  | .sshl t slot f => opSshl s t slot g f
  | .sshr t slot f => opSshr s t slot g f
  | .ssar t slot f => opSsar s t slot g f
  | .smin t slot f => opSmin s t slot g f
  | .smax t slot f => opSmax s t slot g f
  | .scmp t slot f => opScmp s t slot g f
  | .smov t slot f => opSmov s t slot g f
  | .smovi t slot f => opSmovi s t slot g f
  | _ => s

/-! ## The rows -/

def execNop (t slot : Nat) (f : IForm) (s : State) : Out :=
  .next (laneRun (.nop t slot f) t slot s (fun s g => opNop s t slot g f))
def execExit (t slot : Nat) (f : CForm) (s : State) : Out :=
  .next (laneRun (.exit t slot f) t slot s (fun s g => opExit s t slot g f))
def execBra (t slot : Nat) (f : CForm) (s : State) : Out :=
  .next (laneRun (.bra t slot f) t slot s (fun s g => opBra s t slot g f))
def execBrs (t slot : Nat) (f : CForm) (s : State) : Out :=
  .next (laneRun (.brs t slot f) t slot s (fun s g => opBrs s t slot g f))
def execYield (t slot : Nat) (f : CForm) (s : State) : Out :=
  .next (laneRun (.yield t slot f) t slot s (fun s g => opYield s t slot g f))
def execRdsr (t slot : Nat) (f : IForm) (s : State) : Out :=
  .next (laneRun (.rdsr t slot f) t slot s (fun s g => opRdsr s t slot g f))
def execPush (t slot : Nat) (f : CForm) (s : State) : Out :=
  .next (laneRun (.push t slot f) t slot s (fun s g => opPush s t slot g f))
def execBrk (t slot : Nat) (f : CForm) (s : State) : Out :=
  .next (laneRun (.brk t slot f) t slot s (fun s g => opBrk s t slot g f))
def execRcv (t slot : Nat) (f : CForm) (s : State) : Out :=
  .next (laneRun (.rcv t slot f) t slot s (fun s g => opRcv s t slot g f))
def execPop (t slot : Nat) (f : CForm) (s : State) : Out :=
  .next (laneRun (.pop t slot f) t slot s (fun s g => opPop s t slot g f))
def execAny (t slot : Nat) (f : RForm) (s : State) : Out :=
  .next (laneRun (.any t slot f) t slot s (fun s g => opAny s t slot g f))
def execAll (t slot : Nat) (f : RForm) (s : State) : Out :=
  .next (laneRun (.all t slot f) t slot s (fun s g => opAll s t slot g f))
def execMask (t slot : Nat) (f : RForm) (s : State) : Out :=
  .next (laneRun (.mask t slot f) t slot s (fun s g => opMask s t slot g f))
def execTake (t slot : Nat) (f : MForm) (s : State) : Out :=
  .next (laneRun (.take t slot f) t slot s (fun s g => opTake s t slot g f))
def execGive (t slot : Nat) (f : MForm) (s : State) : Out :=
  .next (laneRun (.give t slot f) t slot s (fun s g => opGive s t slot g f))
def execBarg (t slot : Nat) (f : IForm) (s : State) : Out :=
  .next (laneRun (.barg t slot f) t slot s (fun s g => opBarg s t slot g f))
def execBart (t slot : Nat) (f : IForm) (s : State) : Out :=
  .next (laneRun (.bart t slot f) t slot s (fun s g => opBart s t slot g f))
def execBarn (t slot : Nat) (f : IForm) (s : State) : Out :=
  .next (laneRun (.barn t slot f) t slot s (fun s g => opBarn s t slot g f))
def execMacq (t slot : Nat) (f : CForm) (s : State) : Out :=
  .next (laneRun (.macq t slot f) t slot s (fun s g => opMacq s t slot g f))
def execMrel (t slot : Nat) (f : CForm) (s : State) : Out :=
  .next (laneRun (.mrel t slot f) t slot s (fun s g => opMrel s t slot g f))
def execMwld (t slot : Nat) (f : MForm) (s : State) : Out :=
  .next (laneRun (.mwld t slot f) t slot s (fun s g => opMwld s t slot g f))
def execMwsw (t slot : Nat) (f : CForm) (s : State) : Out :=
  .next (laneRun (.mwsw t slot f) t slot s (fun s g => opMwsw s t slot g f))
def execMma (t slot : Nat) (f : RForm) (s : State) : Out :=
  .next (laneRun (.mma t slot f) t slot s (fun s g => opMma s t slot g f))
def execMma4 (t slot : Nat) (f : RForm) (s : State) : Out :=
  .next (laneRun (.mma4 t slot f) t slot s (fun s g => opMma4 s t slot g f))
def execLd (t slot : Nat) (f : MForm) (s : State) : Out :=
  .next (laneRun (.ld t slot f) t slot s (fun s g => opLd s t slot g f))
def execSt (t slot : Nat) (f : MForm) (s : State) : Out :=
  .next (laneRun (.st t slot f) t slot s (fun s g => opSt s t slot g f))
def execLds (t slot : Nat) (f : MForm) (s : State) : Out :=
  .next (laneRun (.lds t slot f) t slot s (fun s g => opLds s t slot g f))
def execSts (t slot : Nat) (f : MForm) (s : State) : Out :=
  .next (laneRun (.sts t slot f) t slot s (fun s g => opSts s t slot g f))
def execAadd (t slot : Nat) (f : MForm) (s : State) : Out :=
  .next (laneRun (.aadd t slot f) t slot s (fun s g => opAadd s t slot g f))
def execAmax (t slot : Nat) (f : MForm) (s : State) : Out :=
  .next (laneRun (.amax t slot f) t slot s (fun s g => opAmax s t slot g f))
def execAcas (t slot : Nat) (f : MForm) (s : State) : Out :=
  .next (laneRun (.acas t slot f) t slot s (fun s g => opAcas s t slot g f))
def execFenceRelease (t slot : Nat) (f : IForm) (s : State) : Out :=
  .next (laneRun (.fenceRelease t slot f) t slot s (fun s g => opFenceRelease s t slot g f))
def execFenceAcquire (t slot : Nat) (f : IForm) (s : State) : Out :=
  .next (laneRun (.fenceAcquire t slot f) t slot s (fun s g => opFenceAcquire s t slot g f))
def execFenceFull (t slot : Nat) (f : IForm) (s : State) : Out :=
  .next (laneRun (.fenceFull t slot f) t slot s (fun s g => opFenceFull s t slot g f))
def execPref (t slot : Nat) (f : MForm) (s : State) : Out :=
  .next (laneRun (.pref t slot f) t slot s (fun s g => opPref s t slot g f))
def execFadd (t slot : Nat) (f : RForm) (s : State) : Out :=
  .next (laneRun (.fadd t slot f) t slot s (fun s g => opFadd s t slot g f))
def execFsub (t slot : Nat) (f : RForm) (s : State) : Out :=
  .next (laneRun (.fsub t slot f) t slot s (fun s g => opFsub s t slot g f))
def execFmul (t slot : Nat) (f : RForm) (s : State) : Out :=
  .next (laneRun (.fmul t slot f) t slot s (fun s g => opFmul s t slot g f))
def execFfma (t slot : Nat) (f : RForm) (s : State) : Out :=
  .next (laneRun (.ffma t slot f) t slot s (fun s g => opFfma s t slot g f))
def execFmin (t slot : Nat) (f : RForm) (s : State) : Out :=
  .next (laneRun (.fmin t slot f) t slot s (fun s g => opFmin s t slot g f))
def execFmax (t slot : Nat) (f : RForm) (s : State) : Out :=
  .next (laneRun (.fmax t slot f) t slot s (fun s g => opFmax s t slot g f))
def execFcmp (t slot : Nat) (f : RForm) (s : State) : Out :=
  .next (laneRun (.fcmp t slot f) t slot s (fun s g => opFcmp s t slot g f))
def execFrcp (t slot : Nat) (f : RForm) (s : State) : Out :=
  .next (laneRun (.frcp t slot f) t slot s (fun s g => opFrcp s t slot g f))
def execFrsq (t slot : Nat) (f : RForm) (s : State) : Out :=
  .next (laneRun (.frsq t slot f) t slot s (fun s g => opFrsq s t slot g f))
def execFexp2 (t slot : Nat) (f : RForm) (s : State) : Out :=
  .next (laneRun (.fexp2 t slot f) t slot s (fun s g => opFexp2 s t slot g f))
def execFlog2 (t slot : Nat) (f : RForm) (s : State) : Out :=
  .next (laneRun (.flog2 t slot f) t slot s (fun s g => opFlog2 s t slot g f))
def execFdiv (t slot : Nat) (f : RForm) (s : State) : Out :=
  .next (laneRun (.fdiv t slot f) t slot s (fun s g => opFdiv s t slot g f))
def execCvtf (t slot : Nat) (f : RForm) (s : State) : Out :=
  .next (laneRun (.cvtf t slot f) t slot s (fun s g => opCvtf s t slot g f))
def execCvtn (t slot : Nat) (f : RForm) (s : State) : Out :=
  .next (laneRun (.cvtn t slot f) t slot s (fun s g => opCvtn s t slot g f))
def execI2f (t slot : Nat) (f : RForm) (s : State) : Out :=
  .next (laneRun (.i2f t slot f) t slot s (fun s g => opI2f s t slot g f))
def execF2i (t slot : Nat) (f : RForm) (s : State) : Out :=
  .next (laneRun (.f2i t slot f) t slot s (fun s g => opF2i s t slot g f))
def execIadd (t slot : Nat) (f : RForm) (s : State) : Out :=
  .next (laneRun (.iadd t slot f) t slot s (fun s g => opIadd s t slot g f))
def execIsub (t slot : Nat) (f : RForm) (s : State) : Out :=
  .next (laneRun (.isub t slot f) t slot s (fun s g => opIsub s t slot g f))
def execImul (t slot : Nat) (f : RForm) (s : State) : Out :=
  .next (laneRun (.imul t slot f) t slot s (fun s g => opImul s t slot g f))
def execImad (t slot : Nat) (f : RForm) (s : State) : Out :=
  .next (laneRun (.imad t slot f) t slot s (fun s g => opImad s t slot g f))
def execAnd (t slot : Nat) (f : RForm) (s : State) : Out :=
  .next (laneRun (.and t slot f) t slot s (fun s g => opAnd s t slot g f))
def execOr (t slot : Nat) (f : RForm) (s : State) : Out :=
  .next (laneRun (.or t slot f) t slot s (fun s g => opOr s t slot g f))
def execXor (t slot : Nat) (f : RForm) (s : State) : Out :=
  .next (laneRun (.xor t slot f) t slot s (fun s g => opXor s t slot g f))
def execShl (t slot : Nat) (f : RForm) (s : State) : Out :=
  .next (laneRun (.shl t slot f) t slot s (fun s g => opShl s t slot g f))
def execShr (t slot : Nat) (f : RForm) (s : State) : Out :=
  .next (laneRun (.shr t slot f) t slot s (fun s g => opShr s t slot g f))
def execSar (t slot : Nat) (f : RForm) (s : State) : Out :=
  .next (laneRun (.sar t slot f) t slot s (fun s g => opSar s t slot g f))
def execImin (t slot : Nat) (f : RForm) (s : State) : Out :=
  .next (laneRun (.imin t slot f) t slot s (fun s g => opImin s t slot g f))
def execImax (t slot : Nat) (f : RForm) (s : State) : Out :=
  .next (laneRun (.imax t slot f) t slot s (fun s g => opImax s t slot g f))
def execIcmp (t slot : Nat) (f : RForm) (s : State) : Out :=
  .next (laneRun (.icmp t slot f) t slot s (fun s g => opIcmp s t slot g f))
def execSel (t slot : Nat) (f : RForm) (s : State) : Out :=
  .next (laneRun (.sel t slot f) t slot s (fun s g => opSel s t slot g f))
def execMov (t slot : Nat) (f : RForm) (s : State) : Out :=
  .next (laneRun (.mov t slot f) t slot s (fun s g => opMov s t slot g f))
def execMovi (t slot : Nat) (f : IForm) (s : State) : Out :=
  .next (laneRun (.movi t slot f) t slot s (fun s g => opMovi s t slot g f))
def execShfl (t slot : Nat) (f : RForm) (s : State) : Out :=
  .next (laneRun (.shfl t slot f) t slot s (fun s g => opShfl s t slot g f))
def execSadd (t slot : Nat) (f : RForm) (s : State) : Out :=
  .next (laneRun (.sadd t slot f) t slot s (fun s g => opSadd s t slot g f))
def execSsub (t slot : Nat) (f : RForm) (s : State) : Out :=
  .next (laneRun (.ssub t slot f) t slot s (fun s g => opSsub s t slot g f))
def execSmul (t slot : Nat) (f : RForm) (s : State) : Out :=
  .next (laneRun (.smul t slot f) t slot s (fun s g => opSmul s t slot g f))
def execSand (t slot : Nat) (f : RForm) (s : State) : Out :=
  .next (laneRun (.sand t slot f) t slot s (fun s g => opSand s t slot g f))
def execSor (t slot : Nat) (f : RForm) (s : State) : Out :=
  .next (laneRun (.sor t slot f) t slot s (fun s g => opSor s t slot g f))
def execSxor (t slot : Nat) (f : RForm) (s : State) : Out :=
  .next (laneRun (.sxor t slot f) t slot s (fun s g => opSxor s t slot g f))
def execSshl (t slot : Nat) (f : RForm) (s : State) : Out :=
  .next (laneRun (.sshl t slot f) t slot s (fun s g => opSshl s t slot g f))
def execSshr (t slot : Nat) (f : RForm) (s : State) : Out :=
  .next (laneRun (.sshr t slot f) t slot s (fun s g => opSshr s t slot g f))
def execSsar (t slot : Nat) (f : RForm) (s : State) : Out :=
  .next (laneRun (.ssar t slot f) t slot s (fun s g => opSsar s t slot g f))
def execSmin (t slot : Nat) (f : RForm) (s : State) : Out :=
  .next (laneRun (.smin t slot f) t slot s (fun s g => opSmin s t slot g f))
def execSmax (t slot : Nat) (f : RForm) (s : State) : Out :=
  .next (laneRun (.smax t slot f) t slot s (fun s g => opSmax s t slot g f))
def execScmp (t slot : Nat) (f : RForm) (s : State) : Out :=
  .next (laneRun (.scmp t slot f) t slot s (fun s g => opScmp s t slot g f))
def execSmov (t slot : Nat) (f : RForm) (s : State) : Out :=
  .next (laneRun (.smov t slot f) t slot s (fun s g => opSmov s t slot g f))
def execSmovi (t slot : Nat) (f : IForm) (s : State) : Out :=
  .next (laneRun (.smovi t slot f) t slot s (fun s g => opSmovi s t slot g f))

/-- RESERVED_INSTRUCTION: a reserved word makes the group fault with LANE_ILLEGAL (R184). A word that is no reserved one is
no such event. -/
def execReservedInstruction (t slot : Nat) (w : W64) (s : State) : Out :=
  .next (match decodeLane t slot w with
    | some _ => s
    | none => laneRun (.reservedInstruction t slot w) t slot s (fun s _ => illegal s t slot))

end Sys2Proof.Machine
end

