-- ==== Sys2Proof/Machine/ImgEph.lean ====
section
/-!
DEFINITION. The checks of ephemerides, lane code and transfer targets (05 R139, R140, Table: Ephemeris checks; 06 R144, R184; 13,
Table: Refusal codes from EPH_REGION to XFER_TARGET), on the state that the image would make.
-/
namespace Sys2Proof.Machine

/-! ## The schedule of a tile -/

/-- A bundle of a schedule: its index, its segment cycle of issue (R111) and its word. -/
structure Bun where
  idx : Nat
  cyc : Nat
  word : Nat
  deriving DecidableEq, Repr

/-- The first offset of a focal window that is not populated. -/
def focalEnd : Nat := 0xE00000

/-- The word of 32 bytes at an offset of a tile's window. -/
def wordAt (c : State) (t off : Nat) : Nat := leNat (readBytes c (focalAddr t off) 32).1

/-- The bundles from index `i`, up to SEG_END or the end of the region (R111, R113). -/
def bundles (c : State) (t i next : Nat) : Nat → List Bun
  | 0 => []
  | f + 1 =>
    let w := wordAt c t (getF c F.EPH_BASE_BASE t + 32 * i)
    let at_ := next + bWait w
    ⟨i, at_, w⟩ :: (if bCtl w = 2 then [] else bundles c t (i + 1) (at_ + 1) f)

/-- The schedule of a tile. -/
def schedule (c : State) (t : Nat) : List Bun := bundles c t 0 0 (getF c F.EPH_LEN_COUNT t)

/-- The offset of a bundle in its window. -/
def bunOff (c : State) (t : Nat) (b : Bun) : Nat := getF c F.EPH_BASE_BASE t + 32 * b.idx

/-- Valid flags of the slots. -/
def bAv (w : Nat) : Bool := bit w 16
def bMv (w : Nat) : Bool := bit w 17
def bNv (w : Nat) : Bool := bit w 18
def bLv (w : Nat) : Bool := bit w 19

/-- The offsets of the descriptors that a bundle names. -/
def adAt (c : State) (t w : Nat) : Nat := getF c F.EPH_ADESC_BASE t + 32 * bAdesc w
def mxAt (c : State) (t w : Nat) : Nat := getF c F.EPH_XDESC_BASE t + 32 * bMxd w
def nxAt (c : State) (t w : Nat) : Nat := getF c F.EPH_XDESC_BASE t + 32 * bNxd w

/-- The array descriptor of a bundle. -/
def adescAt (c : State) (t w : Nat) : ADesc := adescOf (words8 (readBytes c (focalAddr t (adAt c t w)) 32).1)

/-- A transfer reached by a schedule: its bundle, its kind, its descriptor and the descriptor's offset. -/
structure Reach where
  bun : Bun
  kind : XKind
  desc : Nat
  off : Nat
  deriving DecidableEq, Repr

/-- The kind of a mover slot and of a network slot (R113). -/
def movKind : Nat → Option XKind
  | 0 => some .load
  | 1 => some .store
  | 2 => some .coadd
  | 3 => some .mesh
  | 4 => some .turn
  | _ => none
def netKind : Nat → Option XKind
  | 0 => some .send
  | 1 => some .expect
  | 2 => some .coll
  | _ => none

/-- The transfers of a bundle, with those of reserved codes left out. -/
def reaches (c : State) (t : Nat) (b : Bun) : List Reach :=
  (match (if bMv b.word then movKind (bMop b.word) else none) with
   | some k => [⟨b, k, wordAt c t (mxAt c t b.word), mxAt c t b.word⟩]
   | none => []) ++
  (match (if bNv b.word then netKind (bNop b.word) else none) with
   | some k => [⟨b, k, wordAt c t (nxAt c t b.word), nxAt c t b.word⟩]
   | none => [])

/-- The transfers of a schedule. -/
def allReaches (c : State) (t : Nat) (bs : List Bun) : List Reach := bs.flatMap (reaches c t)

/-! ## EPH_REGION, EPH_RESERVED (R115) -/

/-- SIZE, LOCAL and the focal extent of a descriptor are within the table. -/
def xferPlaced (r : Reach) : Bool :=
  xSize r.desc % 32 == 0 && decide (32 ≤ xSize r.desc) && xLocal r.desc % 32 == 0 && decide (xLocal r.desc + xSize r.desc ≤ focalEnd)

/-- EPH_REGION of a tile. DESIGN CHOICE (assumption 60): "the region is not a multiple of 1,024 bytes from its base" is read as a base
that is not a multiple of 1,024, and the region's length is not tested. -/
def chkRegion (c : State) (i : Image) (t : Nat) (bs : List Bun) : Option Refuse :=
  let at_ (o : Nat) : Nat := focalOff i t o
  let base := getF c F.EPH_BASE_BASE t
  let n := getF c F.EPH_LEN_COUNT t
  need (base % 1024 = 0 ∧ n ≤ 65536 ∧ base + 32 * n ≤ focalEnd ∧ getF c F.EPH_ADESC_BASE t % 32 = 0 ∧
    getF c F.EPH_XDESC_BASE t % 32 = 0 ∧ getF c F.EPH_ADESC_BASE t ≤ focalEnd ∧ getF c F.EPH_XDESC_BASE t ≤ focalEnd)
    0x0D30 (recAt i 5 2) t <|>
  firstOf bs (fun b =>
    need (!bAv b.word || (adAt c t b.word + 32 ≤ focalEnd &&
      (opExtents (adescAt c t b.word)).all (fun e => decide (e.1 + e.2 ≤ focalEnd)))) 0x0D30 (at_ (adAt c t b.word)) t <|>
    need ((!bMv b.word || mxAt c t b.word + 32 ≤ focalEnd) && (!bNv b.word || nxAt c t b.word + 32 ≤ focalEnd))
      0x0D30 (at_ (bunOff c t b)) t <|>
    firstOf (reaches c t b) (fun r => need (xferPlaced r) 0x0D30 (at_ r.off) t))

/-- Reserved fields and codes of a bundle are 0 (R112, R113). -/
def bunClean (w : Nat) : Bool :=
  bits w 24 8 == 0 && bits w 48 16 == 0 && bits w 84 44 == 0 && bits w 148 12 == 0 && bits w 192 64 == 0 && decide (bCtl w ≤ 2) &&
  (!bMv w || (movKind (bMop w)).isSome) && (!bNv w || (netKind (bNop w)).isSome) && (!bLv w || decide (bLop w ≤ 1))

/-- Reserved fields of a transfer descriptor are 0, with the zeros that each kind requires (R115, R215). -/
def xferClean (r : Reach) : Bool :=
  let x := r.desc
  bits x 31 1 == 0 && bits x 56 8 == 0 && bits x 112 16 == 0 && bits x 184 8 == 0 && bits x 224 32 == 0 &&
  (match r.kind with
   | .coadd => decide (xOpx x ≤ 7)
   | .turn => true
   | _ => xOpx x == 0) &&
  (match r.kind with
   | .coadd | .send | .expect => true
   | _ => xTag x == 0) &&
  (match r.kind with
   | .send | .expect | .coll => bits x 80 32 == 0
   | _ => true) &&
  (match r.kind with
   | .send => xArrival x == 0 && xSlack x == 0
   | .mesh => xSlack x == 0
   | _ => true)

/-- EPH_RESERVED of a tile. -/
def chkReserved (c : State) (i : Image) (t : Nat) (bs : List Bun) : Option Refuse :=
  firstOf bs (fun b =>
    need (bunClean b.word) 0x0D31 (focalOff i t (bunOff c t b)) t <|>
    firstOf (reaches c t b) (fun r => need (xferClean r) 0x0D31 (focalOff i t r.off) t))

/-! ## EPH_ARRAY, EPH_OVERLAP (R48, R49, R58, R64, R89) -/

/-- The reserved fields of an array descriptor are 0 (R46). -/
def adescClean (w : Nat) : Bool :=
  bits w 30 2 == 0 && bits w 74 22 == 0 && bits w 120 8 == 0 && bits w 152 8 == 0 && bits w 184 8 == 0 && bits w 208 16 == 0 &&
  bits w 224 32 == 0

/-- A format that takes MX scales: codes 3 to 7. -/
def mxFmt (c : Nat) : Bool := decide (3 ≤ c)

/-- R48, R58, R64 and R89 for a descriptor and the operation before it on the tile. -/
def adescOk (w : Nat) (d : ADesc) (before : Option ADesc) : Bool :=
  let es := opExtents d
  let o := es.getD 2 (0, 0)
  adescClean w && d.round != 3 && d.aFmt != 0 && d.wFmt != 0 && ((d.aFmt == 7) == (d.wFmt == 7)) &&
  (!d.aMx || mxFmt d.aFmt) && (!d.wMx || mxFmt d.wFmt) && (!d.oMx || mxFmt d.oFmt) &&
  d.aBase % 1024 == 0 && d.wBase % 1024 == 0 && d.oBase % 1024 == 0 && es.all (fun e => decide (e.1 + e.2 ≤ focalEnd)) &&
  (es.take 2).all (fun e => !meets e.1 e.2 o.1 o.2) && decide (d.s ≤ 2048) &&
  (!d.finder || (decide (d.m ≤ 16) && d.s == 4 && !d.aT && !d.accIn && d.drain)) &&
  (!d.accIn || (accumulations d == 1 &&
    match before with
    | some p => !p.finder && !p.drain && p.m == d.m && p.n == d.n && p.s == d.s && isInt p == isInt d
    | none => false)) &&
  (!isInt d || (d.oFmt == 0 && !d.oMx)) && ((d.oFmt != 5 && d.oFmt != 6) || d.oMx)

/-- The bundles with an array slot. -/
def arrayBuns (bs : List Bun) : List Bun := bs.filter (fun b => bAv b.word)

/-- EPH_ARRAY of a tile, in issue order. -/
def chkArrays (c : State) (i : Image) (t : Nat) (before : Option ADesc) : List Bun → Option Refuse
  | [] => none
  | b :: r =>
    let d := adescAt c t b.word
    need (adescOk (wordAt c t (adAt c t b.word)) d before) 0x0D32 (focalOff i t (adAt c t b.word)) t <|> chkArrays c i t (some d) r

/-- EPH_OVERLAP of a tile: no operation issues before the one before it is complete. -/
def chkOverlap (c : State) (i : Image) (t free : Nat) : List Bun → Option Refuse
  | [] => none
  | b :: r =>
    need (free ≤ b.cyc) 0x0D33 (focalOff i t (bunOff c t b)) t <|> chkOverlap c i t (b.cyc + opCycles (adescAt c t b.word)) r

/-! ## EPH_DISCIPLINE, EPH_DEADLINE (R118, R121, R124) -/

/-- Work of a slot over nominal time: from its issue to its retirement, exclusive, with the focal regions it reads and writes. -/
structure Work where
  bun : Nat
  start : Nat
  stop : Nat
  reads : List (Nat × Nat)
  writes : List (Nat × Nat)
  fills : Bool
  off : Nat
  deriving DecidableEq, Repr

/-- The deadline of a descriptor. -/
def deadline (x : Nat) : Nat := xArrival x + xSlack x

/-- The nominal end of a SEND's copy (R118). -/
def sendEnd (cyc x : Nat) : Nat := cyc + 18 + ceilDiv (xSize x) 64

/-- The bytes of a window that the landing of a TURN covers (R226). -/
def turnSpan (x : Nat) : Nat :=
  if xOpx x ≤ 2 then (turnPlace (2 ^ xOpx x) (xSize x - 1) / 32768 + 1) * 32768 else xSize x

/-- The work of a transfer on its own tile. -/
def xferWork (r : Reach) : Work :=
  let x := r.desc
  let here := [(xLocal x, xSize x)]
  let d := max (r.bun.cyc + 1) (deadline x)
  match r.kind with
  | .send => ⟨r.bun.idx, r.bun.cyc, sendEnd r.bun.cyc x, here, [], false, r.off⟩
  | .store | .coadd | .mesh => ⟨r.bun.idx, r.bun.cyc, d, here, [], false, r.off⟩
  | .load | .expect => ⟨r.bun.idx, r.bun.cyc, d, [], here, true, r.off⟩
  | .turn => ⟨r.bun.idx, r.bun.cyc, d, [], [(xLocal x, turnSpan x)], true, r.off⟩
  | .coll => ⟨r.bun.idx, r.bun.cyc, d, [], [], false, r.off⟩

/-- The work of an array slot. -/
def arrayWork (c : State) (t : Nat) (b : Bun) : Work :=
  let d := adescAt c t b.word
  let es := opExtents d
  ⟨b.idx, b.cyc, b.cyc + opCycles d, es.take 2, if d.drain then es.drop 2 else [], false, adAt c t b.word⟩

/-- The tile and offset of a MESH target. -/
def meshTo (x : Nat) : Nat × Nat := ((xRemote x - focalBase) / 0x1000000, xRemote x % 0x1000000)

/-- The MESH transfers of every schedule, each with its tile. -/
def meshReaches (c : State) : List (Nat × Reach) :=
  (List.range 512).flatMap (fun t => ((allReaches c t (schedule c t)).filter (fun r => r.kind == .mesh)).map (fun r => (t, r)))

/-- The landings in a tile's window of MESH transfers of the other tiles of its dome. A landing is no bundle of the tile, so its
number lies above every bundle's. -/
def meshIn (ms : List (Nat × Reach)) (t : Nat) : List Work :=
  (ms.filter (fun m => m.1 != t && m.1 / 128 == t / 128 && decide (focalBase ≤ xRemote m.2.desc) && (meshTo m.2.desc).1 == t)).map (fun m =>
    ⟨65536 * (m.1 + 1) + m.2.bun.idx, m.2.bun.cyc, max (m.2.bun.cyc + 1) (deadline m.2.desc), [],
      [((meshTo m.2.desc).2, xSize m.2.desc)], true, m.2.off⟩)

/-- The work of a tile. -/
def workOn (c : State) (ms : List (Nat × Reach)) (t : Nat) (bs : List Bun) : List Work :=
  (arrayBuns bs).map (arrayWork c t) ++ (allReaches c t bs).map xferWork ++ meshIn ms t

/-- One region list meets another. -/
def regionsMeet (a b : List (Nat × Nat)) : Bool := a.any (fun p => b.any (fun q => meets p.1 p.2 q.1 q.2))

/-- A write of one work falls in a read of the other while both are unretired. -/
def clash (w r : Work) : Bool := decide (w.start < r.stop) && decide (r.start < w.stop) && regionsMeet w.writes r.reads

/-- EPH_DISCIPLINE of a tile: no bundle changes what an unretired bundle reads, and none reads what an unretired bundle writes. -/
def chkDiscipline (i : Image) (t : Nat) (ws : List Work) : Option Refuse :=
  firstOf ws (fun r => need (!(ws.any (fun w => w.bun != r.bun && clash w r))) 0x0D34 (focalOff i t r.off) t)

/-- The exact landing cycle of a MESH from a tile (R121). -/
def meshLands (t cyc x : Nat) : Nat :=
  let d := (meshTo x).1
  let dist (a b : Nat) : Nat := max a b - min a b
  cyc + 7 + dist (t % 16) (d % 16) + dist (t % 128 / 16) (d % 128 / 16) + ceilDiv (xSize x) 128

/-- EPH_DEADLINE of a tile: no region is read before the deadline of the transfer that fills it, and a MESH carries its landing
cycle. -/
def chkDeadline (i : Image) (t : Nat) (rs : List Reach) (ws : List Work) : Option Refuse :=
  firstOf ws (fun r => need (!(ws.any (fun w => w.fills && clash w r))) 0x0D35 (focalOff i t r.off) t) <|>
  firstOf rs (fun r => need (r.kind != .mesh || xArrival r.desc == meshLands t r.bun.cyc r.desc) 0x0D35 (focalOff i t r.off) t)

/-! ## EPH_MESH, EPH_PORTS, EPH_OUTSTANDING, EPH_SLACK (assumption 60) -/

/-- The links that a MESH crosses, along its row of columns first, then along its column, each with the first cycle in which its
bytes are on it: a link is its router and the direction (0 and 1 across columns, 2 and 3 across rows). -/
def meshLinks (t cyc x : Nat) : List ((Nat × Nat) × Nat) :=
  let d := (meshTo x).1
  let c0 := t % 16
  let c1 := d % 16
  let r0 := t % 128 / 16
  let r1 := d % 128 / 16
  let hc := max c0 c1 - min c0 c1
  let hr := max r0 r1 - min r0 r1
  let across := (List.range hc).map (fun k => (((16 * r0 + if c0 ≤ c1 then c0 + k else c0 - k), if c0 ≤ c1 then 0 else 1), cyc + 7 + k))
  let down := (List.range hr).map (fun k => (((16 * (if r0 ≤ r1 then r0 + k else r0 - k) + c1), if r0 ≤ r1 then 2 else 3), cyc + 7 + hc + k))
  across ++ down

/-- The uses of mesh links by a MESH transfer: its tile and bundle, link, first cycle and length. -/
def meshUses (m : Nat × Reach) : List (Nat × Nat × (Nat × Nat) × Nat × Nat) :=
  (meshLinks m.1 m.2.bun.cyc m.2.desc).map (fun l => (m.1, m.2.bun.idx, l.1, l.2, ceilDiv (xSize m.2.desc) 128))

/-- EPH_MESH of a tile: no link is shared in a cycle with another MESH of its dome. -/
def chkMesh (i : Image) (ms : List (Nat × Reach)) (t : Nat) : Option Refuse :=
  let others := (ms.filter (fun m => m.1 / 128 == t / 128)).flatMap meshUses
  firstOf (ms.filter (fun m => m.1 == t)) (fun m =>
    need ((meshLinks t m.2.bun.cyc m.2.desc).all (fun l => others.all (fun o =>
      (o.1 == t && o.2.1 == m.2.bun.idx) || o.2.2.1 != l.1 ||
      !meets o.2.2.2.1 o.2.2.2.2 l.2 (ceilDiv (xSize m.2.desc) 128)))) 0x0D36 (focalOff i t m.2.off) t)

/-- The window in which a transfer's bytes pass the vertical port; MESH and COLL use none. -/
def portWindow (r : Reach) : Option (Nat × Nat × Nat) :=
  match r.kind with
  | .mesh | .coll => none
  | .send => some (r.bun.cyc, sendEnd r.bun.cyc r.desc, xSize r.desc)
  | _ => some (r.bun.cyc, max (r.bun.cyc + 1) (deadline r.desc), xSize r.desc)

/-- The same for a transfer that reads the focal store. -/
def readWindow (r : Reach) : Option (Nat × Nat × Nat) :=
  match r.kind with
  | .store | .coadd | .send => portWindow r
  | _ => none

/-- The cycles in which the finder operations of a schedule stream weights and take every read cycle (R66): first cycle and length. -/
def finderTakes (c : State) (t : Nat) (bs : List Bun) : List (Nat × Nat) :=
  (arrayBuns bs).flatMap (fun b =>
    let d := adescAt c t b.word
    if d.finder then finderSpans d 0 b.cyc [] (pieces d) else [])

/-- Cycles of spans that lie between two cycles. -/
def cyclesIn (sp : List (Nat × Nat)) (a b : Nat) : Nat := sp.foldl (fun n e => n + (min (e.1 + e.2) b - max e.1 a)) 0

/-- The bytes of the transfers that lie wholly between two cycles. -/
def bytesIn (ws : List (Nat × Nat × Nat)) (a b : Nat) : Nat :=
  ((ws.filter (fun w => decide (a ≤ w.1) && decide (w.2.1 ≤ b))).map (·.2.2)).foldl (· + ·) 0

/-- EPH_PORTS of a tile: between any start and any deadline, the transfers that lie wholly between them need no more than 64 bytes a
cycle, and those of them that read the focal store no more than 64 bytes a cycle that the finder leaves (R59, R66). A pass leaves
read cycles, and a drain 128 bytes of each write cycle, so neither takes from the port's 64. -/
def chkPorts (c : State) (i : Image) (t : Nat) (bs : List Bun) (rs : List Reach) : Option Refuse :=
  let ws := rs.filterMap portWindow
  let rd := rs.filterMap readWindow
  let fs := finderTakes c t bs
  firstOf rs (fun r =>
    match portWindow r with
    | none => none
    | some p => need (ws.all (fun a => decide (p.2.1 < a.1) ||
        (decide (bytesIn ws a.1 p.2.1 ≤ 64 * (p.2.1 - a.1)) &&
         decide (bytesIn rd a.1 p.2.1 ≤ 64 * (p.2.1 - a.1 - cyclesIn fs a.1 p.2.1))))) 0x0D37 (focalOff i t r.off) t)

/-- Whether a bundle launches or joins the task of a token. -/
def launches (b : Bun) : Bool := bLv b.word && bLop b.word == 0
def joins (b : Bun) : Bool := bLv b.word && bLop b.word == 1

/-- The lane tasks outstanding after a bundle of a schedule. -/
def tasksAfter (bs : List Bun) (b : Bun) : Nat :=
  let done := bs.filter (fun x => decide (x.idx ≤ b.idx))
  (done.filter launches).length - (done.filter joins).length

/-- EPH_OUTSTANDING of a tile. -/
def chkOutstanding (c : State) (i : Image) (t : Nat) (bs : List Bun) (rs : List Reach) : Option Refuse :=
  let ws := rs.map xferWork
  firstOf bs (fun b => need
    ((ws.filter (fun w => decide (w.start ≤ b.cyc) && decide (b.cyc < w.stop))).length ≤ 64 ∧ tasksAfter bs b ≤ 16)
    0x0D38 (focalOff i t (bunOff c t b)) t)

/-- Segment cycles cover a time in ns. -/
def cyclesCover (c : State) (n ns : Nat) : Bool := decide (ns * 217 ≤ n * domeUnits c)

/-- EPH_SLACK of a tile. -/
def chkSlack (c : State) (i : Image) (t : Nat) (rs : List Reach) : Option Refuse :=
  firstOf rs (fun r => need
    ((r.kind != .expect && r.kind != .coll) ||
      (c.act.routes.filter (fun x => x.stream == xRemote r.desc % 65536)).all (fun x =>
        cyclesCover c (xSlack r.desc) (c.act.resendMin * resendNs c x)))
    0x0D39 (focalOff i t r.off) t)

/-! ## EPH_COMMITTED to EPH_JOIN (R114, R140) -/

/-- The output extents of a collective. -/
def collOuts (c : State) (id : Nat) : List (Nat × Nat) :=
  (phasesOfId c id).map (fun p => (p.dst, if p.type = 0 then p.chunk else p.chunk * p.p))
where
  /-- The phases of a collective of the image. -/
  phasesOfId (c : State) (id : Nat) : List CollPhase := match c.act.colls.find? (fun x => x.id == id) with
    | some x => x.phases
    | none => []

/-- EPH_COMMITTED of a tile. -/
def chkCommitted (c : State) (i : Image) (t : Nat) (rs : List Reach) : Option Refuse :=
  firstOf rs (fun r => need
    (match r.kind with
     | .store | .coadd => !meetsCommitted c (xRemote r.desc) (xSize r.desc)
     | .coll => (collOuts c (xRemote r.desc % 65536)).all (fun e => !meetsCommitted c e.1 e.2)
     | _ => true) 0x0D3A (focalOff i t r.off) t)

/-- The cycles of the bundles with a control code. -/
def ctlCycles (bs : List Bun) (code : Nat) : List Nat := (bs.filter (fun b => bCtl b.word == code)).map (·.cyc)

/-- EPH_PHASE of a tile, against the cycles of tile 0. -/
def chkPhase (c : State) (i : Image) (zero : List Bun) (t : Nat) (bs : List Bun) : Option Refuse :=
  need ((ctlCycles bs 1).length = 1 ∧ (ctlCycles bs 2).length = 1 ∧ ctlCycles bs 1 = ctlCycles zero 1 ∧
    ctlCycles bs 2 = ctlCycles zero 2) 0x0D3B (focalOff i t (getF c F.EPH_BASE_BASE t)) t

/-- The duration of a segment in ns, rounded up (R140). -/
def segmentNs (c : State) (cycle : Nat) : Nat := ceilDiv (cycle * if getB c F.GLB_MODES_SUSTAIN 0 then 6452 else 5714) 10000

/-- EPH_SEGMENT of a tile. -/
def chkSegment (c : State) (i : Image) (t : Nat) (bs : List Bun) : Option Refuse :=
  let budget := 16 * getF c F.MER_TIMEOUT_VOTE_HOP 0 * 100 + getF c F.MER_BUDGET_COMMIT_BUDGET 0 * 1000
  let period := getF c F.EPOCH_PERIOD_PERIOD 0
  need (0 < period ∧ (ctlCycles bs 2).all (fun n => decide (segmentNs c n + budget ≤ period))) 0x0D3C (recAt i 5 1) t

/-- The tokens with a LAUNCH and no JOIN yet; none where a JOIN has no LAUNCH. DESIGN CHOICE (assumption 60): a LAUNCH of a token still
open leaves the earlier LAUNCH with no JOIN, and a second JOIN of a token has no LAUNCH of its own, so both are refused. -/
def openTokens (open_ : List Nat) : List Bun → Option (List Nat)
  | [] => some open_
  | b :: r =>
    let k := bToken b.word
    if launches b then (if open_.contains k then none else openTokens (k :: open_) r)
    else if joins b then (if open_.contains k then openTokens (open_.filter (· != k)) r else none)
    else openTokens open_ r

/-- EPH_JOIN of a tile. -/
def chkJoin (c : State) (i : Image) (t : Nat) (bs : List Bun) : Option Refuse :=
  need (openTokens [] bs = some []) 0x0D3D (focalOff i t (getF c F.EPH_BASE_BASE t)) t

/-- The ephemeris checks of a tile, in the order of the table. -/
def chkTile (c : State) (i : Image) (ms : List (Nat × Reach)) (zero : List Bun) (t : Nat) : Option Refuse :=
  let bs := schedule c t
  let rs := allReaches c t bs
  let ws := workOn c ms t bs
  chkRegion c i t bs <|> chkReserved c i t bs <|> chkArrays c i t none (arrayBuns bs) <|> chkOverlap c i t 0 (arrayBuns bs) <|>
  chkDiscipline i t ws <|> chkDeadline i t rs ws <|> chkMesh i ms t <|> chkPorts c i t bs rs <|> chkOutstanding c i t bs rs <|>
  chkSlack c i t rs <|> chkCommitted c i t rs <|> chkPhase c i zero t bs <|> chkSegment c i t bs <|> chkJoin c i t bs

/-- The ephemeris checks, tile by tile (R409). -/
def chkEph (c : State) (i : Image) : Option Refuse :=
  let ms := meshReaches c
  let zero := schedule c 0
  firstOf (List.range 512) (chkTile c i ms zero)

/-! ## LANE_CODE (R144, R184) -/

/-- A task entry keeps to R144: reserved fields 0, multiples of 8, BAR_LOG2 in its range. -/
def taskForm (w : Nat) : Bool :=
  bits w 24 8 == 0 && bits w 56 8 == 0 && bits w 88 8 == 0 && bits w 102 26 == 0 && bits w 128 128 == 0 &&
  bits w 0 24 % 8 == 0 && bits w 32 24 % 8 == 0 && bits w 64 24 % 8 == 0 && decide (bits w 0 24 + bits w 32 24 ≤ focalEnd) &&
  (let k := bits w 97 5; k == 0 || (decide (16 ≤ k) && decide (k ≤ 30)))

/-- Every instruction of a task's code is one of Table: Opcodes with its reserved fields 0. -/
def codeOk (c : State) (t w : Nat) : Bool :=
  (List.range (bits w 32 24 / 8)).all (fun k =>
    (decodeLane t 0 (BitVec.ofNat 64 (leNat (readBytes c (focalAddr t (bits w 0 24 + 8 * k)) 8).1))).isSome)

/-- A task index of a tile names an entry whose code passes. -/
def taskOk (c : State) (t x : Nat) : Bool :=
  let w := wordAt c t (getF c F.LANE_TTAB_BASE t + 32 * x)
  taskForm w && codeOk c t w

/-- LANE_CODE: the tasks that a schedule launches, and those of COMMIT_TASK that name an entry. -/
def chkLane (c : State) (i : Image) : Option Refuse :=
  firstOf (List.range 512) (fun t =>
    firstOf ((schedule c t).filter launches) (fun b =>
      need (namesTask c i t (bTask b.word) && taskOk c t (bTask b.word)) 0x0D3E (focalOff i t (bunOff c t b)) t) <|>
    firstOf ((recsOf i 0x0604).filter (fun r => (taskOf r).tile == t)) (fun r =>
      need (!namesTask c i t (taskOf r).task || taskOk c t (taskOf r).task) 0x0D3E r.off t))

/-! ## XFER_TARGET (R115, R188, R202, R227) -/

/-- The remote extent of a transfer is one that the image may name. -/
def targetOk (c : State) (t : Nat) (r : Reach) : Bool :=
  let a := xRemote r.desc
  let n := xSize r.desc
  let open_ : Bool := a % 32 == 0 && !noPlace c a n &&
    !(decide (a < lpddrEnd) && pagesMeet (a / 4096, (a + n - 1) / 4096 + 1 - a / 4096) (areaAt c 1))
  match r.kind with
  | .mesh =>
    let d := meshTo r.desc
    a % 32 == 0 && decide (focalBase ≤ a) && decide (d.1 < 512) && d.1 / 128 == t / 128 && d.1 != t && decide (d.2 + n ≤ focalEnd)
  | .load | .store | .coadd => open_
  | .turn =>
    let b := 2 ^ xOpx r.desc
    open_ && decide (xOpx r.desc < 3) && a % (1024 * b) == 0 && n % (1024 * b) == 0 && xLocal r.desc % 32768 == 0
  | _ => true

/-- The extents of a collective phase: its input and its output. -/
def phaseExtents (p : CollPhase) : List (Nat × Nat) :=
  [(p.src, if p.type = 1 then p.chunk else p.chunk * p.p), (p.dst, if p.type = 0 then p.chunk else p.chunk * p.p)]

/-- The extents that an update entry reads beside the committed pages: the gradients and the learning rate. -/
def updReads (w : List Nat) : List (Nat × Nat) :=
  let u := updEntry w
  [(4096 * u.gPg, u.count * updWidth u.gFmt), (4096 * u.lrPg, 4)]

/-- XFER_TARGET: transfers, collectives, and the areas and pages of the services. -/
def chkTargets (c : State) (i : Image) : Option Refuse :=
  firstOf (List.range 512) (fun t => firstOf (allReaches c t (schedule c t)) (fun r =>
    need (targetOk c t r) 0x0D3F (focalOff i t r.off) t)) <|>
  firstOf (recsOf i 0x0407) (fun r => need ((collOf r).phases.all (fun p => (phaseExtents p).all (fun e =>
    !noPlace c e.1 e.2 && !(decide (e.1 < lpddrEnd) && pagesMeet (e.1 / 4096, ceilDiv e.2 4096) (areaAt c 1))))) 0x0D3F r.off) <|>
  need ([0, 2].all (fun k => let p := areaAt c k; p.2 == 0 || inRegions c (4096 * p.1) (4096 * p.2))) 0x0D3F (recAt i 2 0x0206) <|>
  need (c.act.upd.all (fun w => (updReads w).all (fun e => !noPlace c e.1 e.2))) 0x0D3F (recAt i 2 0x0205)

end Sys2Proof.Machine
end

