-- ==== Sys2Proof/Machine/ImgCheck.lean ====
section
/-!
DEFINITION. The other checks of validation (13, Table: Refusal codes), on the state that the image would make: spares, fuses, areas, tile
map, store, bands, network, meridian, modes, limits and reactions; the checks of a delta; and the whole of validation.
-/
namespace Sys2Proof.Machine

/-! ## Spares and fuses -/

/-- IMG_SPARES. -/
def chkSpares (s : State) (i : Image) : Option Refuse :=
  need ((List.range 4).all (fun t => decide (i.minSpares ≤ domeSpares s t))) 0x0D0B 14

/-- IMG_FUSE. -/
def chkFuse (s : State) (i : Image) : Option Refuse :=
  need (i.fuseBind = 0 ∨ i.fuseBind = leNat ((fuseDigest s).take 8)) 0x0D0C 40 <|>
  need (i.fuseFormat ≤ fuseByte s 0 + 256 * fuseByte s 1) 0x0D0C 48

/-! ## Areas and tile map -/

/-- IMG_AREA. -/
def chkArea (c : State) (i : Image) : Option Refuse :=
  let a := areaAt c 1
  need (i.length ≤ 4096 * a.2 ∧ (c.act.committed ++ c.act.pinned ++ [areaAt c 0, areaAt c 2]).all (fun r => !pagesMeet a r))
    0x0D0D (recAt i 2 0x0206)

/-- TILE_BARRIER. -/
def chkBarrier (i : Image) : Option Refuse :=
  let rs := recsOf i 0x0102
  firstOf (List.range rs.length) (fun k =>
    match rs[k]? with
    | none => none
    | some r =>
      let id := fld r.body 0 1
      need (id ≤ 63 ∧ fld r.body 1 1 ≤ 3 ∧ 2 ≤ ((List.range 128).filter (bit (fld r.body 8 16))).length ∧
        (rs.take k).all (fun x => fld x.body 0 1 != id)) 0x0D10 r.off) <|>
  need (recFld i 0x0101 0 1 0 ≤ 8) 0x0D10 (recAt i 1 0x0101)

/-! ## The store partition -/

/-- A region follows the one before it without a gap, and its codes are not reserved. -/
def regionOk (r : Rec) (base : Nat) : Bool :=
  fld r.body 0 4 == base && decide (0 < fld r.body 4 4) && decide (fld r.body 8 1 ≤ 4) && decide (fld r.body 9 1 ≤ 4) &&
  decide (fld r.body 10 1 ≤ 1) && decide (fld r.body 11 1 ≤ 1)

/-- STORE_REGION over the REGION records. -/
def chkRegions (base : Nat) : List Rec → Option Refuse
  | [] => none
  | r :: rs => need (regionOk r base) 0x0D18 r.off <|> chkRegions (base + fld r.body 4 4) rs

/-- STORE_REGION over the STREAK_HINT records. -/
def chkHints (i : Image) : Option Refuse :=
  let rs := recsOf i 0x0202
  let span (r : Rec) : Nat × Nat := (fld r.body 0 4, fld r.body 4 4)
  firstOf (List.range rs.length) (fun k =>
    match rs[k]? with
    | none => none
    | some r => need (fld r.body 8 1 ≤ 4 ∧ (rs.take k).all (fun x => !pagesMeet (span x) (span r))) 0x0D18 r.off)

/-- STORE_SHARE: each channel holds its share beside its reserve (R201, R257). -/
def chkShare (c : State) (i : Image) : Option Refuse :=
  need ((List.range 192).all (fun k => decide (4096 * (sharePages c k + reservePages c) ≤ channelBytes c))) 0x0D19 (recAt i 2 0x0201)

/-- STORE_COMMITTED. -/
def chkCommit (c : State) (i : Image) : Option Refuse :=
  need (ascending c.act.committed ∧ c.act.committed.all (fun r => inRegions c (4096 * r.1) (4096 * r.2))) 0x0D1A (recAt i 2 0x0204)

/-- Every page of `n` bytes from a page is committed, or none is. -/
def allCommitted (c : State) (pg n : Nat) : Bool :=
  (List.range (ceilDiv n 4096)).all (fun k => inPages c.act.committed (pg + k))
def noneCommitted (c : State) (pg n : Nat) : Bool := !meetsCommitted c (4096 * pg) n

/-- An update entry keeps to R228 and R229. -/
def updOk (c : State) (w : List Nat) : Bool :=
  let u := updEntry w
  let g (k : Nat) : Nat := w.getD k 0
  decide (u.rule ≤ 2) && decide (u.pFmt ≤ 1) && decide (u.gFmt ≤ 1) && decide (u.sFmt ≤ 1) && decide (u.round ≤ 2) &&
  bits (g 0) 15 17 == 0 && g 14 == 0 && g 15 == 0 && decide (0 < u.count) &&
  allCommitted c u.pPg (u.count * updWidth u.pFmt) && allCommitted c u.mPg (u.count * updWidth u.sFmt) &&
  (u.rule != 1 || allCommitted c u.vPg (u.count * updWidth u.sFmt)) && allCommitted c u.bcPg 8 &&
  noneCommitted c u.gPg (u.count * updWidth u.gFmt) && noneCommitted c u.lrPg 4

/-- STORE_UPDATE. -/
def chkUpdates (c : State) (i : Image) : Option Refuse :=
  let bcs := c.act.upd.map (fun w => w.getD 7 0)
  need (c.act.upd.all (updOk c) && decide bcs.Nodup) 0x0D1B (recAt i 2 0x0205)

/-- STORE_CKPT (R353, R403). -/
def chkCkpt (c : State) (i : Image) : Option Refuse :=
  let r := areaAt c 0
  need (2 * committedCount c ≤ r.2 ∧ 4 * (4096 * r.2) ≤ installed c ∧ [areaAt c 1, areaAt c 2].all (fun a => !pagesMeet r a) ∧
    c.act.committed.all (fun a => !pagesMeet r a) ∧ c.act.pinned.all (fun a => !pagesMeet r a)) 0x0D1C (recAt i 2 0x0206) <|>
  need (c.act.ckptInterval = 0 ∨ c.act.targets.any (fun t => t.role == 1)) 0x0D1C (recAt i 6 0x0601)

/-- The slice and set of each line of the pinned windows. -/
def pinPlaces (c : State) : List (Nat × Nat) :=
  (c.act.pinned.flatMap windowLines).filterMap (fun a => (linePlace c a).map (fun q => (q.slice, q.set)))

/-- PIN_REFUSED: no set holds more pinned lines than the cap of its slice (R209). -/
def chkPins (c : State) (i : Image) : Option Refuse :=
  let ps := pinPlaces c
  need (ps.all (fun p => decide ((ps.filter (· == p)).length ≤ pinCap c p.1))) 0x0503 (recAt i 2 0x0203)

/-- CH_SPREAD_SHORT: the reserves hold what the spreads in force put in them, those of the channels that were shuttered short
among them (R259). -/
def chkSpread (c : State) (i : Image) : Option Refuse :=
  let c := spreadShort c
  need ((List.range 192).all (fun k => decide (reserveUsed c c.store.spreads k ≤ reservePages c)) &&
    c.store.spreads.all (fun g => !g.targets.isEmpty)) 0x060B (recAt i 2 0x0201)

/-- BND_ADMISSION (R279). -/
def chkBands (c : State) (i : Image) : Option Refuse :=
  need ((List.range 48).all (fun u => decide (getF c F.BND_GUAR_SCOPE u ≤ 4)) && bandsAdmitted c) 0x0D20 (recAt i 3 1)

/-! ## The network -/

/-- A link port of the image. -/
def portOn (c : State) (p : Nat) : Bool := decide (p < 192) && getB c F.PRT_CFG_ENABLE p

/-- A link port of the image, or the host port. -/
def portOrHost (c : State) (p : Nat) : Bool := p == 255 || portOn c p

/-- Every port of a set is a port of the image. -/
def portsOn (c : State) (m : Nat) : Bool := (List.range 192).all (fun p => !bit m p || portOn c p)

/-- The lanes of a port: first lane of the device and count (R311). -/
def lanesOf (c : State) (p : Nat) : Nat × Nat := (2 * p, 2 * 2 ^ getF c F.PRT_CFG_WIDTH p)

/-- The configuration of a port is not reserved, is aligned and overlaps no other. -/
def portForm (c : State) (p : Nat) : Bool :=
  decide (getF c F.PRT_CFG_WIDTH p ≤ 2) && decide (getF c F.PRT_CFG_MIN_LANES p ≤ 2) &&
  (!getB c F.PRT_CFG_ENABLE p || (p % 2 ^ getF c F.PRT_CFG_WIDTH p == 0 &&
    (List.range 192).all (fun q => q == p || !getB c F.PRT_CFG_ENABLE q ||
      !meets (lanesOf c p).1 (lanesOf c p).2 (lanesOf c q).1 (lanesOf c q).2)))

/-- The egress of an FDB entry: a port or a set. -/
def egressOk (c : State) (e : Nat) : Bool := decide (0x1000 ≤ e ∧ e < 0x2000) || portOn c e

/-- A record names only ports of the image. -/
def recPorts (c : State) (r : Rec) : Bool :=
  let b := r.body
  let p (o : Nat) : Nat := fld b o 2
  match r.kind with
  | 0x0402 => portsOn c (fld b 8 24)
  | 0x0403 => portsOn c (fld b 8 24)
  | 0x0404 => egressOk c (p 8) && (p 10 == 0xFFFF || portOn c (p 10))
  | 0x0405 => portOn c (p 0)
  | 0x0406 => portOn c (p 20) && portOn c (p 22)
  | 0x0408 => [0, 2, 4, 6].all (fun o => p o == 0xFFFF || portOrHost c (p o))
  | 0x0409 => portOrHost c (p 0)
  | 0x040A => portOrHost c (p 6)
  | 0x040D => portOn c (p 0)
  | 0x0602 => portOn c (p 8)
  | 0x0603 => portOn c (p 8)
  | _ => true

/-- NET_PORT. -/
def chkPorts_ (c : State) (i : Image) : Option Refuse :=
  firstOf (List.range 192) (fun p => need (portForm c p) 0x0D28 (recAt i 4 1)) <|>
  firstOf (i.sects.flatMap (·.recs)) (fun r => need (recPorts c r) 0x0D28 r.off)

/-- NET_GATE (R322). -/
def chkGates (i : Image) : Option Refuse :=
  firstOf (recsOf i 0x0405) (fun r =>
    let es := (gatesOf r).2
    need (1 ≤ es.length ∧ es.length ≤ 128 ∧ es.all (fun e => bit e 7 && decide (0 < e / 256))) 0x0D29 r.off)

/-- The SENDs of the schedules: tile, transfer and route. -/
def sends (c : State) : List (Reach × Route) :=
  (List.range 512).flatMap (fun t => (allReaches c t (schedule c t)).filterMap (fun r =>
    if r.kind = .send then (routeTo c (xRemote r.desc % 65536) none).map (fun q => (r, q)) else none))

/-- The blocks of the SENDs in the replay buffer of their ports: port, first and last ns of the segment. Block `i` of a SEND is held
from its issue to HOLD after the wire time of the blocks up to it (assumption 61). -/
def heldBlocks (c : State) : List (Nat × Nat × Nat) :=
  (sends c).flatMap (fun x =>
    let at_ := x.1.bun.cyc * domeUnits c / 217
    (List.range (ceilDiv (xSize x.1.desc) 4096)).map (fun k => (x.2.primary, at_, at_ + holdNs c x.2 + (k + 1) * x.2.tWireP)))

/-- NET_REPLAY (R330). -/
def chkReplay (c : State) (i : Image) : Option Refuse :=
  let bs := heldBlocks c
  need (bs.all (fun b => decide ((bs.filter (fun x => x.1 == b.1 && decide (x.2.1 ≤ b.2.1) && decide (b.2.1 ≤ x.2.2))).length ≤ 2016)))
    0x0D2A (recAt i 4 0x0406)

/-- The peers that a phase sends to: the next member of a RING, every other member under DIRECT. -/
def phasePeers (p : CollPhase) : List Nat :=
  if p.algo = 0 then [p.members.getD ((p.i + 1) % max p.p 1) 0]
  else (List.range p.p).filterMap (fun j => if j = p.i then none else p.members[j]?)

/-- NET_ROUTE: every stream that a schedule names has a route, a collective one for each peer it sends to, and no pair appears
twice. -/
def chkRoutes (c : State) (i : Image) : Option Refuse :=
  let has (st : Nat) (peer : Option Nat) : Bool := (routeTo c st peer).isSome
  need (decide (c.act.routes.map (fun r => (r.stream, r.peer))).Nodup) 0x0D2B (recAt i 4 0x0406) <|>
  firstOf (List.range 512) (fun t => firstOf (allReaches c t (schedule c t)) (fun r =>
    match r.kind with
    | .send | .expect => need (has (xRemote r.desc % 65536) none) 0x0D2B (recAt i 4 0x0406)
    | .coll => need (c.act.colls.any (fun x => x.id == xRemote r.desc % 65536)) 0x0D2B (recAt i 4 0x0407)
    | _ => none)) <|>
  firstOf (recsOf i 0x0407) (fun r =>
    let x := collOf r
    need (x.phases.all (fun p => (phasePeers p).all (fun d => has x.id (some d)))) 0x0D2B r.off)

/-- NET_COLL; that I differs from INDEX is read as MEMBERS[I] not being INDEX (DEDUCED, assumption 117). -/
def chkColls (c : State) (i : Image) : Option Refuse :=
  firstOf (recsOf i 0x0407) (fun r =>
    let x := collOf r
    need (1 ≤ x.phases.length ∧ x.phases.length ≤ 4 ∧ x.phases.all (fun p =>
      decide (2 ≤ p.p) && decide (p.p ≤ 1024) && decide (p.i < p.p) && p.members.getD p.i 65536 == c.act.index && p.chunk % 4096 == 0 &&
      decide (p.type ≤ 2) && decide (p.algo ≤ 1) && (p.type != 2 || p.algo == 1) && decide (p.opx ≤ 7))) 0x0D2C r.off)

/-- NET_SERVICE. -/
def chkService (c : State) (i : Image) : Option Refuse :=
  firstOf (recsOf i 0x040C) (fun r =>
    let d := datasetOf r
    need (6 ≤ d.k ∧ d.k ≤ 16 ∧ d.role < d.d ∧ d.d ≤ d.shards ∧ 0 < d.records ∧ d.records < 2 ^ 32 ∧
      c.act.targets.any (fun t => t.role == 0)) 0x0D2D r.off)

/-! ## The meridian -/

/-- The actions that each reason allows (R371) and those of ESCALATE. -/
def policyAllowed : List (Field × List Nat) :=
  [(F.MER_POLICY_LATE, [0, 3, 6]), (F.MER_POLICY_NONFINITE, [1, 2, 3, 6]), (F.MER_POLICY_POISON, [1, 3, 6]),
   (F.MER_POLICY_SHUTTER, [3, 6]), (F.MER_POLICY_FAULT, [3, 6]), (F.MER_POLICY_DAMAGE, [4, 6]), (F.MER_POLICY_DEPART, [5, 6]),
   (F.MER_POLICY_ESCALATE, [4, 6])]

/-- MER_POLICY. -/
def chkPolicy (c : State) (i : Image) : Option Refuse :=
  need (policyAllowed.all (fun e => e.2.contains (getF c e.1 0))) 0x0D40 (recAt i 6 1)

/-- MER_LSCALE: LS_MIN, LS_MAX and INIT_E. -/
def chkScale (c : State) (i : Image) : Option Refuse :=
  let lo := sByte (getF c F.MER_LSCFG_LS_MIN 0)
  let hi := sByte (getF c F.MER_LSCFG_LS_MAX 0)
  let e := sByte c.act.initE
  need (-64 ≤ lo ∧ hi ≤ 64 ∧ lo ≤ hi ∧ lo ≤ e ∧ e ≤ hi) 0x0D41 (recAt i 6 1)

/-- MER_TIMEOUT: VOTE_TIMEOUT exceeds STALL_LIMIT. -/
def chkTimeout (c : State) (i : Image) : Option Refuse :=
  need (stallLimitNs c < getF c F.MER_TIMEOUT_VOTE_TIMEOUT 0 * 100000) 0x0D42 (recAt i 6 1)

/-- MER_RECORD. -/
def chkRecord (c : State) (i : Image) : Option Refuse :=
  need (inPages c.act.committed (getF c F.MER_RECORD_PG_PAGE 0)) 0x0D43 (recAt i 6 1)

/-- MER_TREE (R372). -/
def chkTree (c : State) (i : Image) : Option Refuse :=
  let level := recFld i 0x0601 6 1 0
  need (2 ≤ c.act.n ∧ c.act.n ≤ 65536 ∧ c.act.index < c.act.n ∧ level ≤ 4 ∧ c.act.children.length ≤ 32 ∧
    (recsOf i 0x0602).length ≤ 1 ∧ (c.act.parent.isSome ∨ level ≠ 0)) 0x0D44 (recAt i 6 0x0601)

/-- MER_COMMIT_TASK. -/
def chkTasks (c : State) (i : Image) : Option Refuse :=
  firstOf (recsOf i 0x0604) (fun r =>
    let k := taskOf r
    need (k.tile ≤ 511 ∧ 1 ≤ k.groups ∧ k.groups ≤ 32 ∧ namesTask c i k.tile k.task) 0x0D45 r.off)

/-! ## Modes, limits and reactions -/

/-- The entries of a STAGGER record: slice and mask (R497). -/
def staggerOf (b : List Byte) : List (Nat × Nat) :=
  (List.range (fld b 0 2)).map (fun k => (fld b (8 + 8 * k) 1, fld b (8 + 8 * k + 2) 2))

/-- OPS_MODE. -/
def chkModes (i : Image) : Option Refuse :=
  need ((List.range 4).all (fun k => decide (imgMode i k ≤ 1))) 0x0D48 (recAt i 7 0x0701) <|>
  firstOf (recsOf i 0x0702) (fun r =>
    let es := staggerOf r.body
    need (imgMode i 2 = 1 ∧ es.all (fun e => decide (e.1 ≤ 191) && e.2 != 0xFFFF) ∧ decide (es.map (·.1)).Nodup) 0x0D48 r.off)

/-- IMG_LIMIT. -/
def chkLimits (i : Image) : Option Refuse :=
  let within (v lo hi : Nat) : Bool := decide (lo ≤ v) && decide (v ≤ hi)
  firstOf (recsOf i 0x0801) (fun r =>
    let b := r.body
    need (within (fld b 0 1) 75 95 && within (fld b 1 1) 70 90 && within (fld b 2 1) 65 85 && within (fld b 4 2) 1000 3800 &&
      within (fld b 6 2) 50 400 && within (fld b 8 1) 0 1) 0x0D49 r.off)

/-- The codes that an OVERRIDE may lower, to INFO each (Table: Lowerable codes). -/
def lowerable : List Nat := [0x050B, 0x060D, 0x0705, 0x0E03]

/-- The refusal codes of class 0x0D, each of class INFO (R419). -/
def refusalCodes : List Nat :=
  (List.range 13).map (0x0D01 + ·) ++ [0x0D10] ++ (List.range 5).map (0x0D18 + ·) ++ [0x0D20] ++ (List.range 6).map (0x0D28 + ·) ++
    (List.range 22).map (0x0D30 + ·) ++ [0x0D48, 0x0D49, 0x0D4A, 0x0D50, 0x0D51, 0x0D52]

/-- The class at reset of a code of the spec. -/
def resetClass (code : Nat) : Option Nat :=
  if refusalCodes.contains code then some 0 else (C.table.find? (fun c => c.code == code)).map (·.cls)

/-- IMG_REACTION (R405, R508); an OVERRIDE of a code that no table lists is refused as well (DEDUCED, assumption 117). -/
def chkReactions (i : Image) : Option Refuse :=
  firstOf (recsOf i 0x0901) (fun r =>
    let code := fld r.body 0 2
    let cls := fld r.body 2 1
    match resetClass code with
    | none => some ⟨0x0D4A, r.off, 0⟩
    | some k => need (cls ≤ 4 ∧ code / 256 ≠ 0x0C ∧ k ≠ 5 ∧ (k ≤ cls ∨ lowerable.contains code)) 0x0D4A r.off)

/-! ## Deltas (R413, R414, R416) -/

/-- The body of JOBPARAMS without CKPT_INTERVAL. -/
def jobFixed (i : Image) : List Byte := match recOf i 0x0601 with
  | some r => r.body.take 12 ++ r.body.drop 16
  | none => []

/-- DELTA_FORBIDDEN: what a delta may not change (R413). `c` is the state it would make. -/
def chkForbidden (s c : State) (old d new : Image) : Option Refuse :=
  let rec_ (k : Nat) : List (List Byte) := (recsOf old k).map (·.body)
  need (d.job = old.job ∧ d.seed = old.seed ∧ d.fuseBind = old.fuseBind) 0x0D51 16 <|>
  need (rec_ 0x0204 = (recsOf new 0x0204).map (·.body) ∧ s.act.areas.take 4 = c.act.areas.take 4) 0x0D51 (recAt new 2 0x0204) <|>
  need ((regionsOf s).all (fun r => (regionsOf c).contains r ||
    !(s.act.committed.any (fun p => pagesMeet (r.base / 4096, r.size / 4096) p)))) 0x0D51 (recAt new 2 0x0201) <|>
  need (getF s F.MER_RECORD_PG_PAGE 0 = getF c F.MER_RECORD_PG_PAGE 0) 0x0D51 (recAt new 6 1) <|>
  need (jobFixed old = jobFixed new) 0x0D51 (recAt new 6 0x0601)

/-- DELTA_LATE: validation finishes in a job, outside HOLD, with the step counter at APPLY_STEP or more (R416). -/
def chkLate (s : State) (d : Image) : Option Refuse :=
  need (phase s = 0 ∨ phase s = 6 ∨ getF s F.MER_STEP_STEP 0 < d.applyStep) 0x0D52 56

/-! ## Validation (R409) -/

/-- The checks from IMG_SPARES to IMG_REACTION, on the state `c` that an image would make of the state `s`. -/
def chkRest (s c : State) (i : Image) : Option Refuse :=
  chkSpares s i <|> chkFuse s i <|> chkArea c i <|> chkBarrier i <|> chkRegions 0 (recsOf i 0x0201) <|> chkHints i <|> chkShare c i <|>
  chkCommit c i <|> chkUpdates c i <|> chkCkpt c i <|> chkPins c i <|> chkSpread c i <|> chkBands c i <|> chkPorts_ c i <|> chkGates i <|>
  chkReplay c i <|> chkRoutes c i <|> chkColls c i <|> chkService c i <|> chkEph c i <|> chkLane c i <|> chkTargets c i <|>
  chkPolicy c i <|> chkScale c i <|> chkTimeout c i <|> chkRecord c i <|> chkTree c i <|> chkTasks c i <|> chkModes i <|> chkLimits i <|>
  chkReactions i

/-- The checks that depend on the device's state, repeated at the apply of a delta: spares, shares, spreads, pin caps and admission
(R417). -/
def chkState (s c : State) (i : Image) : Option Refuse :=
  chkSpares s i <|> chkShare c i <|> chkPins c i <|> chkSpread c i <|> chkBands c i

/-- DELTA_BASE, the checks on the image a delta would produce, and those of a delta alone. -/
def chkDelta (s : State) (d : Image) : Option Refuse :=
  match s.act.image with
  | none => some ⟨0x0D50, 64, 0⟩
  | some old =>
    let new := mergeImage old d
    let c := wouldBe s new
    need (d.baseDigest = s.act.digest) 0x0D50 64 <|> chkRest s c new <|> chkForbidden s c old d new <|> chkLate s d

/-- The outcome of validation of the staged image: a refusal, or none when it passes. -/
def validate (s : State) : Option Refuse :=
  match chkStaged s with
  | some r => some r
  | none =>
    let i := stagedImage s
    if i.kind = 1 then chkDelta s i else chkRest s (wouldBe s i) i

end Sys2Proof.Machine
end

