-- ==== Sys2Proof/Machine/Ports.lean ====
section
/-!
DEFINITION. The switch (11, R315 to R319), the training and loss of ports (R332 to R338), frequency and time (R339 to R341)
and MACsec (R342).
-/
namespace Sys2Proof.Machine

/-! ## The switch (R315 to R319) -/

/-- Ports of a bitmap that are up, but for the port a frame came in on. -/
def portsOf (s : State) (m except : Nat) : List Nat := (List.range 192).filter (fun p => bit m p && p != except && portReady s p)

/-- The entry of the forwarding database for a frame: static, or learned. -/
def fdbFind (s : State) (vid mac : Nat) : Option FdbEntry :=
  match s.act.fdb.find? (fun e => e.vid == vid && e.mac == mac) with
  | some e => some e
  | none => s.net.learned.find? (fun e => e.vid == vid && e.mac == mac)

/-- The source address of a frame is learned where its VLAN learns and no static entry names it (R316). -/
def learn (s : State) (port : Nat) (f : EthFrame) : State :=
  let learns := s.act.vlans.any (fun v => v.vid == f.vid && v.learn)
  let fixed := s.act.fdb.any (fun e => e.vid == f.vid && e.mac == f.smac)
  let rest := s.net.learned.filter (fun e => !(e.vid == f.vid && e.mac == f.smac))
  if learns && !fixed && decide (s.act.fdb.length + rest.length < 65536) then
    { s with net := { s.net with learned := rest ++ [⟨f.vid, f.smac, port, 0xFFFF, false⟩] } }
  else s

/-- Where a frame goes: none when its destination is unknown and its VLAN does not learn (R315 to R317). -/
def egressOf (s : State) (port : Nat) (f : EthFrame) : Option (List Nat) :=
  match fdbFind s f.vid f.dmac with
  | some e =>
    if 0x1000 ≤ e.egress then
      some (portsOf s (match s.act.portSets.find? (fun x => x.1 == e.egress - 0x1000) with | some x => x.2 | none => 0) port)
    else if e.egress < 192 ∧ portReady s e.egress then some [e.egress]
    else if e.alt < 192 ∧ portReady s e.alt then some [e.alt]
    else some []
  | none =>
    match s.act.vlans.find? (fun v => v.vid == f.vid && v.learn) with
    | some v => some (portsOf s v.ports port)
    | none => none

/-- The width code of a port as it trained; the host port is 800GbE. -/
def widthUp (s : State) (p : Nat) : Nat := if p = 255 then 1 else getF s F.PRT_STATUS_WIDTH_UP p

/-- A frame leaves by one port: cut-through when the egress port is no wider than the ingress port, where a bad FCS is
inverted; else stored first, where a bad frame is dropped (R318). It is protected as the egress port is (R342). -/
def forwardTo (port : Nat) (f : EthFrame) (s : State) (p : Nat) : State :=
  let f := { f with secured := getB s F.PRT_CFG_MACSEC p }
  if widthUp s p ≤ widthUp s port then gateSend s ⟨p, port, f, !f.fcsOk⟩
  else if f.fcsOk then gateSend s ⟨p, port, f, false⟩ else s

/-- A forwarded frame finds no room in its ingress pier (R319). -/
def noRoom (s : State) (port : Nat) (f : EthFrame) : Bool := !pierRoom s (port / 48) (decide (5 ≤ f.pcp)) f.len

/-- A frame that the device forwards. -/
def forward (s : State) (port : Nat) (f : EthFrame) : State :=
  let s := learn s port f
  if noRoom s port f then
    let s := incF s F.PRT_DROP_COUNT port 1
    if 5 ≤ f.pcp then portEvent s port C.BUFFER_DROP else s
  else
    match egressOf s port f with
    | none => incF s F.PRT_DROP_COUNT port 1
    | some ps => ps.foldl (forwardTo port f) s

/-- The frame is the endpoint's own (R313, R315). -/
def ownFrame (s : State) (port : Nat) (f : EthFrame) : Bool :=
  let ip := if port = 255 then s.act.hostIp else s.act.linkIp
  f.dmac == (if port = 255 then s.act.hostMac else s.act.linkMac) && (match f.dip with | some a => a == ip | none => true)

/-- What the host port accepts in clear beside MCC: LLDP, PTP over layer 2 or UDP, and ESMC (R423). -/
def clearFrame (f : EthFrame) : Bool :=
  f.etype == 0x88CC || f.etype == 0x88F7 || f.etype == 0x8809 || f.dport == some 319 || f.dport == some 320

/-- The host port takes a frame that is not MCC: in clear until a session is secured, and from then on only a protected one
(R423). -/
def hostTakes (s : State) (f : EthFrame) : Bool :=
  if s.mcc.session.isSome then f.secured else clearFrame f && !f.secured || f.secured && s.mcc.fresh.isSome

/-- FRAME_RECEIVE (R313, R315, R342, R423). -/
def execFrameReceive (port : Nat) (frame : EthFrame) (s : State) : Out :=
  if portUp s port then
    if port = 255 ∧ hostTakes s frame = false then .next (incF s F.MCC_DROP_COUNT 0 1)
    else if getB s F.PRT_CFG_MACSEC port && !frame.secured then .next s
    else
      let s := if frame.secured then setPort s port { getPort s port with secured := true } else s
      if ownFrame s port frame then
        .next (if frame.fcsOk then { s with net := { s.net with rx := s.net.rx ++ [frame] } } else s)
      else if port = 255 then .next s
      else .next (forward s port frame)
  else .next s

/-! ## Frequency (R339) -/

/-- The first usable SyncE source of the image's list. -/
def synceChoice (s : State) : Option Nat := s.act.synce.find? (fun p => portUp s p && !s.net.synceBad.contains p)

/-- The quality level that ESMC carries in holdover: an EEC of option 1 (assumption 53). -/
def holdoverQl : Nat := 11

/-- A SyncE source is selected, or the device goes into holdover. -/
def selectSynce (s : State) (note : Bool) : State :=
  match synceChoice s with
  | some p =>
    let s := setF (setB s F.TIME_STATUS_SYNCE_LOCKED 0 true) F.TIME_STATUS_SYNCE_PORT 0 p
    if note then portEvent s p C.SYNCE_SWITCH else s
  | none => emit (record (setB s F.TIME_STATUS_SYNCE_LOCKED 0 false) C.SYNCE_HOLDOVER 0) (.esmc holdoverQl)

/-- A port is up: with no source selected the first usable one is taken (R339). -/
def reselect (s : State) : State :=
  if getB s F.TIME_STATUS_SYNCE_LOCKED 0 || (synceChoice s).isNone then s else selectSynce s false

/-! ## The loss of a port (R335, R337) -/

/-- A port is to be shuttered: at the next commit point, or at once with no job or in HOLD (R337). -/
def shutterPortDue (s : State) (p : Nat) : State :=
  if phase s = 0 ∨ phase s = 6 then shutterPort s p else setPort s p { getPort s p with shutterDue := true }

/-- A port that goes down (R335, R337); an OVERRIDE that lowers PORT_FLAP takes away its shutter (R508). -/
def losePort (s : State) (p : Nat) : State :=
  let s := setF s F.PRT_STATUS_STATE p 4
  let x := getPort s p
  let ds := (elapsedNs s :: x.downs).filter (fun t => decide (elapsedNs s < t + 60000000000))
  let s := setPort s p { x with upSince := none, downs := ds, secured := false }
  let lost := (s.act.routes.filter (fun r => !covered s r)).any (fun r => r.primary == p || r.alternate == p)
  let s := moveRoutes (portEvent s p C.PORT_DOWN)
  let s := if lost && phase s != 0 then portEvent s p C.ROUTE_LOST else s
  if 3 < ds.length then
    let s := portEvent s p C.PORT_FLAP
    if 2 ≤ effClass s C.PORT_FLAP then shutterPortDue s p else s
  else s

/-- PORT_DOWN. -/
def execPortDown (port : Nat) (s : State) : Out := .next (if portUp s port then losePort s port else s)

/-! ## Training (R311, R312, R332, R334) -/

/-- The lanes of a width code. -/
def widthLanes (w : Nat) : Nat := 2 * 2 ^ w

/-- MIN_LANES and WIDTH name 2, 4 or 8 lanes. -/
def laneMask (first n : Nat) : Nat := (2 ^ n - 1) * 2 ^ first

/-- The lanes of a port group that the fuse map lists as disabled (R312). -/
def lanesOff (s : State) (g : Nat) : Nat := mget s.boot.fuse (8 + g) 0

/-- The widest width from `w` down of which an aligned set within the port's lanes has trained: its code and first lane. -/
def widest (ok first lanes : Nat) : Nat → Option (Nat × Nat)
  | w =>
    let sets (v : Nat) : List Nat := (List.range 8).filter (fun i =>
      i % widthLanes v == 0 && decide (first ≤ i) && decide (i + widthLanes v ≤ first + lanes) &&
        (ok &&& laneMask i (widthLanes v)) == laneMask i (widthLanes v))
    ((List.range (w + 1)).reverse).findSome? (fun v => (sets v).head?.map (fun i => (v, i)))

/-- The trained lanes are kept in the logbook (R334). -/
def keepLanes (s : State) (g ok : Nat) : State :=
  (List.range 8).foldl (fun s i => if bit ok i then logKeep s tSerdes (8 * g + i) (leBytes 1 8) else s) s

/-- A port comes up. -/
def raisePort (s : State) (p w : Nat) (lldp : Bool) : State :=
  let s := setF (setF (setF s F.PRT_STATUS_STATE p 2) F.PRT_STATUS_WIDTH_UP p w) F.PRT_STATUS_HELD p 0
  setPort s p { getPort s p with upSince := some (elapsedNs s), trainStart := none, lldpOk := lldp, secured := false }

/-- A port is held down for a reason of PRT_STATUS.HELD. -/
def holdPort (s : State) (p why : Nat) : State :=
  let s := setF (setF s F.PRT_STATUS_STATE p 3) F.PRT_STATUS_HELD p why
  setPort s p { getPort s p with upSince := none, trainStart := none }

/-- Training of a port ends (R332). -/
def trainPort (s : State) (p trained : Nat) (lldp : Bool) : State :=
  let g := p / 4
  let first := p % 4 * 2
  let w := getF s F.PRT_CFG_WIDTH p
  let lanes := widthLanes w
  let mine := laneMask first lanes &&& 255
  let ok := trained &&& mine &&& (255 - lanesOff s g % 256)
  let s := setF (setF s F.PRT_LANES_TRAINED p ok) F.PRT_LANES_FAILED p (mine - ok)
  let s := (List.range 8).foldl (fun s i => if bit mine i then setB s F.FLT_SHUT_LANE (8 * g + i) (!bit ok i) else s) s
  let s := keepLanes s g ok
  let s := match widest ok first lanes w with
    | none =>
      let s := setPort (setF s F.PRT_STATUS_STATE p 4) p { getPort s p with trainStart := none, upSince := none }
      portEvent s p C.PORT_UNTRAINED
    | some (v, _) =>
      let s := if v < w then portEvent s p C.PORT_NARROW else s
      if widthLanes v < widthLanes (getF s F.PRT_CFG_MIN_LANES p) then holdPort (setF s F.PRT_STATUS_WIDTH_UP p v) p 1
      else if lldp then raisePort s p v true
      else
        let s := holdPort (setF s F.PRT_STATUS_WIDTH_UP p v) p 2
        portEvent (setPort s p { getPort s p with lldpOk := false }) p C.PORT_MISWIRED
  moveRoutes s

/-- PORT_TRAINING_DONE. -/
def execPortTrainingDone (port : Nat) (trained : Nat) (lldpOk : Bool) (s : State) : Out :=
  .next (if getF s F.PRT_STATUS_STATE port = 1 then reselect (trainPort s port trained lldpOk) else s)

/-- A port begins to train. -/
def startTraining (s : State) (p : Nat) : State :=
  setPort (setF (setF s F.PRT_STATUS_STATE p 1) F.PRT_STATUS_HELD p 0) p { getPort s p with trainStart := some (elapsedNs s) }

/-- PORT_TRAINS_AGAIN (R336): a port that went down is up again. -/
def execPortTrainsAgain (port : Nat) (s : State) : Out :=
  if getF s F.PRT_STATUS_STATE port = 4 then
    let s := raisePort s port (getF s F.PRT_STATUS_WIDTH_UP port) true
    .next (reselect { s with net := { s.net with synceBad := s.net.synceBad.filter (· != port) } })
  else .next s

/-! ## Cages (R338, R559) -/

/-- The ports of a group. -/
def groupPorts (g : Nat) : List Nat := (List.range 4).map (fun k => 4 * g + k)

/-- The presence of a cage: PIN_PRESENT and PRESENT of the group's ports; group 48 is the host cage. -/
def setPresent (s : State) (g : Nat) (v : Bool) : State :=
  let m := getF s F.PIN_PRESENT_PRESENT 0
  let s := setF s F.PIN_PRESENT_PRESENT 0 (if v then m ||| 2 ^ g else m &&& (2 ^ 64 - 1 - 2 ^ g))
  if g = 48 then setB s F.PRT_STATUS_PRESENT 255 v
  else (groupPorts g).foldl (fun s p => setB s F.PRT_STATUS_PRESENT p v) s

/-- CAGE_INSERT (R338): present for 100 ms; a module above the cage limit is refused, and a listed port trains. -/
def execCageInsert (group : Nat) (power : Nat) (s : State) : Out :=
  let s := setPresent s group true
  if 48 ≤ group then .next s
  else
    let ps := (groupPorts group).filter (fun p => getB s F.PRT_CFG_ENABLE p)
    let limit := (s.act.cages.find? (fun c => c.1 == group)).map (·.2)
    let excess := match limit with
      | some l => decide (l < power)
      | none => false
    if excess then
      .next (moveRoutes (ps.foldl (fun s p => holdPort s p 4) (portEvent s (4 * group) C.MODULE_REFUSED)))
    else .next (ps.foldl (fun s p =>
      let st := getF s F.PRT_STATUS_STATE p
      if st = 2 ∨ st = 5 then s else startTraining s p) s)

/-- CAGE_UNPLUG (R559): the ports of the group go down. -/
def execCageUnplug (group : Nat) (s : State) : Out :=
  let s := setPresent s group false
  let ps := if group = 48 then [255] else groupPorts group
  .next (ps.foldl (fun s p =>
    if portUp s p then losePort s p
    else if getF s F.PRT_STATUS_STATE p = 1 ∨ getF s F.PRT_STATUS_STATE p = 3 then
      setF (setF s F.PRT_STATUS_STATE p 4) F.PRT_STATUS_HELD p 0
    else s) s)

/-! ## Frequency: a source fails (R339) -/

/-- SYNCE_SOURCE_FAIL: the selected source is passed over. -/
def execSynceSourceFail (s : State) : Out :=
  if getB s F.TIME_STATUS_SYNCE_LOCKED 0 then
    let p := getF s F.TIME_STATUS_SYNCE_PORT 0
    .next (selectSynce { s with net := { s.net with synceBad := p :: s.net.synceBad } } true)
  else .next s

/-! ## Time (R340, R341) -/

/-- ALIGNED takes a value; its fall during a job is recorded. -/
def setAligned (s : State) (v : Bool) : State :=
  let was := getB s F.TIME_STATUS_ALIGNED 0
  let s := setB s F.TIME_STATUS_ALIGNED 0 v
  if was && !v && phase s != 0 then record s C.TIME_ALIGN 0 else s

/-- The steering that ±100 ppb allows since the last accepted Sync, in units of 1/217 ns. -/
def steerLimit (s : State) : Int := (((elapsedNs s - s.net.lastSync) * 217 / 10000000 : Nat) : Int)

/-- PTP_SYNC: a Sync message is accepted on a slave port and the servo steers (assumption 49). -/
def execPtpSync (port : Nat) (offset : Int) (s : State) : Out :=
  if s.act.ptp.contains (port, 1) && portUp s port && (!getB s F.PRT_CFG_MACSEC port || (getPort s port).secured) then
    let s := setF (setB s F.TIME_STATUS_PTP_LOCKED 0 true) F.TIME_STATUS_PTP_PORT 0 port
    let s := setB (setF s F.TIME_OFFSET_OFFSET 0 (BitVec.ofInt 32 offset).toNat) F.TIME_STATUS_HOLDOVER 0 false
    let s := setAligned s (decide (-20 ≤ offset) && decide (offset ≤ 20))
    let big := decide (offset < -500) || decide (500 < offset)
    let lim := steerLimit s
    let s' := { s with net := { s.net with lastSync := elapsedNs s, ptpDue := if big then some offset else none } }
    if big then .next (if phase s = 0 then stepTime s' else s')
    else .next (shiftTime s' (max (-lim) (min lim (-(offset * 217)))))
  else .next s

/-- TIME_HOLDOVER: no Sync message for 2 s. -/
def execTimeHoldover (s : State) : Out :=
  if passed s s.net.lastSync 2000000000 && !getB s F.TIME_STATUS_HOLDOVER 0 && !s.act.ptp.isEmpty then
    let s := setB (setB s F.TIME_STATUS_HOLDOVER 0 true) F.TIME_STATUS_PTP_LOCKED 0 false
    .next (setAligned (record s C.TIME_HOLDOVER 0) false)
  else .next s

/-- SYNC_INTERVAL (R340): every 2^−4 s, ports of the master role send Sync. -/
def execSyncInterval (s : State) : Out :=
  if passed s s.net.syncOut 62500000 then
    let ps := (s.act.ptp.filter (fun e => e.2 == 2 && portReady s e.1)).map (·.1)
    .next (ps.foldl (fun s p => emit s (.ptpSync p (nowNs s))) { s with net := { s.net with syncOut := elapsedNs s } })
  else .next s

/-! ## MACsec (R342) -/

/-- LINK_MACSEC: 2 s after training MKA has not secured the port. -/
def execLinkMacsec (port : Nat) (s : State) : Out :=
  let x := getPort s port
  let late := match x.upSince with
    | some t => passed s t 2000000000
    | none => false
  if getB s F.PRT_CFG_MACSEC port && portUp s port && !x.secured && late then
    .next (moveRoutes (portEvent (holdPort s port 3) port C.LINK_MACSEC))
  else .next s

end Sys2Proof.Machine
end

