-- ==== Sys2Proof/Machine/Power.lean ====
section
/-!
DEFINITION. Power (16): rails, set-points and quotas, gating, the wake governor, forecasts, power limits and failed trim
regulators (R461 to R479).
-/
namespace Sys2Proof.Machine

/-! ## Rails (R461, R464) -/

/-- The nominal set-point of a rail in 2.5 mV steps (Table: Package rails); VDOME starts at 0.60 V. -/
def nominal (r : Nat) : Nat := [240, 240, 240, 240, 288, 300, 300, 320, 480, 420, 200, 300, 220, 720].getD r 0

def getRail (s : State) (r : Nat) : Rail := mget s.pwr.rails r {}

def setRail (s : State) (r : Nat) (x : Rail) : State := { s with pwr := { s.pwr with rails := mput natLt s.pwr.rails r x {} } }

/-- The rail at the head of the order is enabled by PMBus. -/
def enableHead (s : State) : State :=
  match s.pwr.order with
  | r :: _ =>
    let s := setRail s r { on := true, since := elapsedNs s, good := false }
    { (setF s F.PWR_RAIL_SET_SET r (nominal r)) with net := { s.net with out := s.net.out ++ [.pmbus r (nominal r)] } }
  | [] => s

/-- Rails to be enabled one after another. -/
def enableRails (s : State) (rs : List Nat) : State := enableHead { s with pwr := { s.pwr with order := rs } }

/-- RAIL_POWER_GOOD (R464): the next rail of the order is enabled after the rail before it reports power good. -/
def execRailPowerGood (rail : Nat) (s : State) : Out :=
  match s.pwr.order with
  | r :: rest =>
    if r = rail then
      let s := setF (setRail s r { getRail s r with good := true }) F.PWR_RAIL_SET_SET r (nominal r)
      .next (enableHead { s with pwr := { s.pwr with order := rest } })
    else .next s
  | [] => .next s

/-- A rail may fail: it has reported power good and leaves its tolerance, or 5 ms have passed since its enable (R464). -/
def railMayFail (s : State) (rail : Nat) : Bool :=
  (getRail s rail).on && ((getRail s rail).good || passed s (getRail s rail).since 5000000)

/-- RAIL_FAULT (R464, R479): a change of clock mode that waits is abandoned at the old mode. -/
def execRailFault (rail : Nat) (s : State) : Out :=
  if railMayFail s rail then
    .next (record { (setRail s rail { getRail s rail with good := false }) with act := { s.act with clockDue := none } } C.RAIL_FAULT rail)
  else .next s

/-! ## Set-points (R462) -/

/-- The tile is ON or waking, and counts in the maximum of its die. -/
def drawing (s : State) (p : Nat) : Bool := 2 ≤ (getTileP s p).state && !getB s F.FLT_SHUT_TILE p

/-- The value of VDOMEn in 2.5 mV steps. -/
def vdome (s : State) (n : Nat) : Nat :=
  let ps := ((List.range 144).map (144 * n + ·)).filter (drawing s)
  if ps.isEmpty then 240 else min vCeiling ((ps.map (fun p => setPoint s p + (getTileP s p).quota)).foldl max 0)

/-- VDOMEn follows its tiles over AVSBus; changes wait while PMBus does not answer (R462, R479). -/
def postVdome (s : State) : State :=
  if 3 ≤ s.pwr.misses then s
  else (List.range 4).foldl (fun s n =>
    if (getRail s n).on && getF s F.PWR_RAIL_SET_SET n != vdome s n then
      { (setF s F.PWR_RAIL_SET_SET n (vdome s n)) with net := { s.net with out := s.net.out ++ [.pmbus n (vdome s n)] } }
    else s) s

/-! ## Minimum-voltage recorders (R476) -/

/-- A sample of a recorder: the lowest value and the device time at which it first occurred. -/
def sampleMin (s : State) (minF validF timeF : Field) (u v : Nat) : State :=
  if getB s validF u && decide (getF s minF u ≤ v) then s
  else setF (setB (setF s minF u v) validF u true) timeF u (nowNs s)

/-- A voltage of a physical tile that hosts a logical tile enters its recorder. -/
def sampleTile (s : State) (p v : Nat) : State :=
  match logicalOf s p with
  | some t => sampleMin s F.TRIM_MIN_MIN F.TRIM_MIN_VALID F.TRIM_MINT_TIME t v
  | none => s

/-! ## PMBus (R461, R473, R479) -/

/-- One rail's reading: its index, voltage in 2.5 mV steps and current in 0.1 A. -/
def readRail (s : State) (x : Nat × Nat × Nat) : State :=
  let s := setF (setF s F.PWR_RAIL_SET_V x.1 x.2.1) F.PWR_RAIL_I_I x.1 x.2.2
  sampleMin s F.PWR_RAIL_MIN_MIN F.PWR_RAIL_MIN_VALID F.PWR_RAIL_MINT_TIME x.1 x.2.1

/-- Package power in W from the last readings: 2.5 mV × 0.1 A is 0.25 mW. -/
def railWatts (s : State) : Nat :=
  ((List.range 14).map (fun r => getF s F.PWR_RAIL_SET_V r * getF s F.PWR_RAIL_I_I r)).foldl (· + ·) 0 / 4000

/-- Package power with the estimators in place of the readings of the VDOME rails (R479). -/
def estWatts (s : State) : Nat :=
  let dome := (s.pwr.tiles.map (fun e => e.2.current * getF s F.PWR_RAIL_SET_SET (e.1 / 144))).foldl (· + ·) 0
  let rest := ((List.range 10).map (fun k => getF s F.PWR_RAIL_SET_V (k + 4) * getF s F.PWR_RAIL_I_I (k + 4))).foldl (· + ·) 0
  (dome + rest) / 4000

/-- Package power of a 1 ms enters PWR_PKG: the average and the highest of the last 10 ms. -/
def pushWatts (s : State) (w : Nat) : State :=
  let ws := (w :: s.pwr.watts).take 10
  let s := setF s F.PWR_PKG_AVG 0 (min 4095 (ws.foldl (· + ·) 0 / max ws.length 1))
  { (setF s F.PWR_PKG_PEAK 0 (min 4095 (ws.foldl max 0))) with pwr := { s.pwr with watts := ws } }

/-- PMBUS_POLL (R461, R479): a poll that is answered gives every rail's reading; three polls in a row without an answer record
PMBUS_LOST. -/
def execPmbusPoll (readings : List (Nat × Nat × Nat)) (answered : Bool) (s : State) : Out :=
  if s.flt.coreUp then
    if answered then
      let s := (readings.filter (fun x => decide (x.1 < 14))).foldl readRail (setB s F.PWR_STATUS_PMBUS_OK 0 true)
      let s := { s with pwr := { s.pwr with misses := 0 } }
      .next (postVdome (pushWatts s (railWatts s)))
    else
      let n := s.pwr.misses + 1
      let s := setB { s with pwr := { s.pwr with misses := n } } F.PWR_STATUS_PMBUS_OK 0 false
      let s := pushWatts s (if 3 ≤ n then estWatts s else railWatts s)
      .next (if n = 3 then record s C.PMBUS_LOST 0 else s)
  else .next s

/-! ## Quotas (R463) -/

/-- The recorder of a logical tile fell below a level since the last evaluation. -/
def fellBelow (s : State) (t level seen : Nat) : Bool :=
  getB s F.TRIM_MIN_VALID t && decide (getF s F.TRIM_MIN_MIN t < level) && decide (getF s F.TRIM_MIN_MIN t < seen)

/-- The quota raised for good by a fall of the recorder: 2.5 mV, up to 60 mV (R463). -/
def raiseQuota (s : State) (p : Nat) (note : Bool) : State :=
  let x := getTileP s p
  let s := setTileP s p { x with quota := min 24 (x.quota + 1), settled := true }
  if note then record s C.QUOTA_RAISED (tileUnit s p) else s

/-- QUOTA_EVAL (R463): in its first 10 s in Tracking a tile without a record loses 2.5 mV for each second in which its recorder
stayed up, down to 15 mV; a fall raises the quota. -/
def execQuotaEval (tile : Nat) (s : State) : Out :=
  let p := physOf s tile
  let x := getTileP s p
  if devState s = 6 && x.state == 2 then
    let low := fellBelow s tile (setPoint s p - 4) x.seenMin
    let x := { x with seenMin := getF s F.TRIM_MIN_MIN tile, tracked := some (x.tracked.getD (elapsedNs s)) }
    let s := setTileP s p x
    let first := !x.settled && !passed s (x.tracked.getD 0) 10000000000
    if low then .next (postVdome (raiseQuota s p (!first)))
    else if first && passed s (max x.lastEval (x.tracked.getD 0)) 1000000000 then
      .next (postVdome (setTileP s p { x with quota := max 6 (x.quota - 1), lastEval := elapsedNs s }))
    else .next s
  else .next s

/-! ## Gating (R467) -/

/-- A tile goes to RETAIN: its lane registers and data cache are not kept (R466). -/
def retainTile (s : State) (p : Nat) : State :=
  let s := setTileP s p { getTileP s p with state := 1 }
  match logicalOf s p with
  | some t => setLane s t { getLane s t with lines := [] }
  | none => s

/-- The start of the hold in force: a stall, or a debug halt. -/
def holdSince (s : State) : Option Nat :=
  match s.eph.stallStart with
  | some t => some t
  | none => if s.eph.debugHalt then s.pwr.holdStart else none

/-- A logical tile that gating takes: ON, without a resident lane group, and not the one whose datapath the stall waits for. -/
def gates (s : State) (t : Nat) : Bool :=
  (getTileP s (physOf s t)).state == 2 && (getLane s t).groups.all (fun e => e.2.isNone) &&
    !stallWaitsFor s t

/-- The cause that stands for the extension of a gated hold: no tile's, and no code of EPH_STATUS.CAUSE. -/
def gateCause : StallCause := ⟨512, 0, 0⟩

/-- TILE_GATE (R467). -/
def execTileGate (s : State) : Out :=
  let k := getF s F.PWR_CFG_GATE_AFTER 0
  let asked := getF s F.PAUSE_STATUS_POWER_REQ 0 != 0 || getF s F.PAUSE_STATUS_THERMAL_REQ 0 != 0
  match holdSince s with
  | none => .next s
  | some t0 =>
    if k != 0 && asked && !s.pwr.gated && passed s t0 (1000 * k) then
      let ps := ((List.range 512).filter (gates s)).map (physOf s)
      let s := ps.foldl retainTile s
      .next (postVdome { s with pwr := { s.pwr with gated := true }, eph := { s.eph with causes := s.eph.causes ++ [gateCause] } })
    else .next s

/-! ## The wake governor (R468 to R471) -/

/-- Wakes asked for tiles that are OFF or in RETAIN; a shuttered tile is skipped (R479). -/
def askWakes (s : State) (ps : List Nat) : State :=
  let due := ps.filter (fun p => decide ((getTileP s p).state < 2) && !getB s F.FLT_SHUT_TILE p && !s.pwr.queue.any (fun e => e.1 == p))
  { s with pwr := { s.pwr with queue := s.pwr.queue ++ due.map (fun p => (p, elapsedNs s)) } }

/-- Tiles that host logical tiles, row by row in ascending physical row (R453). -/
def hostTiles (s : State) : List Nat :=
  ((List.range 9).flatMap (fun r => (List.range 4).flatMap (fun d => (List.range 16).map (fun c => 144 * d + 16 * r + c)))).filter
    (fun p => (logicalOf s p).isSome)

/-- The tiles that wait in RETAIN for the end of a gated hold, in ascending physical index. -/
def retained (s : State) : List Nat :=
  (List.range 576).filter (fun p => (getTileP s p).state == 1 && !getB s F.FLT_SHUT_TILE p && (logicalOf s p).isSome)

/-- The causes of a gated hold have ended. -/
def gateOver (s : State) : Bool := s.pwr.gated && !s.eph.debugHalt && s.eph.causes.all (· == gateCause)

/-- A gated hold whose causes have ended asks for its wakes, and is lifted when the last of them is ON (R467). -/
def stepGate (s : State) : State :=
  if gateOver s then
    if (retained s).isEmpty && s.pwr.queue.isEmpty && s.pwr.ramps.isEmpty then
      { s with
        pwr := { s.pwr with gated := false }
        eph := { s.eph with causes := [], stallStart := none, stallLeaving := false } }
    else
      let s := askWakes s (retained s)
      { s with eph := { s.eph with stallStart := some (s.eph.stallStart.getD (elapsedNs s)) } }
  else s

/-- The rail budget in 1/80 A per µs (R469). -/
def wakeBudget (s : State) : Nat :=
  let w := limitOf s.act.image 6 2 400
  if getB s F.PWR_STATUS_FCST 0 then 80 * w else 20 * w

/-- The charge of a ramp in 1/80 A per µs: a fast ramp lasts 2 µs and a slow one 8 µs. -/
def charge (step : Nat) (slow : Bool) : Nat := if slow then step else 4 * step

/-- Tiles at a row or column distance of 1 on the same die. -/
def neighbours (p q : Nat) : Bool :=
  let d (a b : Nat) : Nat := max a b - min a b
  p / 144 == q / 144 && d (p % 144 / 16) (q % 144 / 16) + d (p % 16) (q % 16) == 1

/-- A neighbour draws more than 90 % of its 10 A limit (R471). -/
def slowWake (s : State) (p : Nat) : Bool :=
  s.pwr.tiles.any (fun e => neighbours p e.1 && decide (90 < e.2.current) && drawing s e.1)

/-- The step of a wake in 0.1 A: the tile's forecast, which the spec gives no value, or 12 A without forecasts (R469). -/
def wakeStep (s : State) : Nat := if getB s F.PWR_STATUS_FCST 0 then Config.freeNat s.sys.free else 120

/-- TILE_WAKE_START (R470, R471): the first wake that waits on the tile's rail starts when its charge fits the budget. -/
def execTileWakeStart (phys : Nat) (s : State) : Out :=
  let s := stepGate s
  match s.pwr.queue.find? (fun e => e.1 / 144 == phys / 144) with
  | some e =>
    if e.1 = phys then
      let slow := slowWake s phys
      let step := wakeStep s
      let used := ((s.pwr.ramps.filter (fun r => r.phys / 144 == phys / 144)).map (fun r => charge r.step r.slow)).foldl (· + ·) 0
      if used + charge step slow ≤ wakeBudget s then
        let s := if getB s F.PWR_STATUS_FCST 0 then takeFree s else s
        let x := getTileP s phys
        let s := setTileP s phys { x with wakeFrom := x.state, state := 3 }
        let s := { s with pwr := { s.pwr with queue := s.pwr.queue.filter (fun q => q.1 != phys)
                                              ramps := s.pwr.ramps ++ [⟨phys, slow, elapsedNs s, step⟩] } }
        let s := incF s F.PWR_WAKES_COUNT 0 1
        let s := if slow then incF s F.PWR_SLOW_COUNT 0 1 else s
        let s := setF s F.PWR_QWAIT_COUNT 0 (max (getF s F.PWR_QWAIT_COUNT 0) (min (elapsedNs s - e.2) (2 ^ 32 - 1)))
        let s := match logicalOf s phys with
          | some t => setB s F.TRIM_I_SLOW_LAST t slow
          | none => s
        .next (postVdome s)
      else .next s
    else .next s
  | none => .next s

/-- A tile that wakes from OFF has kept nothing; after RETAIN the parity of its registers is checked (R72, R466). -/
def wakeTile (s : State) (p : Nat) (parityOk : Bool) : State :=
  let x := getTileP s p
  let s := setTileP s p { x with state := 2 }
  match logicalOf s p with
  | none => s
  | some t =>
    if x.wakeFrom = 0 then setLane (setEph (setArr s t {}) t {}) t {}
    else if parityOk then s
    else arrayFaults s t [⟨5, 0⟩]

/-- TILE_WAKE_DONE (R470): a ramp of 2 or 8 µs ends. -/
def execTileWakeDone (phys : Nat) (parityOk : Bool) (s : State) : Out :=
  match s.pwr.ramps.find? (fun r => r.phys == phys) with
  | some r =>
    if passed s r.start (if r.slow then 8000 else 2000) then
      let s := { s with pwr := { s.pwr with ramps := s.pwr.ramps.filter (fun q => q.phys != phys) } }
      .next (stepGate (wakeTile s phys parityOk))
    else .next s
  | none => .next s

/-! ## Limits (R473 to R475) -/

/-- POWER_CAP_EVAL (R473): once every 1 ms, on the average of the last 10 ms. -/
def execPowerCapEval (s : State) : Out :=
  if s.flt.coreUp && passed s s.pwr.capAt 1000000 then
    let cap := limitOf s.act.image 4 2 3800
    let avg := getF s F.PWR_PKG_AVG 0
    let req := getF s F.PWR_STATUS_CAP_REQ 0
    let s := { s with pwr := { s.pwr with capAt := elapsedNs s } }
    if cap < avg then
      let s := setF { s with pwr := { s.pwr with capLow := none } } F.PWR_STATUS_CAP_REQ 0 (min 15 (req + 1))
      .next (postPower (if req = 0 then record s C.POWER_CAPPING 0 else s))
    else if avg * 100 < cap * 97 then
      match s.pwr.capLow with
      | none => .next { s with pwr := { s.pwr with capLow := some (elapsedNs s) } }
      | some t =>
        if passed s t 100000000 then
          .next (postPower (setF { s with pwr := { s.pwr with capLow := some (elapsedNs s) } } F.PWR_STATUS_CAP_REQ 0 (req - 1)))
        else .next s
    else .next { s with pwr := { s.pwr with capLow := none } }
  else .next s

/-- An estimator's value in 0.1 A. -/
def putEstimate (s : State) (e : Nat × Nat) : State :=
  let s := setTileP s e.1 { getTileP s e.1 with current := e.2 }
  match logicalOf s e.1 with
  | some t => setF s F.TRIM_I_I t (min 255 e.2)
  | none => s

/-- The estimators of a VDOME rail summed, in 0.1 A. -/
def railSum (s : State) (n : Nat) : Nat :=
  ((s.pwr.tiles.filter (fun e => e.1 / 144 == n)).map (fun e => e.2.current)).foldl (· + ·) 0

/-- The end of a 1 ms of R474: a rail whose average exceeded 900 A raises HW_REQ by 1. -/
def endRailMs (s : State) : State :=
  if passed s s.pwr.estAt 1000000 then
    let high := s.pwr.sums.any (fun x => decide (9000 * max s.pwr.samples 1 < x))
    let s := { s with pwr := { s.pwr with sums := [0, 0, 0, 0], samples := 0, estAt := elapsedNs s } }
    if high then postPower (setF s F.PWR_STATUS_HW_REQ 0 (min 15 (getF s F.PWR_STATUS_HW_REQ 0 + 1))) else s
  else s

/-- No rail above 850 A for 10 ms lowers HW_REQ by 1. -/
def lowerHw (s : State) (calm : Bool) : State :=
  if calm then
    match s.pwr.lowSince with
    | none => { s with pwr := { s.pwr with lowSince := some (elapsedNs s) } }
    | some t =>
      if passed s t 10000000 then
        postPower (setF { s with pwr := { s.pwr with lowSince := some (elapsedNs s) } } F.PWR_STATUS_HW_REQ 0 (getF s F.PWR_STATUS_HW_REQ 0 - 1))
      else s
  else { s with pwr := { s.pwr with lowSince := none } }

/-- The start of the spell of a VDOME rail above 1,150 A with HW_REQ at 15. -/
def setOver (s : State) (n : Nat) (t : Option Nat) : State :=
  { s with pwr := { s.pwr with overSince := mput natLt s.pwr.overSince n t none } }

/-- A rail above 1,150 A for 1 ms with HW_REQ at 15 records RAIL_OVERCURRENT. -/
def overRail (s : State) (n : Nat) : State :=
  if 11500 < railSum s n ∧ getF s F.PWR_STATUS_HW_REQ 0 = 15 then
    match mget s.pwr.overSince n none with
    | none => setOver s n (some (elapsedNs s))
    | some t => if passed s t 1000000 then record (setOver s n (some (elapsedNs s))) C.RAIL_OVERCURRENT n else s
  else setOver s n none

/-- RAIL_LIMIT_EVAL (R474): the tile estimators, as pairs of a physical tile and a current in 0.1 A, and the limits on their
sums. -/
def execRailLimitEval (readings : List (Nat × Nat)) (s : State) : Out :=
  let s := (readings.filter (fun e => decide (e.1 < 576))).foldl putEstimate s
  let now := (List.range 4).map (railSum s)
  let s := { s with pwr := { s.pwr with sums := (s.pwr.sums.zip now).map (fun x => x.1 + x.2), samples := s.pwr.samples + 1 } }
  let s := if now.any (fun x => decide (11500 < x)) then { s with pwr := { s.pwr with hwDue := true } } else s
  .next ((List.range 4).foldl overRail (lowerHw (endRailMs s) (now.all (fun x => decide (x ≤ 8500)))))

/-! ## Forecasts (R472) -/

/-- The even parity bit of a value of 8 bits. -/
def parity8 (v : Nat) : Nat := ((List.range 8).filter (bit v)).length % 2

/-- FCST_FRAME (R472): a start bit, the value and its parity; with FCST at 0 the lines stay low. -/
def execFcstFrame (link : Nat) (forecast : Nat) (s : State) : Out :=
  if getB s F.PWR_STATUS_FCST 0 && decide (link < 5) then
    let v := min 255 (forecast / (if link = 4 then 4 else 5))
    .next { s with net := { s.net with out := s.net.out ++ [.fcst link (1 + 2 * v + 512 * parity8 v)] } }
  else .next s

/-! ## Tiles out of range (R477, R478) -/

/-- TILE_DROOP (R477): the tile's voltage in 2.5 mV steps enters its recorder; the step is rejected and the quota rises. -/
def execTileDroop (phys : Nat) (volts : Nat) (s : State) : Out :=
  if (getTileP s phys).state = 2 ∧ volts + 20 < setPoint s phys then
    let s := record (sampleTile s phys volts) C.TILE_DROOP (tileUnit s phys)
    let s := setTileP s phys { getTileP s phys with seenMin := volts }
    .next (postVdome (raiseQuota s phys true))
  else .next s

/-- A failed trim regulator (R478): recorded, and the tile shuttered and slewed; the shutter persists (R451). -/
def trimFails (s : State) (p : Nat) (c : FaultCode) : State :=
  if getB s F.FLT_SHUT_TILE p then s else postVdome (shutterTile (record s c (tileUnit s p)) p true)

/-- TRIM_OPEN: the tile is ON or waking. -/
def execTrimOpen (phys : Nat) (s : State) : Out := .next (if 2 ≤ (getTileP s phys).state then trimFails s phys C.TRIM_OPEN else s)

/-- TRIM_SHORT: found in any state, also when the tile has left ON. -/
def execTrimShort (phys : Nat) (s : State) : Out := .next (trimFails s phys C.TRIM_SHORT)

/-- TRIM_OUT_OF_REG. -/
def execTrimOutOfReg (phys : Nat) (s : State) : Out :=
  .next (if 2 ≤ (getTileP s phys).state then trimFails s phys C.TRIM_OUT_OF_REG else s)

end Sys2Proof.Machine
end

