-- ==== Sys2Proof/Machine/ImgApply.lean ====
section
/-!
DEFINITION. What becomes of a staged image (13): the end of validation (R409, R410), the commit of a full image (R411) and the
apply of a delta (R415 to R417).
-/
namespace Sys2Proof.Machine

/-! ## Validation ends (R409, R410, R419) -/

/-- The image leaves validation; the work of IMG_VALIDATE has ended. -/
def endWork (s : State) (op : Nat) : State := { s with mcc := { s.mcc with work := s.mcc.work.filter (· != op) } }

/-- IMG_REFUSAL holds the code of a refusal, the tile and the offset, and an event of class INFO is recorded. -/
def noteRefusal (s : State) (r : Refuse) : State :=
  let s := setF (setF s F.IMG_REFUSAL_CODE 0 r.code) F.IMG_REFUSAL_TILE 0 r.tile
  recordAs (setF s F.IMG_REFUSAL_AT_OFFSET 0 r.off) r.code 0 r.tile 0

/-- Validation has failed. -/
def refuseImage (s : State) (r : Refuse) : State := noteRefusal (setF s F.IMG_STATUS_STATE 0 5) r

/-- The staged image is SEALED; a full image that seals with no image active freezes every RWS field (R410). -/
def sealImage (s : State) : State :=
  let i := stagedImage s
  let s := setF (setF s F.IMG_STATUS_STATE 0 3) F.IMG_STATUS_KIND 0 i.kind
  let s := setF (setF (setF s F.IMG_REFUSAL_CODE 0 0) F.IMG_REFUSAL_TILE 0 0) F.IMG_REFUSAL_AT_OFFSET 0 0
  let s := setF { s with act := { s.act with staged := some i } } F.IMG_APPLY_STEP 0 (if i.kind = 1 then i.applyStep else 0)
  if i.kind = 0 ∧ s.act.image = none then setB s F.IMG_STATUS_FROZEN 0 true else s

/-! ## Values read as others (R575) -/

/-- Fields whose value the device reads as another: the number of the check, the unit and the values. -/
def badValues (s : State) : List (Nat × Nat × List Nat) :=
  let one (k : Nat) (us : List Nat) (fs : List Field) (bad : List Nat → Bool) : List (Nat × Nat × List Nat) :=
    us.filterMap (fun u => let v := fs.map (fun f => getF s f u); if bad v then some (k, u, v) else none)
  let v0 (l : List Nat) : Nat := l.getD 0 0
  let v1 (l : List Nat) : Nat := l.getD 1 0
  let tiles := List.range 512
  let units := List.range 192
  one 0 [0] [F.STALL_LIMIT_LIMIT] (fun v => v0 v == 0) ++
  one 1 tiles [F.ARR_CFG_FAULT_LIMIT] (fun v => decide (v0 v ≤ 1)) ++
  one 2 tiles [F.ARR_CFG_WINDOW] (fun v => v0 v == 3) ++
  one 3 tiles [F.LANE_CFG_BAR_LOG2] (fun v => decide (v0 v < 16) || decide (30 < v0 v)) ++
  one 4 units [F.SLC_CFG_STREAK_WINDOW] (fun v => decide (v0 v < 8)) ++
  one 5 [0] [F.BND_CTL_LREF] (fun v => decide (v0 v < 100)) ++
  one 6 [0] [F.BND_CTL_ETA_DELAY] (fun v => v0 v == 0) ++
  one 7 [0] [F.BND_MARKS_SL_HIGH, F.BND_MARKS_SL_LOW] (fun v => decide (v0 v ≤ v1 v) || decide (120 < v0 v)) ++
  one 8 [0] [F.BND_MARKS_CH_HIGH, F.BND_MARKS_CH_LOW] (fun v => decide (v0 v ≤ v1 v) || decide (56 < v0 v)) ++
  one 9 [0] [F.SCRUB_CFG_THRESH] (fun v => v0 v == 0) ++
  one 10 [0] [F.SCRUB_CFG_SRAM_PERIOD] (fun v => v0 v == 0) ++
  one 11 [0] [F.SCRUB_CFG_DRAM_PERIOD] (fun v => v0 v == 0) ++
  one 12 units [F.PRT_CFG_RESEND_MAX] (fun v => v0 v == 0) ++
  one 13 [0] [F.MER_POLICY_REPLAY_LIMIT] (fun v => v0 v == 0) ++
  one 14 [0] [F.MER_TIMEOUT_VOTE_RESEND] (fun v => v0 v == 0)

/-- VALUE_REPLACED for each field that takes such a value: by a commit every one, by a delta those it changed. -/
def noteValues (s : State) (before : List (Nat × Nat × List Nat)) : State :=
  (badValues s).foldl (fun s b => if before.contains b then s else record s C.VALUE_REPLACED b.2.1) s

/-! ## The change log (R411, step 7; R547) -/

/-- The offset of a unit's block in the register space. -/
def blockOffset (b : Block) (u : Nat) : Nat :=
  match b with
  | .glb => 0
  | .twr => 0x1000 + 0x100 * u
  | .flt => 0x100000
  | .thm => 0x200000
  | .pwr => 0x300000
  | .sec => 0x400000
  | .log => 0x500000
  | .mcc => 0x600000
  | .mer => 0x700000
  | .bnd => 0x800000
  | .prt => 0x1000000 + 0x10000 * u
  | .mch => 0x2000000 + 0x10000 * u
  | .slc => 0x4000000 + 0x10000 * u
  | .til => 0x10000000 + 0x100000 * u

/-- Every block of the register map. -/
def allBlocks : List Block := [.glb, .twr, .flt, .thm, .pwr, .sec, .log, .mcc, .mer, .bnd, .prt, .mch, .slc, .til]

/-- The words that hold an RWS field of a unit: address and description. -/
def rwsWords (f u : Nat) : List (Nat × RegAt) :=
  allBlocks.flatMap (fun b => (regTable b).filterMap (fun r =>
    if r.parts.any (fun p => p.acc == .rws && p.fld.id == f) then
      let n := max r.count 1
      some (regBase + blockOffset b (u / n) + r.off + u % n * r.stride, ⟨r, u, u / n⟩)
    else none))

/-- The RWS words in which two states differ, in ascending address: address, old and new value. -/
def changedWords (s t : State) : List (Nat × Nat × Nat) :=
  let keys := ((s.sys.regs ++ t.sys.regs).filter (fun e => mget s.sys.regs e.1 (e.2 + 1) != mget t.sys.regs e.1 (e.2 + 1))).map (·.1)
  let ids := rwsFields.map (·.id)
  let ws := (keys.filter (fun k => ids.contains k.1)).flatMap (fun k => rwsWords k.1 k.2)
  let all := ws.map (fun w => (w.1, wordNow s w.2, wordNow t w.2))
  let one := all.foldl (fun m e => minsert natLt (merase m e.1) e.1 e.2) ([] : List (Nat × Nat × Nat))
  one.filter (fun e => e.2.1 != e.2.2)

/-- The words of an image's structure records: kind, index in its kind, offset in the record, image offset and value. -/
def structWords (i : Image) : List ((Nat × Nat × Nat) × Nat × Nat) :=
  let kinds := ((i.sects.flatMap (·.recs)).map (·.kind)).eraseDups.filter (0x0101 ≤ ·)
  kinds.flatMap (fun k => (recsOf i k).zipIdx.flatMap (fun r =>
    (List.range (r.1.body.length / 4)).map (fun w => ((k, r.2, w), r.1.off + 8 + 4 * w, fld r.1.body (4 * w) 4))))

/-- The changes that a commit or an apply makes enter the change log, with the management core as origin. -/
def noteImage (s t : State) (old : Option Image) (new : Image) : State :=
  let t := (changedWords s t).foldl (fun t e => noteChange t 1 0 e.1 e.2.1 e.2.2) t
  let was := match old with
    | some i => structWords i
    | none => []
  (structWords new).foldl (fun t e =>
    let o := match was.find? (fun x => x.1 == e.1) with
      | some x => x.2.2
      | none => 0
    noteChange t 1 1 e.2.1 o e.2.2) t

/-! ## Steps 2 and 3 of R411 -/

/-- The fields of PRT_CFG. -/
def prtCfg : List Field :=
  match (regTable .prt).find? (fun r => r.parts.any (fun p => p.fld.id == F.PRT_CFG_ENABLE.id)) with
  | some r => r.parts.map (·.fld)
  | none => []

/-- PRT_CFG differs between two states at a port. -/
def portChanged (s t : State) (p : Nat) : Bool := prtCfg.any (fun f => getF s f p != getF t f p)

/-- A port of the image trains; one that is not enabled goes to state 0. -/
def setPortUp (s : State) (p : Nat) : State :=
  if getB s F.PRT_CFG_ENABLE p then startTraining s p
  else setPort (setF (setF s F.PRT_STATUS_STATE p 0) F.PRT_STATUS_HELD p 0) p {}

/-- Ports whose PRT_CFG changed, and shuttered ports, train again (R337, R411). -/
def trainPorts (s t : State) (all : Bool) : State :=
  (List.range 192).foldl (fun t p =>
    if all || portChanged s t p || getB t F.FLT_SHUT_PORT p then setPortUp (setB t F.FLT_SHUT_PORT p false) p else t) t

/-- No enabled port trains. -/
def portsTrained (s : State) : Bool := (List.range 192).all (fun p => getF s F.PRT_STATUS_STATE p != 1)

/-- Ways that a change of CARVE takes from the cache are written back and empty; scratch that it gives back holds nothing (R206). -/
def moveCarve (s t : State) : State :=
  (List.range 192).foldl (fun t i =>
    if getF s F.SLC_CFG_CARVE i = getF t F.SLC_CFG_CARVE i then t
    else
      let t := flushSlice t i
      wipe t (scratchBase + i * 0x8000000 + getF t F.SLC_CFG_CARVE i * 0x1000000) (scratchBase + (i + 1) * 0x8000000)) t

/-- A window of ARR_FAULTS begins again where WINDOW changes (R78). -/
def moveWindows (s t : State) : State :=
  (List.range 512).foldl (fun t k =>
    if getF s F.ARR_CFG_WINDOW k = getF t F.ARR_CFG_WINDOW k then t else openWindow t k) t

/-- Registers, tables and modes of an image, with its place in the vote tree; a change of clock mode waits for step 3 (R465). -/
def takeImage (s : State) (i : Image) : State :=
  let t := putModes (putTables (putRegs s i) i) i
  let t := setF (setB t F.MER_PHASE_ROOT 0 t.act.parent.isNone) F.MER_PHASE_LEVEL 0 (recFld i 0x0601 6 1 0)
  let old := getF s F.GLB_MODES_SUSTAIN 0
  let t := moveWindows s (moveCarve s (spreadShort t))
  if imgMode i 0 = old then t
  else setF (setF { t with act := { t.act with clockDue := some (imgMode i 0) } } F.GLB_MODES_SUSTAIN 0 old) F.PWR_STATUS_CLOCK 0 old

/-- A change of clock mode that waits takes effect: the dome PLLs relock and pause frames begin again (R127, R465); the tiles'
set-points move with it (R25). -/
def changeClock (s : State) : State :=
  match s.act.clockDue with
  | none => s
  | some m =>
    let s := setF (setF { s with act := { s.act with clockDue := none } } F.GLB_MODES_SUSTAIN 0 m) F.PWR_STATUS_CLOCK 0 m
    let s := setF s F.PAUSE_STATUS_DUTY 0 (dutyAsked s)
    let s := recordWith (postVdome { s with eph := { s.eph with frame := s.clk.cyc, inSlot := false, slotUntil := 0 } }) C.CLOCK_MODE 0
      [1 - m, m]
    (List.range 576).foldl checkMargin s

/-! ## Steps 4 and 5 of R411 -/

/-- Pages of a region in which something is stored. -/
def storedPages (s : State) (r : Region) : List Nat :=
  let inside (a : Nat) : Bool := decide (r.base ≤ a) && decide (a < r.base + r.size)
  (((s.store.mem.filter (fun (e : Nat × Byte) => inside e.1)).map (fun (e : Nat × Byte) => e.1 / 4096)) ++
    ((s.store.pcode.filter (fun (e : Nat × Nat) => inside (e.1 / 32 * 4096))).map (fun (e : Nat × Nat) => e.1 / 32))).eraseDups

/-- The sweep of R303: every page's code is written. Pages that hold nothing have the code of zeros. -/
def sweepRegion (s : State) (r : Region) : State :=
  (storedPages s r).foldl (fun s p => putPageCode s (4096 * p) (computedCode s (4096 * p))) s

/-- The sweeps that are due end. -/
def sweepDue (s : State) : State :=
  let s := s.act.sweepDue.foldl sweepRegion s
  { s with act := { s.act with sweepDue := [] } }

/-- Every line of the pinned windows is filled and pinned; lines that no window lists leave their pin (R208, R210). -/
def fillPins (s : State) : State := s.act.pinned.foldl (fun s r => (pinWindow s r).1) (unpinAll s)

/-- Steps 4 and 5 for an image's FOCAL records. -/
def fillFocal (s : State) (i : Image) : State := sweepDue (fillPins (putFocals s i))

/-! ## The commit of a full image (R411, R450) -/

/-- Step 1: the staged bytes move to the base of the image's own area. -/
def moveImage (s : State) (i : Image) : State :=
  let b := stgBytes s 0 i.length
  let base := 4096 * recFld i 0x0206 8 4 0
  { (writeBytes s base b []) with act := { s.act with stagedBase := base } }

/-- Steps 1 to 3 begin. From Idle the device enters link collimation; from Tracking it stays there. -/
def beginCommit (s : State) (i : Image) : State :=
  let was := s.act.image
  let s := setF (moveImage s i) F.IMG_STATUS_STATE 0 4
  let t := takeImage s i
  let t := { t with act := { t.act with sweepDue := t.act.regions.filter (·.pageCode), live := devState s == 6 }
                    net := { t.net with detours := [], learned := [], loader := {} } }
  let t := noteValues (trainPorts s t false) []
  let t := noteImage s t was i
  if devState s = 6 then t
  else { (setF t F.DEV_STATE_STATE 0 3) with boot := { t.boot with phaseStart := elapsedNs s, lightDone := false } }

/-- The active image applied again after a start from Sleep: steps 2 and 3, without validation (R457). -/
def reapply (s : State) (i : Image) : State :=
  let d := s.act.digest
  let t := takeImage s i
  let t := { t with act := { t.act with digest := d, sweepDue := t.act.regions.filter (·.pageCode), live := false } }
  { (trainPorts s t true) with boot := { t.boot with phaseStart := elapsedNs s, lightDone := false } }

/-- Step 6: under gate state RESTORE the meridian record of a new job is written. -/
def firstRecord (s : State) : State :=
  let s := setF s F.MER_PHASE_GATE 0 2
  let s := setF (setF s F.MER_STEP_STEP 0 s.act.firstStep) F.MER_ATTEMPT_ATTEMPT 0 0
  let s := setF (setF (setF s F.MER_CURSOR0_VALUE 0 0) F.MER_CURSOR1_VALUE 0 0) F.MER_CURSOR2_VALUE 0 0
  let s := writeRecord (setF (setF s F.MER_LSCALE_EXP 0 s.act.initE) F.MER_LSCALE_RUN 0 0)
  setF s F.MER_PHASE_GATE 0 0

/-- Nothing is staged. -/
def dropStaged (s : State) : State :=
  let s := setF (setB s F.IMG_STATUS_KIND 0 false) F.IMG_APPLY_STEP 0 0
  setF { s with act := { s.act with staged := none, granules := [], live := false } } F.IMG_STATUS_STATE 0 0

/-- Step 7 for the registers of an image: its digest and identity. -/
def nameImage (s : State) (digest : List Byte) (id deltas : Nat) : State :=
  let s := { s with act := { s.act with digest := digest } }
  let s := (List.range 12).foldl (fun s k => setF s F.IMG_DIGEST_DIGEST k (fld digest (4 * k) 4)) s
  setF (setF (setB s F.IMG_STATUS_ACTIVE 0 true) F.IMG_ACTIVE_ID_ID 0 id) F.IMG_DELTAS_COUNT 0 deltas

/-- Steps 6 and 7, after the steps before them: the image is active. -/
def finishImage (s : State) (i : Image) : State :=
  let s := firstRecord s
  let s := nameImage { s with act := { s.act with copyLost := false, stagedBase := 0 }
                              net := { s.net with named := none, newer := none } } i.digest i.imageId 0
  let s := restage (rescale { s with deep := { s.deep with scaleDue := none } } false)
  endWork (recordWith (dropStaged s) C.IMG_COMMITTED 0 [i.imageId]) 0x22

/-- The full image under commit. -/
def committing (s : State) : Option Image :=
  if getF s F.IMG_STATUS_STATE 0 = 4 then
    match s.act.staged with
    | some i => if i.kind = 0 then some i else none
    | none => none
  else none

/-- IMG_COMMIT_DONE (R411): every port of the image has ended training, steps 4 and 5 have run, and steps 6 and 7 end the
commit. -/
def execImgCommitDone (s : State) : Out :=
  match committing s with
  | none => .next s
  | some i =>
    if portsTrained s then
      if s.act.live then
        .next (finishImage (fillFocal (selectSynce (changeClock s) false) i) i)
      else if s.boot.lightDone then .next (finishImage s i)
      else .next s
    else .next s

/-! ## Deltas (R413 to R417) -/

/-- A sealed delta is due at this commit point, or with no job or in HOLD (R415). -/
def deltaDue (s : State) : Bool :=
  getF s F.IMG_STATUS_STATE 0 == 3 && getB s F.IMG_STATUS_KIND 0 &&
    (phase s == 0 || phase s == 6 || decide (getF s F.IMG_APPLY_STEP 0 ≤ stepNow s))

/-- A region whose layout changed loses its contents; lines of it are gone (R415). -/
def loseRegion (s : State) (r : Region) : State :=
  wipe (dropCached s (fun x => decide (r.base ≤ x.base) && decide (x.base < r.base + r.size))) r.base (r.base + r.size)

/-- Two regions lie alike: base, size and interleave. -/
def sameLayout (a b : Region) : Bool := a.base == b.base && a.size == b.size && a.tower == b.tower

/-- The apply begins: the state checks of R417 again, then steps 2 and 3 for the sections carried. -/
def beginDelta (s : State) : State :=
  match s.act.staged, s.act.image with
  | some d, some old =>
    let new := mergeImage old d
    match chkState s (wouldBe s new) new with
    | some _ => record (dropStaged s) C.DELTA_DROPPED 0
    | none =>
      let bad := badValues s
      let was := regionsOf s
      let s := setF s F.IMG_STATUS_STATE 0 4
      let t := takeImage s new
      let moved := was.filter (fun r => !(regionsOf t).any (sameLayout r))
      let t := moved.foldl loseRegion t
      let on := (regionsOf t).filter (fun r => r.pageCode && !was.any (fun o => sameLayout o r && o.pageCode))
      let t := { t with act := { t.act with digest := s.act.digest, sweepDue := on }, net := { t.net with detours := [] } }
      let t := noteValues (moveRoutes (trainPorts s t false)) bad
      noteImage s t (some old) new
  | _, _ => s

/-- The delta under apply. -/
def applying (s : State) : Option Image :=
  if getF s F.IMG_STATUS_STATE 0 = 4 then
    match s.act.staged with
    | some i => if i.kind = 1 then some i else none
    | none => none
  else none

/-- Steps 4, 5 and 7 of an apply: only the tiles named are written; the active digest takes the delta's (R414). -/
def finishDelta (s : State) (d : Image) : State :=
  let s := fillFocal (changeClock s) d
  let s := nameImage s (sha384 (s.act.digest ++ d.digest)) d.imageId (getF s F.IMG_DELTAS_COUNT 0 + 1)
  let s := restage (rescale { s with deep := { s.deep with scaleDue := none } } false)
  recordWith (dropStaged s) C.DELTA_APPLIED 0 [d.imageId, stepNow s]

/-- DELTA_APPLY_END (R415): with no job or in HOLD a sealed delta is applied at once. -/
def execDeltaApplyEnd (s : State) : Out :=
  let s := if deltaDue s && (phase s == 0 || phase s == 6) then beginDelta s else s
  match applying s with
  | some d => .next (if portsTrained s then finishDelta s d else s)
  | none => .next s

/-- IMG_VALIDATION_DONE (R409, R410, R415): validation waits for Idle and runs on the management core (R11); a delta that seals with no job or in HOLD begins to apply. -/
def execImgValidationDone (s : State) : Out :=
  if getF s F.IMG_STATUS_STATE 0 = 2 ∧ 4 ≤ devState s ∧ s.flt.coreUp = true then
    match validate s with
    | some r => .next (endWork (refuseImage s r) 0x21)
    | none =>
      let s := endWork (sealImage s) 0x21
      .next (if deltaDue s && (phase s == 0 || phase s == 6) then beginDelta s else s)
  else .next s

end Sys2Proof.Machine
end

