-- ==== Sys2Proof/Machine/Serv.lean ====
section
/-!
DEFINITION. The services of the piers (11): the data loader (R347 to R350), the checkpoint engine's writes (R351, R352, R355)
and telemetry (R354).
-/
namespace Sys2Proof.Machine

/-- The storage targets of a role in their ORDER. -/
def targetsOf (s : State) (role : Nat) : List Target :=
  (List.range 256).flatMap (fun o => s.act.targets.filter (fun t => t.role == role && t.order == o))

/-- The target in use: the k-th of the role's list, round and round. -/
def targetAt (s : State) (role k : Nat) : Option Target :=
  let ts := targetsOf s role
  ts[k % max ts.length 1]?

/-! ## The data loader -/

/-- The slot of a step in the staging ring: equal whole pages of the ring for each of the K slots (assumption 54). -/
def ringSlot (s : State) (d : Dataset) (n : Nat) : Nat :=
  4096 * (s.act.areas.getD 4 0 + n % (max d.k 1) * (s.act.areas.getD 5 0 / max d.k 1))

/-- The loader may stage the step: its slot is free (R348). -/
def mayStage (s : State) (d : Dataset) : Bool :=
  let n := s.net.loader.step
  decide (n < d.k) || !s.net.loader.staged.contains (n - d.k)

/-- The loader asks its target for the next record. -/
def loaderAsk (s : State) : State :=
  match s.act.dataset with
  | none => s
  | some d =>
    let l := s.net.loader
    match targetAt s 0 l.target with
    | none => s
    | some t =>
      if mayStage s d && !l.waiting then
        let shard := (roleShards d l.epoch).getD l.pos 0
        let s := emit s (.storageRead t.ip t.nsid (d.base + (shard * d.records + l.record) * d.recordBytes) d.recordBytes)
        { s with net := { s.net with loader := { l with waiting := true, askedAt := elapsedNs s } } }
      else s

/-- Bytes that a service writes, page by page: a write to a committed page is not performed and records GATE_WRITE, and one to an
unmapped place records ADDRESS_UNMAPPED (R202, R363). -/
def servicePut (s : State) (a : Nat) (d : List Byte) : Nat → State
  | 0 => s
  | n + 1 =>
    if d.isEmpty then s
    else
      let k := min (4096 - a % 4096) d.length
      servicePut (engineWrite s a (d.take k) []) (a + k) (d.drop k) n

/-- STORAGE_READ_DONE (R347, R348): the next record of the loader's order is staged in the slot of its step. -/
def execStorageReadDone (data : List Byte) (s : State) : Out :=
  match s.act.dataset with
  | none => .next s
  | some d =>
    if mayStage s d then
      let l := s.net.loader
      let s := servicePut s (ringSlot s d l.step + l.count * d.recordBytes) (data.take d.recordBytes) (d.recordBytes / 4096 + 2)
      let c := nextRecord d (l.epoch, l.pos, l.record)
      let m : LoaderSt := { l with epoch := c.1, pos := c.2.1, record := c.2.2, count := l.count + 1, waiting := false }
      let m := if d.batch ≤ m.count then { m with staged := m.staged ++ [m.step], step := m.step + 1, count := 0 } else m
      .next (loaderAsk { s with net := { s.net with loader := m } })
    else .next s

/-! ## The checkpoint engine -/

/-- A snapshot's write ends without its header (R352, R355). -/
def failSnapshot (s : State) : State :=
  match s.net.newer with
  | some x =>
    setB { s with net := { s.net with newer := some { x with writing := false, failed := true } } } F.CKPT_STATUS_WRITING 0 false
  | none => s

/-- STORAGE_ERROR (R350, R352): the loader goes to its next target and reads again; a snapshot's write ends. -/
def execStorageError (loader : Bool) (s : State) : Out :=
  if loader then
    if s.act.dataset.isSome then
      let s := record s C.STORAGE_ERROR 0
      let l := s.net.loader
      .next (loaderAsk { s with net := { s.net with loader := { l with target := l.target + 1, waiting := false } } })
    else .next s
  else
    match s.net.newer with
    | some x => .next (if x.writing then failSnapshot (record s C.STORAGE_ERROR 0) else s)
    | none => .next s

/-- The checkpoint engine reads the pages of a snapshot that have not been written since; whether a word of the snapshot is
poisoned (R351, R355). -/
def snapPoisoned (s : State) (x : Snapshot) : State × Bool :=
  (committedPages s).foldl (fun r p =>
    match x.old.find? (fun o => o.1 == p) with
    | some o => (r.1, r.2 || o.2.2.any id)
    | none => let g := engineGet r.1 (4096 * p) 4096; (g.1, r.2 || g.2.2.any id)) (s, false)

/-- A checkpoint slot's header (R351): the step, the device index, the page count and a CRC-32C of the page list, whose page numbers
count as 4 bytes each (assumption 113). -/
def ckptHeader (s : State) (step : Nat) : List Nat :=
  let ps := committedPages s
  [step, s.act.index, ps.length, crc32c (ps.flatMap (leBytes · 4))]

/-- SNAPSHOT_WRITE_DONE (R351, R355): the pages and the header have been written to the older slot, or a poisoned page could
not leave. -/
def execSnapshotWriteDone (s : State) : Out :=
  match s.net.newer with
  | some x =>
    if x.writing then
      let g := snapPoisoned s x
      let s := closeRepeats g.1
      if g.2 then .next (failSnapshot (poisonLeaves s 255 0))
      else
        let slot := 1 - s.net.slot
        let s := { s with net := { s.net with newer := some { x with writing := false, done := true }, slot := slot } }
        let s := setF (setB s F.CKPT_STATUS_WRITING 0 false) F.CKPT_STATUS_SLOT 0 slot
        let s := setF s F.CKPT_STEP_STEP 0 x.step
        match targetAt s 1 x.target with
        | some t => .next (emit s (.storageWrite t.ip t.nsid slot (ckptHeader s x.step)))
        | none => .next s
    else .next s
  | none => .next s

/-! ## Telemetry (R354) -/

/-- Template 256: a port's record. -/
def tlmPort (s : State) (p : Nat) : List Nat :=
  [p, getF s F.PRT_STATUS_STATE p, getF s F.PRT_STATUS_WIDTH_UP p, getF s F.PRT_FEC_CORR_COUNT p, getF s F.PRT_FEC_UNCORR_COUNT p,
   getF s F.PRT_BLK_TX_COUNT p, getF s F.PRT_BLK_RX_COUNT p, getF s F.PRT_NAK_TX_COUNT p, getF s F.PRT_NAK_RX_COUNT p,
   getF s F.PRT_RESENT_COUNT p, getF s F.PRT_DROP_COUNT p]

/-- Template 257: the step. -/
def tlmStep (s : State) : List Nat :=
  [getF s F.MER_STEP_STEP 0, getF s F.MER_VERDICT_WORD 0, segCycle s, getF s F.STALL_CYCLES_COUNT 0, getF s F.PAUSE_SLOTS_COUNT 0]

/-- Template 258: temperature and power. -/
def tlmPower (s : State) : List Nat :=
  [getF s F.THM_MAX_DOME 0, getF s F.THM_MAX_LOGIC 0, getF s F.THM_MAX_SRAM 0, getF s F.PAUSE_STATUS_DUTY 0] ++
    (List.range 14).flatMap (fun r => [getF s F.PWR_RAIL_I_I r, getF s F.PWR_RAIL_MIN_MIN r])

/-- Template 259: an event. -/
def tlmEvent (e : Event) : List Nat := [e.time, e.code, e.cls, e.unit, e.origin]

/-- TELEMETRY_EXPORT: TLM_PERIOD has passed; none while the management core is stopped (R10). -/
def execTelemetryExport (s : State) : Out :=
  match s.act.telemetry with
  | none => .next s
  | some t =>
    if s.flt.coreUp && passed s s.net.lastTlm (t.period * 1000000) then
      let s := { s with net := { s.net with lastTlm := elapsedNs s } }
      if portReady s t.egress then
        let ps := (List.range 192).filter (fun p => getB s F.PRT_CFG_ENABLE p)
        let send (s : State) (k : Nat) (ws : List Nat) : State := emit s (.ipfix t.egress t.collector t.udp t.enterprise k ws)
        let s := ps.foldl (fun s p => send s 256 (tlmPort s p)) s
        let s := send (send s 257 (tlmStep s)) 258 (tlmPower s)
        let s := s.flt.toTlm.foldl (fun s e => send s 259 (tlmEvent e)) s
        .next { s with flt := { s.flt with toTlm := [] } }
      else .next s
    else .next s

end Sys2Proof.Machine
end

