-- ==== Sys2Proof/Machine/Mer.lean ====
section
/-!
DEFINITION. The commands of the meridian (12): vote frames, timers, the end of a decision's work, the close round, rollback and
slews.
-/
namespace Sys2Proof.Machine

/-! ## The verdict round (R373 to R376) -/

/-- A frame from the parent that is dropped counts at the parent's port. -/
def dropDown (s : State) : State :=
  match s.act.parent with
  | some p => incF s F.PRT_DROP_COUNT p.port 1
  | none => s

/-- The sender is a child of this device. -/
def isChild (s : State) (i : Nat) : Bool := s.act.children.any (fun c => c.index == i)

/-- A frame answered to one child. -/
def answerChild (s : State) (i : Nat) (v : VoteFrame) : State :=
  match s.act.children.find? (fun c => c.index == i) with
  | some c => sendVote s c v
  | none => s

/-- A repeat of an earlier round is answered with the decision of that round. -/
def answerRepeat (s : State) (held : Option VoteFrame) (v : VoteFrame) : State :=
  match held with
  | some d => if d.step = v.step ∧ d.attempt = v.attempt ∧ d.flags = v.flags then answerChild s v.sender d else s
  | none => s

/-- UP (R373, R374, R376). -/
def execUp (frame : VoteFrame) (s : State) : Out :=
  if voteOk s 0 frame then
    if isChild s frame.sender then
      if !sameRound s frame then .next (answerRepeat s s.mer.lastDown frame)
      else match s.mer.down with
      | some d => .next (answerChild s frame.sender d)
      | none =>
        if s.mer.up.isSome || s.mer.gone.contains frame.sender || s.mer.ups.any (fun v => v.sender == frame.sender) ||
            phase s == 0 || decide (3 < phase s) then .next s
        else .next (passUp { s with mer := { s.mer with ups := s.mer.ups ++ [frame] } })
    else .next s
  else .next (dropVote s frame)

/-- DOWN (R375): forwarded to the children and acted on. A device that has not voted abandons its segment. -/
def execDown (frame : VoteFrame) (s : State) : Out :=
  if voteOk s 1 frame then
    if s.act.parent.isSome && s.mer.down.isNone && sameRound s frame && decide (1 ≤ phase s) && decide (phase s ≤ 3) then
      let s := if phase s = 3 then s else discardWork s
      .next (endRound (sendDown s frame) frame)
    else .next s
  else .next (dropDown s)

/-- VOTE_TIMEOUT in ns. -/
def voteTimeoutNs (s : State) : Nat := getF s F.MER_TIMEOUT_VOTE_TIMEOUT 0 * 100000

/-- VOTE_TIMEOUT_EXPIRE (R374): children that have not reported are counted missing. -/
def execVoteTimeoutExpire (s : State) : Out :=
  match s.mer.entry with
  | some e =>
    if phase s == 3 && s.mer.up.isNone && s.mer.down.isNone && passed s e (voteTimeoutNs s) then
      let late := s.act.children.filter (fun c => !s.mer.ups.any (fun v => v.sender == c.index))
      let s := late.foldl (fun s c => record s C.VOTE_MISSING c.index) s
      .next (passUp { s with mer := { s.mer with gone := late.map (·.index) } })
    else .next s
  | none => .next s

/-- VOTE_RESEND in ns; 0 reads as 20 µs. -/
def voteResendNs (s : State) : Nat :=
  let n := getF s F.MER_TIMEOUT_VOTE_RESEND 0
  (if n = 0 then 20 else n) * 1000

/-- VOTE_RESEND_EXPIRE (R376). -/
def execVoteResendExpire (s : State) : Out :=
  match s.mer.up, s.mer.down, s.mer.closeUp, s.mer.closeDown with
  | some v, none, _, _ =>
    .next (if passed s s.mer.upAt (voteResendNs s) then
      { sendUp s v with mer := { s.mer with upAt := elapsedNs s } } else s)
  | _, _, some v, none =>
    .next (if passed s s.mer.closeAt (voteResendNs s) then
      { sendUp s v with mer := { s.mer with closeAt := elapsedNs s } } else s)
  | _, _, _, _ => .next s

/-- VOTE_LOST (R378): the device rolls back and enters HOLD. -/
def execVoteLost (s : State) : Out :=
  let limit := 2 * voteTimeoutNs s
  let lost := (s.mer.up.isSome && s.mer.down.isNone && passed s s.mer.upFirst limit) ||
    (s.mer.closeUp.isSome && s.mer.closeDown.isNone && passed s s.mer.closeFirst limit)
  if lost && phase s != 0 then
    let s := record s C.VOTE_LOST 0
    let s := { s with net := { s.net with replay := [], txq := [] }
                      mer := { s.mer with up := none, closeUp := none, decision := aSpare } }
    .next (startRollback (setF s F.MER_PHASE_PHASE 0 5))
  else .next s

/-! ## The end of the work (R337, R380, R415) -/

/-- The update table and the commit tasks have ended. -/
def commitDone (s : State) : Bool :=
  s.mer.entries.isEmpty && !s.mer.tasksDue && s.lane.tiles.all (fun e => e.2.tasks.all (fun t => !t.commit))

/-- The quota of each tile is written to the logbook (R463). -/
def keepQuotas (s : State) : State := s.pwr.tiles.foldl (fun s e => logKeep s tQuota e.1 (leBytes e.2.quota 4)) s

/-- The commit point (R261, R336, R337, R340, R415, R463, R530, R545): a delta due begins to apply, port shutters close,
routes return, a service shutter's copy begins after a COMMIT, device time steps, the device's records are committed and a
firmware set that waits takes over at the core's restart. -/
def commitPoint (s : State) : State :=
  let s := if deltaDue s then beginDelta s else s
  let s := stepTime (returnRoutes (shutterPorts s))
  let s := if s.mer.decision = aCommit then startCopies s else s
  let s := commitOwn (keepQuotas s)
  switchFirmware { s with mer := { s.mer with closeDue := true } }

/-- Commit tasks that still run stop when one of them has faulted (R381). -/
def stopCommit (s : State) : State :=
  ((s.lane.tiles.filter (fun e => e.2.tasks.any (·.commit))).map (·.1)).foldl abortTile
    { s with mer := { s.mer with working := false, entries := [], tasksDue := false } }

/-- COMMIT_WORK_END (R380, R381). -/
def execCommitWorkEnd (s : State) : Out :=
  if s.mer.working && s.mer.rolling.isNone then
    if s.mer.decision = aCommit then
      if s.mer.commitFault then .next (commitPoint (closeGate (stopCommit s)))
      else if commitDone s then
        let s := finishCommit s
        .next (commitPoint (closeGate { s with mer := { s.mer with working := false } }))
      else .next s
    else .next (commitPoint (closeGate { s with mer := { s.mer with working := false } }))
  else .next s

/-- COMMIT_LATE (R382). -/
def execCommitLate (s : State) : Out :=
  if s.mer.working && s.mer.decision == aCommit && !s.mer.lateRec &&
      decide (s.mer.workStart + getF s F.MER_BUDGET_COMMIT_BUDGET 0 * 1000 < elapsedNs s) then
    .next (record { s with mer := { s.mer with lateRec := true } } C.COMMIT_LATE 0)
  else .next s

/-! ## The close round (R376, R377) -/

/-- Every logical tile that the image uses is ON. -/
def tilesOn (s : State) : Bool := (List.range 512).all (fun t => (getTileP s (physOf s t)).state == 2)

/-- The device's own part of the close round is ready: its work, slews, copies and delta have ended, the batch is staged, and
after a hold its tiles are awake (R377, R390, R392, R261). -/
def closeReady (s : State) : Bool :=
  s.mer.closeDue && !s.mer.working && s.tower.slews.isEmpty && !copying s && getF s F.IMG_STATUS_STATE 0 != 4 && !deltaDue s &&
    batchStaged s (stepNow s) && (!s.mer.resume || tilesOn s)

/-- The close round goes on when this device is ready. -/
def tryClose (s : State) : State := if closeReady s then passClose s else s

/-- CLOSE_UP_SEND. -/
def execCloseUpSend (s : State) : Out := .next (tryClose s)

/-- The frame belongs to the close round under way: that of the step voted on, or in HOLD the round of a resume to come. -/
def sameClose (s : State) (v : VoteFrame) : Bool :=
  if phase s = 6 ∧ s.mer.resume = false then
    v.flags == 1 && v.step == stepNow s && v.attempt == getF s F.MER_ATTEMPT_ATTEMPT 0
  else sameRound s v && v.flags == s.mer.resume.toNat

/-- CLOSE_UP: a child's frame is combined, or answered with the decision held. -/
def execCloseUp (frame : VoteFrame) (s : State) : Out :=
  if voteOk s 2 frame then
    if isChild s frame.sender then
      match (if sameClose s frame then s.mer.closeDown.filter (·.flags == frame.flags) else none) with
      | some d => .next (answerChild s frame.sender d)
      | none =>
        if !sameClose s frame then
          .next (answerRepeat s (if sameRound s frame && s.mer.closeDown.isSome then s.mer.closeDown else s.mer.lastClose) frame)
        else if s.mer.closeUp.isSome || s.mer.closeUps.any (fun v => v.sender == frame.sender) ||
            decide (phase s < 4) || phase s == 7 then .next s
        else .next (tryClose { s with mer := { s.mer with closeUps := s.mer.closeUps ++ [frame] } })
    else .next s
  else .next (dropVote s frame)

/-- CLOSE_DOWN: forwarded and acted on. -/
def execCloseDown (frame : VoteFrame) (s : State) : Out :=
  if voteOk s 3 frame then
    if s.mer.closeUp.isSome && s.mer.closeDown.isNone && sameClose s frame then .next (endClose (sendDown s frame) frame) else .next s
  else .next (dropDown s)

/-! ## Rollback (R387, R388) -/

/-- Old versions copied back over their pages; the snapshot then shares every page. -/
def copyBack (s : State) (x : Snapshot) : State :=
  x.old.foldl (fun s o => writeBytes s (4096 * o.1) o.2.1 o.2.2) s

/-- Pages read from storage written over their places. -/
def putPages (s : State) (pages : List (Nat × List Byte)) : State :=
  pages.foldl (fun s p => if isCommitted s (4096 * p.1) then writeBytes s (4096 * p.1) (p.2.take 4096) [] else s) s

/-- The committed pages that a rollback to `c` must read from storage. -/
def pagesToRead (s : State) (c : Nat) : List Nat :=
  match s.net.named with
  | some x =>
    if x.step = c then
      (committedPages s).filter (fun p => !x.old.any (fun o => o.1 == p) && (cohRead s (4096 * p) 4096).2.any id)
    else committedPages s
  | none => committedPages s

/-- The record of the checkpoint: the snapshot's, or the record page's. -/
def ckptRecord (s : State) (c : Nat) : List Byte :=
  match s.net.named with
  | some x => if x.step = c then x.record else (cohRead s (4096 * getF s F.MER_RECORD_PG_PAGE 0) 4096).1
  | none => (cohRead s (4096 * getF s F.MER_RECORD_PG_PAGE 0) 4096).1

/-- Steps 2 to 5 of R387. -/
def restore (s : State) (c : Nat) (pages : List (Nat × List Byte)) : State :=
  let s := dropCommittedLines s
  let s := match s.net.named with
    | some x => if x.step = c then copyBack s x else s
    | none => s
  let s := putPages s pages
  let rec_ := ckptRecord s c
  let s := setF (loadRecord s rec_) F.MER_ATTEMPT_ATTEMPT 0 0
  let snap : Snapshot := ⟨c, rec_, [], false, true, false, 0⟩
  let s := setB { s with net := { s.net with named := some snap, newer := none } } F.CKPT_STATUS_WRITING 0 false
  let s := restage (recordWith s C.ROLLBACK 0 [c])
  setF { s with mer := { s.mer with intact := true, rolling := none } } F.MER_PHASE_GATE 0 0

/-- ROLLBACK_COMPLETE (R387, R388, R389): the checkpoint is restored, or it cannot be read and the decision is HALT. -/
def execRollbackComplete (read : List (Nat × List Byte)) (failed : Bool) (s : State) : Out :=
  match s.mer.rolling with
  | none => .next s
  | some c =>
    let want := pagesToRead s c
    let got := read.filter (fun p => want.contains p.1 && p.2.length == 4096)
    if !want.isEmpty && (failed || !want.all (fun p => got.any (fun g => g.1 == p))) then
      let s := setB { s with net := { s.net with newer := none } } F.CKPT_STATUS_WRITING 0 false
      .next (enterHold (record s C.CKPT_UNREADABLE 0))
    else
      let s := restore s c got
      .next (if s.mer.decision = aSpare then enterHold s else s)

/-! ## Slews (R391, R392) -/

/-- SLEW: the first slew that waits ends. It runs during the REJECT of its step; one whose shutter closed after tv runs in the work of
the decision under way, before CLOSE_UP, and one with no job or in HOLD runs at once (DEDUCED, assumption 115). -/
def execSlew (s : State) : Out :=
  match s.tower.slews with
  | [] => .next s
  | e :: _ => .next (if s.eph.inSegment ∨ phase s = 3 then s else finishSlew s e.1 e.2)

end Sys2Proof.Machine
end

