-- ==== Sys2Proof/Machine/Therm.lean ====
section
/-!
DEFINITION. Temperature (17): sensors, thresholds and throttling, broken sensors, the layer model and its fallback, and the trip
(R482 to R499).
-/
namespace Sys2Proof.Machine

/-! ## Sensors (R482 to R485, Table: Sensors) -/

/-- The tower and layer of a sensor. -/
def sensorLayer (i : Nat) : Nat × Nat :=
  if i < 576 then (i / 144, 7)
  else if i < 640 then ((i - 576) / 16, 6)
  else if i < 832 then ((i - 640) / 48, 1 + 2 * ((i - 640) % 48 / 16))
  else if i < 1024 then ((i - 832) / 48, 2 + 2 * ((i - 832) % 48 / 24))
  else ((i - 1024) / 32, 0)

/-- The sensors of a layer. -/
def layerSensors (tower layer : Nat) : List Nat :=
  match layer with
  | 7 => (List.range 144).map (144 * tower + ·)
  | 6 => (List.range 16).map (576 + 16 * tower + ·)
  | 0 => (List.range 32).map (1024 + 32 * tower + ·)
  | l => if l % 2 = 1 then (List.range 16).map (640 + 48 * tower + 16 * (l / 2) + ·)
    else (List.range 24).map (832 + 48 * tower + 24 * (l / 2 - 1) + ·)

/-- The class of a sensor: 0 Dome, 1 Logic, 2 SRAM. -/
def sensorClass (i : Nat) : Nat := if i < 576 then 0 else if i < 832 then 2 else 1

def getSensor (s : State) (i : Nat) : Sensor := mget s.thm.sensors i {}
def setSensor (s : State) (i : Nat) (x : Sensor) : State :=
  { s with thm := { s.thm with sensors := mput natLt s.thm.sensors i x {} } }

def layerKey (tower layer : Nat) : Nat := 8 * tower + layer
def getLayer (s : State) (tower layer : Nat) : LayerT := mget s.thm.layers (layerKey tower layer) {}
def setLayer (s : State) (tower layer : Nat) (x : LayerT) : State :=
  { s with thm := { s.thm with layers := mput natLt s.thm.layers (layerKey tower layer) x {} } }

/-! ## Thresholds (R486), in 0.125 °C -/

/-- The throttle threshold of a class. -/
def throttleAt (s : State) (c : Nat) : Int :=
  8 * ((match c with
    | 0 => getF s F.THM_CFG_THR_DOME 0
    | 1 => getF s F.THM_CFG_THR_LOGIC 0
    | _ => getF s F.THM_CFG_THR_SRAM 0 : Nat) : Int)

/-- The trip threshold of a class. -/
def tripAt (c : Nat) : Int := match c with
  | 0 => 840
  | 1 => 800
  | _ => 760

/-- The rise over 2 ms at the rate limit of a class. -/
def riseLimit (c : Nat) : Int := if c = 0 then 96 else 32

/-- The layer of a sensor is suspect. -/
def suspectAt (s : State) (i : Nat) : Bool := (getLayer s (sensorLayer i).1 (sensorLayer i).2).suspect

/-- A good sensor: neither broken nor of a suspect layer. -/
def goodSensor (s : State) (i : Nat) : Bool := !(getSensor s i).broken && !suspectAt s i

/-- The last reading of a sensor. -/
def lastRead (s : State) (i : Nat) : Option Int := ((getSensor s i).reads.head?).map (·.2)

/-- The estimate of a layer in force, in 0.125 °C: the model's, or the fallback's while the management core is stopped (R494). -/
def layerEst (s : State) (tower layer : Nat) : Int :=
  let x := getLayer s tower layer
  (if s.flt.coreUp then x.est else x.fallback) / 125000

/-- The control reading of a sensor (R487). -/
def controlRead (s : State) (i : Nat) : Option Int :=
  if goodSensor s i then lastRead s i
  else
    let l := sensorLayer i
    let c := sensorClass i
    some (if l.2 = 7 then throttleAt s c else max (layerEst s l.1 l.2) (throttleAt s c))

/-- The highest control reading of a class. -/
def classMax (s : State) (c : Nat) : Option Int :=
  (((List.range 1152).filter (fun i => sensorClass i == c)).filterMap (controlRead s)).foldl
    (fun m r => match m with | some x => some (max x r) | none => some r) none

/-- A whole number of degrees at or above a reading, as THM_MAX shows it. -/
def roundUp (r : Int) : Nat := ((r + 7) / 8).toNat

/-- THM_STATUS and THM_MAX follow the control readings of a class; THM_WARNING when the class first passes its warning
threshold (R488): once for a class until its WARN bit has cleared (DEDUCED, assumption 120). -/
def postClass (s : State) (c i : Nat) : State :=
  match classMax s c with
  | none => s
  | some m =>
    let f := match c with
      | 0 => F.THM_MAX_DOME
      | 1 => F.THM_MAX_LOGIC
      | _ => F.THM_MAX_SRAM
    let s := setF s f 0 (min 255 (roundUp m))
    let put (s : State) (f : Field) (v : Bool) : State :=
      let w := getF s f 0
      setF s f 0 (if v then w ||| 2 ^ c else w &&& (7 - 2 ^ c))
    let warn := decide (throttleAt s c - 40 < m)
    let was := bit (getF s F.THM_STATUS_WARN 0) c
    let s := put (put s F.THM_STATUS_WARN warn) F.THM_STATUS_THROTTLE (decide (throttleAt s c < m))
    let s := { s with thm := { s.thm with excess := s.thm.excess || decide (throttleAt s c < m)
                                          warm := s.thm.warm || decide (throttleAt s c < m + 24) } }
    if warn && !was then record s C.THM_WARNING i else s

/-! ## Broken sensors (R489 to R491) -/

/-- A sensor breaks: a dome tile is shuttered, and its shutter persists. -/
def breakSensor (s : State) (i : Nat) : State :=
  if (getSensor s i).broken then s
  else
    let s := setSensor s i { getSensor s i with broken := true }
    let s := setB (setF s F.THM_SENSOR_STATE i 2) F.THM_STATUS_BROKEN 0 true
    let s := if i < 576 then shutterTile (record s C.THM_SENSOR_BROKEN i) i true else record s C.THM_SENSOR_BROKEN_STACK i
    postClass s (sensorClass i) i

/-! ## Samples (R485, R488, R489) -/

/-- The 16 kHz grid instant at or before now. -/
def gridSlot (s : State) : Nat := sidereal s / 6250

/-- The grid instant at which a sensor samples now, if it has not sampled there yet: 1 kHz, or 16 kHz while fast. -/
def sampleSlot (s : State) (x : Sensor) : Option Nat :=
  let n := if x.fast then gridSlot s else gridSlot s / 16 * 16
  match x.sampled with
  | none => some n
  | some m => if m < n then some n else none

/-- The rise of a sensor over the 2 ms before its newest reading. -/
def riseOf (x : Sensor) : Option Int :=
  match x.reads with
  | [] => none
  | (t, r) :: rest => (rest.find? (fun e => decide (e.1 + 32 ≤ t))).map (fun e => r - e.2)

/-- Fast sampling: within 5 °C of the throttle threshold or above it, or at more than half the rate limit; it ends when neither
has held for 100 ms. -/
def paceSensor (s : State) (i n : Nat) (x : Sensor) : Sensor :=
  let c := sensorClass i
  let near := match x.reads with
    | (_, r) :: _ => decide (throttleAt s c - 40 ≤ r)
    | [] => false
  let steep := match riseOf x with
    | some d => decide (riseLimit c < 2 * d)
    | none => false
  if near || steep then { x with fast := true, hot := some n }
  else match x.hot with
    | some h => if h + 1600 ≤ n then { x with fast := false, hot := none } else x
    | none => { x with fast := false }

/-- The spell of every good sensor below 70 °C that R500 waits for. -/
def noteCold (s : State) (r : Int) : State :=
  if 560 ≤ r then { s with thm := { s.thm with coldSince := none } }
  else match s.thm.coldSince with
    | some _ => s
    | none =>
      if (List.range 1152).all (fun i => !goodSensor s i || (match lastRead s i with | some x => decide (x < 560) | none => false)) then
        { s with thm := { s.thm with coldSince := some (elapsedNs s) } }
      else s

/-- A rate of rise above the limit (R488). -/
def noteRate (s : State) (i : Nat) (x : Sensor) : State :=
  match riseOf x with
  | some d =>
    if riseLimit (sensorClass i) < d then
      let was := getB s F.THM_STATUS_RATE 0
      let s := setB { s with thm := { s.thm with rateDue := true, rateAt := some (elapsedNs s) } } F.THM_STATUS_RATE 0 true
      if was then s else record s C.THM_RATE i
    else s
  | none => s

/-- A reading that R489 allows. -/
def takeReading (s : State) (i n : Nat) (x : Sensor) (r : Int) : State :=
  let x := { x with misses := 0, sampled := some n, reads := ((n, r) :: x.reads).take 34 }
  let x := paceSensor s i n x
  let s := setSensor s i x
  let s := setB (setF s F.THM_SENSOR_TEMP i (BitVec.ofInt 12 r).toNat) F.THM_SENSOR_FAST i x.fast
  let s := setB s F.THM_STATUS_FAST 0 (s.thm.sensors.any (fun e => e.2.fast))
  let s := if goodSensor s i then noteCold (noteRate s i x) r else s
  postClass s (sensorClass i) i

/-- SENSOR_SAMPLE (R483, R485, R488, R489): `raw` is the conversion in 0.125 °C, or none. -/
def execSensorSample (sensor : Nat) (raw : Option Int) (s : State) : Out :=
  let x := getSensor s sensor
  if s.boot.place = .off ∨ 1152 ≤ sensor ∨ x.broken then .next s
  else
    match sampleSlot s x with
    | none => .next s
    | some n =>
      match raw with
      | none =>
        let s := setSensor s sensor { x with misses := x.misses + 1, sampled := some n }
        .next (if 1 ≤ x.misses then breakSensor s sensor else s)
      | some v =>
        let r := v + x.offset
        let jump : Bool := match x.reads with
          | (_, o) :: _ => decide (80 < r - o) || decide (80 < o - r)
          | [] => false
        if decide (r < -160) || decide (1200 < r) || jump then .next (breakSensor (setSensor s sensor { x with sampled := some n }) sensor)
        else .next (takeReading s sensor n x r)

/-- Every control reading is at least 3 °C below its throttle threshold. -/
def allCool (s : State) : Bool :=
  [0, 1, 2].all (fun c => match classMax s c with | some m => decide (m + 24 ≤ throttleAt s c) | none => true)

/-- A control reading exceeds its throttle threshold. -/
def anyOver (s : State) : Bool :=
  [0, 1, 2].any (fun c => match classMax s c with | some m => decide (throttleAt s c < m) | none => false)

/-- THERMAL_REQ_INTERVAL (R488): the end of a 1 ms interval of the grid. -/
def execThermalReqInterval (s : State) : Out :=
  let n := sidereal s / 100000
  if s.boot.place = .off ∨ n ≤ s.thm.interval then .next s
  else
    let req := getF s F.PAUSE_STATUS_THERMAL_REQ 0
    let excess := s.thm.excess || anyOver s
    let cool := !s.thm.warm && allCool s
    let s := { s with thm := { s.thm with interval := n, excess := false, warm := false } }
    let s := match s.thm.rateAt with
      | some t => if passed s t 2000000 then setB { s with thm := { s.thm with rateAt := none } } F.THM_STATUS_RATE 0 false else s
      | none => s
    let s := if req = 0 then s else incF s F.THM_THROTTLE_MS_COUNT 0 1
    if excess then .next (raiseThermal { s with thm := { s.thm with coolSince := none } } (req + 1))
    else if cool then
      match s.thm.coolSince with
      | none => .next { s with thm := { s.thm with coolSince := some (n - 1) } }
      | some t =>
        if t + 10 ≤ n then .next (setF { s with thm := { s.thm with coolSince := some n } } F.PAUSE_STATUS_THERMAL_REQ 0 (req - 1))
        else .next s
    else .next { s with thm := { s.thm with coolSince := none } }

/-! ## The layer model (R492 to R495) -/

/-- The mean of a layer's good sensors in millionths of a degree. -/
def layerMean (s : State) (tower layer : Nat) : Option Int :=
  let rs := ((layerSensors tower layer).filter (goodSensor s)).filterMap (lastRead s)
  if rs.isEmpty then none else some (rs.foldl (· + ·) 0 * 125000 / rs.length)

/-- Power of the rails below the dome in mW: VSTACK, VMOUNT, VPIER, VSER_A, VSER_H, VPHY_M and VDDQ_M. -/
def stackMw (s : State) : Nat :=
  ((List.range 7).map (fun k => getF s F.PWR_RAIL_SET_V (k + 4) * getF s F.PWR_RAIL_I_I (k + 4))).foldl (· + ·) 0 / 4

/-- The estimates of a tower from L6 down to L0: each from the temperature above it, the power below and the resistance. -/
def towerEst (s : State) (tower : Nat) (below res : Nat → Nat) (above : Int) : Nat → List (Nat × Int)
  | 0 => []
  | k + 1 =>
    let e := above + ((below k * res k / 1000 : Nat) : Int)
    let t := match layerMean s tower k with
      | some m => m
      | none => e
    (k, e) :: towerEst s tower below res t k

/-- A layer is declared suspect: its sensors' control readings are replaced. -/
def declareSuspect (s : State) (tower layer : Nat) (fallback : Bool) : State :=
  let s := setLayer s tower layer { getLayer s tower layer with suspect := true }
  let s := setB (setB s F.THM_EST_SUSPECT (layerKey tower layer) true) F.THM_STATUS_SUSPECT 0 true
  let s := if fallback then setB s F.THM_EST_FALLBACK (layerKey tower layer) true else s
  let s := (layerSensors tower layer).foldl (fun s i => if (getSensor s i).broken then s else setF s F.THM_SENSOR_STATE i 1) s
  let i := (layerSensors tower layer).headD 0
  postClass (record s C.THM_SUSPECT tower) (sensorClass i) i

/-- The spell of a layer's mean below its estimate by a margin: its start, and whether it has lasted more than 10 ms. -/
def spell (s : State) (mean : Option Int) (est margin : Int) (start : Option Nat) : Option Nat × Bool :=
  match mean with
  | none => (none, false)
  | some m =>
    if m + margin < est then
      match start with
      | none => (some (elapsedNs s), false)
      | some t => (some t, decide (t + 10000000 < elapsedNs s))
    else (none, false)

/-- An estimate of the model (R492, R493). -/
def putEst (tower : Nat) (s : State) (e : Nat × Int) : State :=
  let x := getLayer s tower e.1
  let d := spell s (layerMean s tower e.1) e.2 8000000 x.low
  let s := setLayer s tower e.1 { x with est := e.2, low := d.1 }
  let s := setF s F.THM_EST_EST (layerKey tower e.1) (BitVec.ofInt 12 (max (-2048) (min 2047 (e.2 / 125000)))).toNat
  if d.2 && !x.suspect then declareSuspect s tower e.1 false else s

/-- An estimate of the fallback comparator (R494). -/
def putFallback (tower : Nat) (s : State) (e : Nat × Int) : State :=
  let x := getLayer s tower e.1
  let d := spell s (layerMean s tower e.1) e.2 12000000 x.fbLow
  let s := setLayer s tower e.1 { x with fallback := e.2, fbLow := d.1 }
  if d.2 && !x.suspect then declareSuspect s tower e.1 true else s

/-- The shares of power fit R492: the power below rises with the layer, and a whole is the rails' measured power. -/
def sharesOk (below : List Nat) (towers total : Nat) : Bool :=
  below.length == 7 * towers &&
  (List.range towers).all (fun t => (List.range 6).all (fun i => decide (below.getD (7 * t + i) 0 ≤ below.getD (7 * t + i + 1) 0))) &&
  ((List.range towers).map (fun t => below.getD (7 * t + 6) 0)).foldl (· + ·) 0 == total

/-- A fitted resistance within ±15 % of 0.0035 K/W (R492). -/
def putFit (s : State) (tower layer r : Nat) : State :=
  if 2975 ≤ r ∧ r ≤ 4025 then setLayer s tower layer { getLayer s tower layer with r := r } else s

/-- The fitted resistances of a tower in their THM_MODEL record. -/
def keepModel (s : State) (tower : Nat) : State :=
  logKeep s tThmModel tower ((List.range 7).flatMap (fun k => leBytes (getLayer s tower k).r 4))

/-- LAYER_MODEL_EVAL (R492, R493): `below` is the power of layers L0 to Li in mW as firmware apportions it, `fit` the resistances
it has fitted, each at 7 × tower + layer. -/
def execLayerModelEval (below : List Nat) (fit : List Nat) (s : State) : Out :=
  if s.flt.coreUp && sharesOk below 4 (stackMw s) then
    let s := (List.range 4).foldl (fun s t => (List.range 7).foldl (fun s l => putFit s t l (fit.getD (7 * t + l) 0)) s) s
    let s := if fit.isEmpty then s else (List.range 4).foldl keepModel s
    let s := setB s F.THM_STATUS_FALLBACK_ONLY 0 false
    .next ((List.range 4).foldl (fun s t =>
      match layerMean s t 7 with
      | none => s
      | some top => (towerEst s t (fun k => below.getD (7 * t + k) 0) (fun k => (getLayer s t k).r) top 7).foldl (putEst t) s) s)
  else .next s

/-- FALLBACK_EVAL (R494): `split` is the power of layers L0 to Li of one tower in mW, a quarter of the rails'. -/
def execFallbackEval (split : List Nat) (s : State) : Out :=
  if s.boot.place != .off && sharesOk split 1 (stackMw s / 4) then
    .next ((List.range 4).foldl (fun s t =>
      match layerMean s t 7 with
      | none => s
      | some top => (towerEst s t (fun k => split.getD k 0) (fun _ => 3500) top 7).foldl (putFallback t) s) s)
  else .next s

/-! ## The trip (R498, R499) -/

/-- THERM_LATCH as the device treats it: the strap, or the LATCH_FORCED fuse. -/
def latched (s : State) : Bool := s.thm.latch || bit (fuseByte s 4) 0

/-- A trip threshold has been reached: by a good sensor's reading, or by the fallback estimate of a suspect layer. -/
def tripReached (s : State) (i : Nat) (fallback : Bool) : Bool :=
  let c := sensorClass i
  let l := sensorLayer i
  if fallback then
    let x := getLayer s l.1 l.2
    x.suspect && decide (tripAt c * 125000 ≤ x.fallback)
  else goodSensor s i && (match lastRead s i with | some r => decide (tripAt c ≤ r) | none => false)

/-- The capture of a trip, in the always-on island. -/
def captureTrip (s : State) (i : Nat) (fallback : Bool) : State :=
  if getB s F.THM_TRIP_VALID 0 then s
  else
    let s := setF (setF s F.THM_TRIP_SENSOR 0 i) F.THM_TRIP_CAUSE 0 fallback.toNat
    setF (setB s F.THM_TRIP_VALID 0 true) F.THM_TRIP_TIME_TIME 0 (nowNs s)

/-- The island stops every fast clock and turns off every trim regulator, whatever the collector does (R498). -/
def stopDome (s : State) : State := tilesOff { s with clk := { s.clk with running := false } }

/-- THM_TRIP (R498): clocks and trim regulators stop, THERMTRIP_N is asserted and the device enters Parked; in Dark, where no core runs,
the collector records the trip and the island holds it. -/
def execThmTrip (sensor : Nat) (fallback : Bool) (s : State) : Out :=
  if s.boot.place != .off && decide (sensor < 1152) && tripReached s sensor fallback && !s.thm.held then
    let s := incF (captureTrip s sensor fallback) F.THM_TRIPS_COUNT 0 1
    let s := stopDome { s with thm := { s.thm with held := true, pin := true, coldSince := none } }
    .next (if s.boot.place = .up then record s C.THM_TRIP sensor
      else if s.flt.selfTick = some (sidereal s) then s
      else noteEvent s ⟨nowNs s, C.THM_TRIP.code, C.THM_TRIP.cls, sensor, 0, sidereal s, []⟩)
  else .next s

end Sys2Proof.Machine
end

