-- ==== Sys2Proof/Machine/Boot.lean ====
section
/-!
DEFINITION. Bring-up (15), power-on and reset (20, R565, R566), the restart after a trip (R500), Sleep, and the loads of a spare
and of a job from a checkpoint (R390, R433).
-/
namespace Sys2Proof.Machine

/-! ## Times (Table: Bring-up timeline) -/

/-- Milliseconds since t0, as BOOT_T0 and BOOT_T1 show them. -/
def bootMs (s : State) : Nat := min 0xFFFF ((elapsedNs s - s.boot.t0) / 1000000)

/-- The maximum of the phase in progress in ns: the difference of the maxima of Table: Bring-up timeline; none outside the
phases (R452). The wait from the end of first light to Tracking is taken as the last phase of the table (DEDUCED, assumption
118). -/
def phaseMax (s : State) : Option Nat :=
  let cold := getB s F.DEV_STATE_COLD 0
  if s.boot.place ≠ .up ∨ s.boot.netboot then none
  else if devState s = 2 then
    some (2500000000 + if (liveRec s tIdentity 0).isSome then 0 else 20000000000)
  else if devState s = 3 ∧ s.boot.core then
    some (if s.boot.fromSleep then 700000000 else if cold then (if s.boot.rateStepped then 3800000000 else 2000000000) else 600000000)
  else if devState s = 3 then some (if cold then 4000000000 else 800000000)
  else if devState s = 5 ∧ s.boot.lightDone = false then some 200000000
  else if devState s = 5 then some (if s.boot.fromSleep then 1300000000 else 2700000000)
  else none

/-- BRINGUP_TIMEOUT (R452): a phase has lasted twice its maximum. -/
def execBringupTimeout (s : State) : Out :=
  match phaseMax s with
  | some m =>
    if passed s s.boot.phaseStart (2 * m) then
      .next (bringupStops (record s C.BRINGUP_TIMEOUT 0) C.BRINGUP_TIMEOUT.code)
    else .next s
  | none => .next s

/-! ## Supply and reset (R443, R565, R566) -/

/-- The fields of a register block. -/
def blockFields (b : Block) : List Nat := (regTable b).flatMap (fun r => r.parts.map (·.fld.id))

/-- The fields that a reset leaves: the collector's, the thermal ones but THM_CFG, the pins' and THERMAL_REQ. -/
def keptFields : List Nat :=
  blockFields .flt ++
  (blockFields .thm).filter (fun f => !([F.THM_CFG_THR_DOME.id, F.THM_CFG_THR_LOGIC.id, F.THM_CFG_THR_SRAM.id, F.THM_CFG_STAGGER.id].contains f)) ++
  [F.PAUSE_STATUS_THERMAL_REQ.id, F.PIN_PRESENT_PRESENT.id, F.LED_CTL_LOCATE.id]

/-- What the flash and the fuses keep without power. -/
def keptLog (s : State) : LogS :=
  { fuses := s.log.fuses, reverted := s.log.reverted, size := s.log.size, blocks := s.log.blocks, gen := s.log.gen, seq := s.log.seq }

/-- Off: VAON is absent, and every state but the flash, the fuses and the model's own clock and counter is lost. -/
def offState (s : State) : State :=
  { pending := s.pending
    clk := { mono := s.clk.mono }
    sys := { free := s.sys.free }
    flt := { coreUp := false }
    boot := { place := .off, fuse := s.boot.fuse }
    pwr := { rails := [], order := [] }
    log := keptLog s }

/-- Dark: the always-on island, the sidereal clock, the thermal comparators and the collector go on with what they hold; the
management core is held in reset (R13, Table: Device states). -/
def darkState (s : State) : State :=
  { pending := s.pending
    clk := { mono := s.clk.mono }
    sys := { free := s.sys.free
             regs := s.sys.regs.filter (fun e => keptFields.contains e.1.1)
             latch := s.sys.latch.filter (fun e => keptFields.contains e.1.1) }
    flt := { s.flt with coreUp := false, coreRestart := none }
    boot := { place := .dark, fuse := s.boot.fuse, vaonAt := s.boot.vaonAt, resetLow := s.boot.resetLow, resetEnd := s.boot.resetEnd }
    pwr := { rails := [(11, { on := true, good := true }), (13, { on := true, good := true })], order := [] }
    thm := { s.thm with rateDue := false }
    log := keptLog s
    pin := { s.pin with blink := none } }

/-- VAON_LOSS (R443). -/
def execVaonLoss (s : State) : Out := .next (offState s)

/-- VAON_UP (R443, R499): Dark; THERM_LATCH is sampled; RESET_N is held low. -/
def execVaonUp (latch : Bool) (s : State) : Out :=
  if s.boot.place = .off then
    let d := darkState s
    .next { d with
      boot := { d.boot with vaonAt := elapsedNs s, resetLow := some (elapsedNs s), resetEnd := none }
      thm := { d.thm with latch := latch }
      flt := { coreUp := false } }
  else .next s

/-- RESET_N_ASSERT (R566): RESET_N has been low for 1 µs, the filter delay; the internal reset lasts 10 µs from the falling
edge. -/
def execResetNAssert (s : State) : Out :=
  if s.boot.place = .off ∨ s.boot.resetLow.isSome then .next s
  else
    let d := darkState s
    let t := elapsedNs s - 1000
    .next { d with boot := { d.boot with resetLow := some t, resetEnd := some (t + 10000) } }

/-- At a start no sensor is broken and no layer is suspect (R489, R493). -/
def freshSensors (s : State) : State :=
  let s := { s with thm := { s.thm with
    sensors := s.thm.sensors.map (fun e => (e.1, { e.2 with broken := false, misses := 0 }))
    layers := s.thm.layers.map (fun e => (e.1, { e.2 with suspect := false, low := none, fbLow := none })) } }
  [F.THM_STATUS_SUSPECT, F.THM_STATUS_BROKEN, F.THM_SENSOR_STATE, F.THM_EST_SUSPECT, F.THM_EST_FALLBACK].foldl clearField s

/-- A restart after a trip is recorded in Twilight (R500). -/
def noteRestart (s : State) : State :=
  if s.thm.restarted then
    recordWith { s with thm := { s.thm with restarted := false } } C.THM_RESTART 0
      [getF s F.THM_TRIP_SENSOR 0, getF s F.THM_TRIP_CAUSE 0, getF s F.THM_TRIP_TIME_TIME 0]
  else s

/-- Twilight begins (R444): the management core boots and the board rails are enabled in order. -/
def beginTwilight (s : State) : State :=
  let s := { s with
    flt := { s.flt with coreUp := true, fedAt := elapsedNs s }
    boot := { s.boot with place := .up, t0 := elapsedNs s, phaseStart := elapsedNs s, resetEnd := none } }
  noteRestart (enableRails (freshSensors s) [6, 7, 8, 9, 10, 5, 4])

/-- The requirements of Table: Power-on and reset timing hold: 2 ms since VAON came into range (R565). -/
def mayStart (s : State) : Bool := passed s s.boot.vaonAt 2000000

/-- RESET_N_RELEASE (R565, R566, R499): Twilight begins at the later of the release and the end of the internal reset. EXTEST
gives the lands back (R570). -/
def execResetNRelease (latch : Bool) (s : State) : Out :=
  if s.boot.place = .dark ∧ s.boot.resetLow.isSome then
    let s := { s with
      boot := { s.boot with resetLow := none }
      thm := { s.thm with latch := latch }
      pin := { s.pin with driven := none } }
    if mayStart s ∧ s.boot.resetEnd = none then .next (beginTwilight s) else .next s
  else .next s

/-- INTERNAL_RESET_END (R566): 10 µs from the falling edge. -/
def execInternalResetEnd (s : State) : Out :=
  match s.boot.resetEnd with
  | none => .next s
  | some t =>
    if passed s t 0 then
      let s := { s with boot := { s.boot with resetEnd := none } }
      if s.boot.place = .dark ∧ s.boot.resetLow = none ∧ mayStart s then .next (beginTwilight s) else .next s
    else .next s

/-- THM_RESTART (R500): every good sensor has read below 70 °C for 10 s. THERMTRIP_N is deasserted and the device passes through Dark
into Twilight, unless RESET_N holds it in Dark. -/
def execThmRestart (s : State) : Out :=
  match s.thm.coldSince with
  | none => .next s
  | some t =>
    if s.thm.held && !latched s && passed s t 10000000000 && s.boot.place != .off then
      let d := darkState { s with thm := { s.thm with held := false, pin := false, coldSince := none, restarted := true } }
      .next (if s.boot.place = .up then beginTwilight d else d)
    else .next s

/-! ## Twilight (R444 to R447, R543) -/

/-- The bytes of the fuse map that are given as 0. -/
def fuseZeros : List Nat := 3 :: (List.range 7).map (57 + ·) ++ (List.range 896).map (3200 + ·)

/-- The fuse map is invalid (R447, R446). -/
def fuseBad (s : State) : Bool :=
  let w (o : Nat) : Nat := fuseByte s o + 256 * fuseByte s (o + 1)
  let marks (c : Nat) : Nat := ((List.range 16).filter (bit (w (64 + 2 * c)))).length
  w 0 != 1 || fuseByte s 2 != 0xB0 || (List.range 64).any (fun c => decide (1 < marks c)) || fuseByte s 56 != 0 ||
    fuseZeros.any (fun o => fuseByte s o != 0)

/-- The records whose CRC fails are marked. -/
def markBad (s : State) (bad : List Nat) : State :=
  { s with log := { s.log with blocks := s.log.blocks.map (fun b =>
      { b with recs := b.recs.map (fun r => { r with bad := r.bad || bad.contains r.seq }) }) } }

/-- A record lies in a committed range: a COMMIT record of its group covers it. -/
def inCommitted (s : State) (r : LogRec) : Bool :=
  (journal s).any (fun c => isCommitOf (groupOf r) c && fld c.body 1 1 == 0 && decide (r.seq ≤ fld c.body 8 8) && decide (r.seq < c.seq))

/-- The highest committed SEQ. -/
def topCommitted (s : State) : Nat :=
  (journal s).foldl (fun m c => if c.type = tCommit ∧ fld c.body 1 1 = 0 then max m (fld c.body 8 8) else m) 0

/-- Blocks whose header fails its CRC are ignored (R543). -/
def dropBlocks (s : State) (bad : List Nat) : State :=
  { s with log := { s.log with blocks := s.log.blocks.filter (fun b => !bad.contains b.index) } }

/-- The journal is resolved (R543, R546); records that wait for a COMMIT are dead. -/
def resolveLog (s : State) (found : TwilightFound) : State :=
  if found.flashOk then
    let s := dropBlocks s found.badBlocks
    let s := setB (setB s F.LOG_STATUS_PRESENT 0 true) F.LOG_STATUS_WRITABLE 0 true
    let s := markBad (postFill (setF s F.LOG_STATUS_BLOCKS 0 (s.log.size / 2))) found.badRecs
    let hit := (s.log.blocks.flatMap (·.recs)).filter (fun r => r.bad && inCommitted s r)
    let s := hit.foldl (fun s _ => record s C.LOG_CORRUPT 0) s
    logCommit (logCommit (setF s F.LOG_SEQ_SEQ 0 (topCommitted s)) 0 true) 1 true
  else record s C.LOG_UNAVAILABLE 0

/-- The RSA identity key: kept in the IDENTITY record, or derived again (R536). -/
def checkIdentity (s : State) (ok : Bool) : State :=
  if ok && (liveRec s tIdentity 0).isSome then s
  else record (logAppend s tIdentity 0 0 (Config.identityRecord s.log.fuses.idSeed)) C.IDENTITY_REDERIVED 0

/-- The body of BOARD_SEEN: the package identities and the digest of the fuse map (assumption 46). -/
def seenBody (s : State) : List Byte :=
  s.boot.packages.flatMap (fun p => leBytes p.type 1 ++ leBytes p.vendor 1 ++ leBytes p.density 1 ++ leBytes p.ranks 1 ++
    leBytes p.row 1 ++ leBytes p.rate 1) ++ fuseDigest s

/-- The grounds on which a start from Dark is cold, in the order of R455: COLD_NEXT was set; the logbook holds no board profile, or
the packages differ from it; the digest of the fuse map differs. -/
def coldGrounds (s : State) : List Bool :=
  [match liveRec s tBoot 0 with
   | some r => fld r.body 0 1 != 0
   | none => false,
   (liveRec s tSite 0).isNone,
   match liveRec s tSeen 0 with
   | some r => r.body != seenBody s
   | none => true]

/-- A start from Dark is cold (R455). -/
def startsCold (s : State) : Bool := (coldGrounds s).any id

/-- The packages differ, or are of a type or size that the device does not support (R242, R243). -/
def packagesBad (ps : List PkgId) : Bool :=
  match ps with
  | [] => true
  | p :: _ =>
    ps.length != 24 || ps.any (fun q => q.type != p.type || q.vendor != p.vendor || q.density != p.density || q.ranks != p.ranks || q.row != p.row) ||
      decide (1 < p.type) || decide (3 < p.density) || decide (p.ranks < 1) || decide (2 < p.ranks) || decide (1 < p.row) || ps.any (fun q => decide (2 < q.rate))

/-- The configuration of the LPDDR: the type, size and ranks of the packages, at the rate of R244. -/
def setMemory (s : State) : State :=
  match s.boot.packages with
  | [] => s
  | p :: _ =>
    let declared := (s.boot.packages.map (·.rate)).foldl max 0
    let limit := match liveRec s tSite 0 with
      | some r => fld r.body 12 1
      | none => 0
    let s := setF (setF s F.MEM_CFG_TYPE 0 p.type) F.MEM_CFG_PKG 0 p.density
    setF (setF s F.MEM_CFG_RANKS 0 (p.ranks - 1)) F.MEM_CFG_RATE 0 (min 2 (max declared limit))

/-- Every channel trains. -/
def trainChannels (s : State) : State :=
  (List.range 192).foldl (fun s c => setF (setF s F.MCH_STATUS_STATE c 1) F.MCH_STATUS_TRAIN c 0) s

/-- The host port's addresses until an image names others (R543): those of BOARD_SITE, else, and in netboot, those of R532. -/
def hostAddresses (s : State) : State :=
  let d := fuseDigest s
  match (if s.boot.netboot then none else liveRec s tSite 0) with
  | some r => { s with act := { s.act with hostMac := fld r.body 0 6, hostIp := fld r.body 8 4 } }
  | none =>
    let d0 := fld d 0 1
    { s with act := { s.act with
        hostMac := leNat (2 :: d.take 5)
        hostIp := leNat (leBytes 169 1 ++ leBytes 254 1 ++ leBytes (1 + d0 % 254) 1 ++ leBytes (fld d 1 1) 1) } }

/-- The host port is trained, and MCC answers. -/
def hostUp (s : State) : State :=
  setPort (setF (hostAddresses s) F.PRT_STATUS_STATE 255 2) 255 { getPort s 255 with upSince := some (elapsedNs s) }

/-- Core collimation begins (R449, R464): its rails are enabled, and every channel trains. -/
def beginCore (s : State) (rails : List Nat) : State :=
  let s := { s with boot := { s.boot with core := true, lightDone := false, phaseStart := elapsedNs s, rateStepped := false } }
  enableRails (trainChannels (setF s F.DEV_STATE_STATE 0 3)) rails

/-- COLD_NEXT is cleared by the start that it made cold. -/
def clearColdNext (s : State) : State :=
  let s := setB s F.BOOT_CTL_COLD_NEXT 0 false
  match liveRec s tBoot 0 with
  | some r => if fld r.body 0 1 = 0 then s else logAppend s tBoot 0 0 (List.replicate 8 0)
  | none => s

/-- Twilight has ended with firmware running: the start is cold or warm, and collimation begins (R443, R455). -/
def leaveTwilight (s : State) : State :=
  let cold := startsCold s
  let s := setB s F.DEV_STATE_COLD 0 cold
  let s := if cold then recordWith s C.COLD_START 0 ((coldGrounds s).map Bool.toNat) else s
  let s := hostUp (setF (clearColdNext s) F.BOOT_T0_FIRST 0 (bootMs s))
  if packagesBad s.boot.packages then
    let s := record s C.CH_MISMATCH 0
    if devState s = 8 then s else bringupStops s C.CH_MISMATCH.code
  else beginCore (setMemory s) [12, 0, 1, 2, 3]

/-- TWILIGHT_END (R444, R445, R447, R501, R527, R532). -/
def execTwilightEnd (found : TwilightFound) (s : State) : Out :=
  if s.boot.place = .up ∧ devState s = 2 ∧ s.pwr.order = [] ∧ s.boot.netboot = false then
    if found.selfTestOk = false then
      let s := record (hostUp s) C.SELFTEST_FAIL 0
      .next (if devState s = 8 then s else bringupStops s C.SELFTEST_FAIL.code)
    else if fuseBad s then
      let s := record (hostUp s) C.FUSE_INVALID 0
      .next (if devState s = 8 then s else bringupStops s C.FUSE_INVALID.code)
    else
      let s := checkIdentity (resolveLog { s with boot := { s.boot with packages := found.packages } } found) found.identityOk
      let s := loadFirmware s
      if s.thm.held then
        let s := record (hostUp s) C.THM_LATCHED 0
        .next (if devState s = 8 then s else bringupStops s C.THM_LATCHED.code)
      else if s.boot.netboot then .next (hostUp s)
      else .next (leaveTwilight s)
  else .next s

/-! ## Core collimation (R449, R451, R456) -/

/-- The recorded depth of a crossing of a tower: four bits each in the XING record. -/
def recordedDepth (s : State) (tower k : Nat) : Option Nat :=
  match liveRec s tXing tower with
  | some r => let d := bits (fld r.body 0 4) (4 * k) 4; if 2 ≤ d ∧ d ≤ 12 then some d else none
  | none => none

/-- The smallest depth that fits a crossing's measured phase. -/
def neededDepth (found : CollimationFound) (tower k : Nat) : Nat :=
  match found.depths.find? (fun e => e.1 == tower && e.2.1 == k) with
  | some e => max 2 e.2.2
  | none => 2

/-- The depth of a crossing: the recorded one where a warm start finds that it fits, else the smallest that fits (R29 to R31). -/
def depthOf (s : State) (found : CollimationFound) (tower k : Nat) : Nat :=
  let n := neededDepth found tower k
  match (if getB s F.DEV_STATE_COLD 0 then none else recordedDepth s tower k) with
  | some d => if n ≤ d then d else n
  | none => n

/-- A crossing that no depth up to 12 fits. -/
def crossingBad (s : State) (found : CollimationFound) (tower : Nat) : Bool :=
  (List.range 7).any (fun k => decide (12 < depthOf s found tower k))

/-- The crossings of a tower: set, recorded, and a changed depth in the change log (R31). -/
def setCrossings (found : CollimationFound) (s : State) (tower : Nat) : State :=
  let ds := (List.range 7).map (depthOf s found tower)
  let w := (ds.zipIdx).foldl (fun n e => n + e.1 * 16 ^ e.2) 0
  let t := logKeep (setF s F.TWR_XING_DEPTH tower w) tXing tower (leBytes w 8)
  if getB s F.DEV_STATE_COLD 0 then t
  else (List.range 7).foldl (fun t k => match recordedDepth s tower k with
    | some d => noteChange t 1 2 tXing d (ds.getD k 0)
    | none => t) t

/-- The offset of a sensor: restored on a warm start, else measured and recorded; beyond ±6 °C the sensor is broken (R484). -/
def calibrate (found : CollimationFound) (s : State) (i : Nat) : State :=
  let measured := match found.offsets.find? (fun e => e.1 == i) with
    | some e => e.2
    | none => 0
  let old := if getB s F.DEV_STATE_COLD 0 then none else (liveRec s tThmCal i).map (fun r => (BitVec.ofNat 16 (fld r.body 0 2)).toInt)
  match old with
  | some o => setSensor s i { getSensor s i with offset := o }
  | none =>
    if measured < -48 ∨ 48 < measured then breakSensor s i
    else logKeep (setSensor s i { getSensor s i with offset := measured }) tThmCal i (leBytes (BitVec.ofInt 16 measured).toNat 8)

/-- A record that a warm start may use; a cold one uses none (R456). -/
def warmRec (s : State) (type unit : Nat) : Option LogRec := if getB s F.DEV_STATE_COLD 0 then none else liveRec s type unit

/-- The aging offset and the quota of a physical tile at a start: restored on a warm start, else 0 and 40 mV (R23, R24, R463). The
tile is to meet its target anew in first light (R453). -/
def restoreTile (s : State) (p : Nat) : State :=
  let s := match warmRec s tAging p with
    | some r => setPhys s p { getPhys s p with met := false, age := fld r.body 0 4, ageKnown := true }
    | none => setPhys s p { getPhys s p with met := false, age := 0, ageKnown := false }
  match warmRec s tQuota p with
  | some r => setTileP s p { getTileP s p with quota := fld r.body 0 4, settled := true }
  | none => setTileP s p { getTileP s p with quota := 16, settled := false, tracked := none }

/-- The resistances of a tower: the fitted ones that a warm start restores, else 0.0035 K/W each (R495). -/
def restoreModel (s : State) (tower : Nat) : State :=
  let kept := warmRec s tThmModel tower
  (List.range 7).foldl (fun s k => setLayer s tower k { getLayer s tower k with
    r := match kept with
      | some r => fld r.body (4 * k) 4
      | none => 3500 }) s

/-- What a warm start reuses and a cold one does not (R456, Table: What a warm start reuses). -/
def restoreWarm (s : State) : State :=
  (List.range 4).foldl restoreModel ((List.range 576).foldl restoreTile s)

/-! ### Spare TSVs (02, R19; Table: What a warm start reuses) -/

/-- An entry of a TSV_STEER record at a byte offset of its body (assumption 97). -/
def steerEntry (b : List Byte) (k : Nat) : Nat × Nat × Nat × Nat := (fld b (8 * k) 2, fld b (8 * k + 2) 1, fld b (8 * k + 3) 1, fld b (8 * k + 4) 4)

/-- The entries of a tower's TSV_STEER record that a start may use; a cold start uses none. -/
def steerRecord (s : State) (tower : Nat) : Option (List (Nat × Nat × Nat × Nat)) :=
  if getB s F.DEV_STATE_COLD 0 then none
  else (liveRec s tTsv tower).map (fun r => (List.range (r.body.length / 8)).map (steerEntry r.body))

/-- The failed TSVs of a tower: those that the record names, of the segments that it does not flag; and those that the test finds,
of the flagged segments, or of every segment where no record may be used. -/
def steerTower (s : State) (found : CollimationFound) (tower : Nat) : List (Nat × Nat × Nat) :=
  let tested := found.tsvs.filter (fun e => e.1 / 128 == tower)
  match steerRecord s tower with
  | none => tested
  | some es =>
    let flagged (t e : Nat) : Bool := es.any (fun x => x.1 == t && x.2.1 == e && x.2.2.1 == 1)
    (es.filter (fun x => x.2.2.1 == 0 && !flagged x.1 x.2.1)).map (fun x => (x.1, x.2.1, x.2.2.2)) ++
      tested.filter (fun x => flagged x.1 x.2.1)

/-- Every failed TSV of a tower is steered to a spare, and the assignment is recorded. -/
def steerSpares (found : CollimationFound) (s : State) (tower : Nat) : State :=
  let new := steerTower s found tower
  let s := { s with tower := { s.tower with
    steer := s.tower.steer.filter (fun e => e.1 / 128 != tower) ++ new
    retest := s.tower.retest.filter (fun e => e.1 / 128 != tower) } }
  logKeep s tTsv tower (steerBody s tower)

/-- A persistent shutter record names a physical tile (R451). -/
def keptShut (s : State) (p : Nat) : Bool := (liveRec s tShutter p).isSome

/-- A physical row of a column is bad: by BAD_ROWS or by a persistent shutter (R446, R451). -/
def rowBad (s : State) (c r : Nat) : Bool :=
  bit (fuseByte s (64 + 2 * c) + 256 * fuseByte s (65 + 2 * c)) r || keptShut s (c / 16 * 144 + 16 * r + c % 16)

/-- The rows of a column: logical row i on the i-th usable row, the remaining usable row its spare (R453). -/
def placeColumn (s : State) (c : Nat) : State :=
  let good := (List.range 9).filter (fun r => !rowBad s c r)
  let bad := (List.range 9).filter (rowBad s c)
  let s := setCol s c { rows := (good ++ bad).take 8, spare := good[8]? }
  (List.range 8).foldl (fun s i =>
    if i < good.length then s else setB s F.ARR_STATUS_SHUTTERED (128 * (c / 16) + 16 * i + c % 16) true) s

/-- The columns of the dome, with the shutters that persist. -/
def placeColumns (s : State) : State :=
  let s := (List.range 576).foldl (fun s p => if keptShut s p then setB s F.FLT_SHUT_TILE p true else s) s
  (List.range 64).foldl placeColumn s

/-- The layers are out of reset and their PLLs locked (R449, step 1). -/
def raiseTower (s : State) (t : Nat) : State :=
  let s := (List.range 8).foldl (fun s l => setPll s t l { lockA := true, lockB := true }) s
  let s := setB (setF s F.TWR_STATUS_LAYER_RST t 0) F.TWR_STATUS_PARTITION_UP t true
  postPll (setB s F.TWR_STATUS_SPINE_OK t true) t

/-- The device enters Idle; the dome clocks run. -/
def enterIdle (s : State) : State :=
  let s := { s with
    boot := { s.boot with core := false }
    clk := { s.clk with running := true }
    eph := { s.eph with frame := s.clk.cyc, inSlot := false, slotUntil := 0 } }
  let s := setF (setF s F.DEV_STATE_STATE 0 4) F.BOOT_T0_SECOND 0 (bootMs s)
  commitOwn (logKeep s tSeen 0 (seenBody s))

/-- The sealed full image. -/
def sealedFull (s : State) : Option Image :=
  if getF s F.IMG_STATUS_STATE 0 = 3 ∧ getB s F.IMG_STATUS_KIND 0 = false then s.act.staged else none

/-- A start from Sleep goes on with the sealed or the active image; else the device stays in Idle (R443, R457). -/
def afterIdle (s : State) : State :=
  if s.boot.fromSleep then
    match sealedFull s with
    | some i => beginCommit s i
    | none =>
      match s.act.image with
      | some i => setF (reapply s i) F.DEV_STATE_STATE 0 3
      | none => s
  else s

/-- CORE_COLLIMATION_END (R449): all five steps have ended. -/
def execCoreCollimationEnd (found : CollimationFound) (s : State) : Out :=
  if devState s = 3 ∧ s.boot.core ∧ s.pwr.order = [] ∧ allTrained s then
    match (List.range 4).find? (crossingBad s found) with
    | some t =>
      let s := record s C.XING_DEPTH_RANGE t
      .next (if devState s = 8 then s else bringupStops s C.XING_DEPTH_RANGE.code)
    | none =>
      let s := (List.range 4).foldl (steerSpares found) s
      let s := (List.range 4).foldl raiseTower ((List.range 4).foldl (setCrossings found) s)
      let s := placeColumns (restoreWarm s)
      let s := (List.range 576).foldl checkMargin s
      let s := (List.range 1152).foldl (calibrate found) s
      .next (if devState s = 3 then afterIdle (enterIdle s) else s)
  else .next s

/-! ## Link collimation, first light and Tracking (R450, R453, R454) -/

/-- The image that link collimation and first light serve: the one under commit, or the active one. -/
def lightImage (s : State) : Option Image :=
  match committing s with
  | some i => some i
  | none => s.act.image

/-- LINK_COLLIMATION_END (R450, R333, R452): every port has ended training; first light follows, unless an event has stopped bring-up. -/
def execLinkCollimationEnd (s : State) : Out :=
  if devState s = 3 ∧ s.boot.core = false ∧ portsTrained s then
    let s := selectSynce (changeClock s) false
    let s := moveRoutes s
    let s := (s.act.routes.filter (fun r => !covered s r)).foldl (fun s r => portEvent s r.primary C.ROUTE_UNCOVERED r.stream) s
    if devState s = 3 then
      let s := setF (setF s F.DEV_STATE_STATE 0 5) F.BOOT_T1_FIRST 0 (bootMs s)
      let s := commitOwn s
      .next (askWakes { s with boot := { s.boot with phaseStart := elapsedNs s }
                               tower := { s.tower with phys := s.tower.phys.map (fun e => (e.1, { e.2 with met := false })) } } (hostTiles s))
    else .next s
  else .next s

/-- Every tile that hosts a logical tile is awake, and every monitor of every awake tile meets its target, as its last evaluation in
this first light found (R453). -/
def lit (s : State) : Bool :=
  s.pwr.queue.isEmpty && s.pwr.ramps.isEmpty &&
    (hostTiles s).all (fun p => (getTileP s p).state == 2 || getB s F.FLT_SHUT_TILE p) &&
    (List.range 576).all (fun p => (getTileP s p).state != 2 || (getPhys s p).met)

/-- FIRST_LIGHT_END (R453): its four steps have ended. -/
def execFirstLightEnd (s : State) : Out :=
  if devState s = 5 ∧ s.boot.lightDone = false ∧ lit s then
    let s := match lightImage s with
      | some i => fillFocal s i
      | none => s
    .next { s with boot := { s.boot with lightDone := true, phaseStart := elapsedNs s } }
  else .next s

/-- TRACKING_ENTRY (R454). -/
def execTrackingEntry (s : State) : Out :=
  if devState s = 5 ∧ s.boot.lightDone ∧ getB s F.TIME_STATUS_ALIGNED 0 ∧ routesCovered s ∧ s.mer.remains then
    let s := setB (setF s F.DEV_STATE_STATE 0 6) F.DEV_STATE_READY 0 true
    .next (setF s F.BOOT_T1_SECOND 0 (bootMs s))
  else .next s

/-! ## Sleep (R442, R443, R464) -/

/-- The device enters Sleep: dirty lines are written back, the stack and the dome lose power, LPDDR goes into self-refresh. -/
def enterSleep (s : State) : State :=
  let s := (List.range 192).foldl flushSlice (tilesOff s)
  let s := wipe s scratchBase (plateAddr 192 0 0)
  let s := (List.range 4).foldl selfRefresh s
  let s := (List.range 192).foldl (fun s p => setPort (setF s F.PRT_STATUS_STATE p 0) p {}) s
  let s := clearField (clearField (clearField s F.TWR_STATUS_LAYER_RST) F.TWR_STATUS_PARTITION_UP) F.TWR_STATUS_SPINE_OK
  let s := setB (setB (setF s F.DEV_STATE_STATE 0 7) F.DEV_STATE_READY 0 false) F.TIME_STATUS_ALIGNED 0 false
  let s := { s with
    clk := { s.clk with running := false }
    eph := { s.eph with inSlot := false, slotUntil := 0 }
    tower := { s.tower with spine := [], out := none, pll := [], resets := [] }
    deep := { s.deep with slices := [], chans := s.deep.chans.map (fun e => (e.1, { e.2 with copy := none, due := none })), frags := [], heldReq := [], refused := [], done := [], outstanding := [] } }
  (List.range 4).foldl postPll (railsOff s [3, 2, 1, 0, 12, 4, 5])

/-- Shutters of slices, channels and ports, and those of tiles that the logbook does not keep, are open (R451). -/
def reopenAll (s : State) : State :=
  let s := (List.range 576).foldl (fun s p =>
    if getB s F.FLT_SHUT_TILE p && (lastRec s tShutter p).isNone then setB s F.FLT_SHUT_TILE p false else s) s
  let s := [F.FLT_SHUT_SLICE, F.FLT_SHUT_CHANNEL, F.FLT_SHUT_PORT, F.SLC_STATUS_SHUTTERED, F.SLC_STATUS_FOLDED,
    F.SLC_STATUS_SERVING, F.MCH_STATUS_SPREAD, F.MCH_STATUS_SPREAD_IN, F.ARR_STATUS_SHUTTERED].foldl clearField s
  loadChanged { s with
    store := { s.store with spreads := [], short := [] }
    tower := { s.tower with slews := [] }
    deep := { s.deep with chans := s.deep.chans.map (fun e => (e.1, { e.2 with bad := false })) } }

/-- A start from Sleep (R443, R457, R464): t0 is the acceptance of the request. -/
def wakeUp (s : State) : State :=
  let s := reopenAll (freshSensors { s with boot := { s.boot with t0 := elapsedNs s, fromSleep := true } })
  beginCore (setB s F.DEV_STATE_COLD 0 false) [5, 4, 12, 0, 1, 2, 3]

/-! ## Loads from a checkpoint (R390, R433) -/

/-- Every committed page has been read whole. -/
def wholeShard (s : State) (pages : List (Nat × List Byte)) : Bool :=
  (committedPages s).all (fun p => pages.any (fun g => g.1 == p && g.2.length == 4096))

/-- The shard and the record of checkpoint `c` are loaded: the loaded state is the resident snapshot (R386). -/
def loadShard (s : State) (c : Nat) (pages : List (Nat × List Byte)) : State :=
  let s := putPages (dropCommittedLines s) pages
  let b := (cohRead s (4096 * getF s F.MER_RECORD_PG_PAGE 0) 4096).1
  let s := setF (loadRecord s b) F.MER_ATTEMPT_ATTEMPT 0 0
  let snap : Snapshot := ⟨c, b, [], false, true, false, 0⟩
  restage (setF { s with net := { s.net with named := some snap, newer := none }, mer := { s.mer with intact := true } } F.MER_CKPT_STEP 0 c)

/-- SPARE_JOIN (R390, R436): a spare in Tracking with its image active loads its shard and waits in HOLD. -/
def execSpareJoin (pages : List (Nat × List Byte)) (failed : Bool) (s : State) : Out :=
  match s.mcc.spare with
  | none => .next s
  | some j =>
    if devState s = 6 ∧ phase s = 0 ∧ getF s F.IMG_STATUS_STATE 0 = 0 ∧ getB s F.IMG_STATUS_ACTIVE 0 then
      let s := { s with mcc := { s.mcc with spare := none, work := s.mcc.work.filter (· != 0x44) } }
      if failed || !wholeShard s pages then .next (enterHold (record s C.CKPT_UNREADABLE 0))
      else .next (enterHold (recordWith (loadShard s j.ckptStep pages) C.SPARE_JOIN 0 [s.act.index]))
    else .next s

/-- CKPT_LOAD_DONE (R433): the load of a job from a checkpoint ends between the acceptance and MARK. -/
def execCkptLoadDone (pages : List (Nat × List Byte)) (failed : Bool) (s : State) : Out :=
  match s.mer.loading with
  | none => .next s
  | some c =>
    if phase s = 7 then
      let s := { s with mer := { s.mer with loading := none } }
      if failed || !wholeShard s pages then .next (enterHold (record s C.CKPT_UNREADABLE 0))
      else
        let s := loadShard { s with mer := { s.mer with loaded := true } } c pages
        .next (setF s F.MER_PHASE_GATE 0 0)
    else .next s

end Sys2Proof.Machine
end

