-- ==== Sys2Proof/Machine/Fault.lean ====
section
/-!
DEFINITION. The collector's own commands (18): the watchdog, stops and restarts of the management core, ERR_N, the collector's
self-check and the clock monitors (R513 to R517).
-/
namespace Sys2Proof.Machine

/-! ## The watchdog (R514) -/

/-- A write to FLT_WDOG: 0x5A7C feeds the watchdog, other values are ignored. -/
def feedWatchdog (s : State) (v : Nat) : State :=
  if v % 65536 = 0x5A7C then { s with flt := { s.flt with fedAt := elapsedNs s } } else s

/-- WATCHDOG_FEED (R514). -/
def execWatchdogFeed (value : W32) (s : State) : Out := .next (feedWatchdog s value.toNat)

/-- MANAGEMENT_CORE_STOPS (R10). -/
def execManagementCoreStops (s : State) : Out :=
  if s.boot.place = .up ∧ s.flt.coreUp then .next (coreDown s) else .next s

/-- A stop within 10 minutes of a switch: the set that ran before runs again (R531). -/
def revertFirmware (s : State) : State :=
  match s.log.switchedAt, s.log.before, s.log.running with
  | some t, some old, some bad =>
    if passed s t 600000000000 then s
    else
      let s := { s with log := { s.log with before := none, switchedAt := none, next := none, restart := false, reverted := bad.set :: s.log.reverted } }
      record (runSet s old) C.FW_REVERTED 0
  | _, _, _ => s

/-- MGC_STOPPED (R514, R515): 500 ms without a feed. The third stop within an hour records MGC_FAILED, and the core is not
restarted. -/
def execMgcStopped (s : State) : Out :=
  if s.boot.place = .up && s.flt.coreRestart.isNone && !getB s F.FLT_MGC_FAILED 0 && passed s s.flt.fedAt 500000000 then
    let s := record s C.MGC_STOPPED 0
    let stops := (elapsedNs s :: s.flt.stops).filter (fun t => decide (elapsedNs s < t + 3600000000000))
    let s := revertFirmware { s with flt := { s.flt with stops := stops }, log := { s.log with runSince := elapsedNs s } }
    if 3 ≤ stops.length then .next (record (setB (dropSession (coreDown s)) F.FLT_MGC_FAILED 0 true) C.MGC_FAILED 0)
    else .next (incF (restartCore s) F.FLT_MGC_RESTARTS 0 1)
  else .next s

/-- MGC_RESTART_DONE (R514, R530): the core answers MCC again; a set that waits for its switch runs, and in Parked the rails
that Parked does not keep go off (R507). -/
def execMgcRestartDone (s : State) : Out :=
  if s.flt.coreRestart.isSome then
    let s := { s with flt := { s.flt with coreUp := true, coreRestart := none, fedAt := elapsedNs s } }
    let s := match s.log.next with
      | some x =>
        let was := s.log.running
        let s := { s with log := { s.log with before := was, next := none, restart := false, switchedAt := some (elapsedNs s) } }
        recordWith (runSet s x) C.FW_SWITCHED 0 [(was.map (·.version)).getD 0, x.version]
      | none => s
    .next (if devState s = 8 then parkRails s else s)
  else .next s

/-! ## ERR_N (R513) -/

/-- ERR_N is asserted while its timer runs, ERRN_HOLD is 1, or the device is in Parked. -/
def postErrn (s : State) : State :=
  setB s F.FLT_STATUS_ERRN 0 (s.flt.errnEnd.isSome || getB s F.FLT_CTL_ERRN_HOLD 0 || devState s == 8)

/-- ERRN_TIMER_END (R513). -/
def execErrnTimerEnd (s : State) : Out :=
  match s.flt.errnEnd with
  | some t =>
    if passed s t 0 then .next (postErrn (setB { s with flt := { s.flt with errnEnd := none } } F.FLT_STATUS_ERRN_TIMER 0 false))
    else .next s
  | none => .next s

/-- A write of ERRN_HOLD. -/
def writeErrnHold (s : State) (v : Nat) : State := postErrn (setB s F.FLT_CTL_ERRN_HOLD 0 (bit v 0))

/-- ERRN_HOLD_WRITE (R513). -/
def execErrnHoldWrite (value : W32) (s : State) : Out := .next (writeErrnHold s value.toNat)

/-! ## The collector and the clocks (R516, R517) -/

/-- COLLECTOR_SELF (R516): recorded in FLT_SELF alone; the device enters Parked without the queue and without the management
core, which does not turn rails off. -/
def execCollectorSelf (parity : Bool) (s : State) : Out :=
  if s.boot.place = .off then .next s
  else
    let s := setB (setB s F.FLT_SELF_VALID 0 true) (if parity then F.FLT_SELF_PARITY else F.FLT_SELF_COMPARE) 0 true
    let s := { s with flt := { s.flt with selfTick := some (sidereal s) } }
    if s.boot.place = .up then
      let up := s.flt.coreUp
      let s := { s with flt := { s.flt with coreUp := false } }
      let s := if inBringup s then bringupStops s C.COLLECTOR_SELF.code else enterParked s
      .next { s with flt := { s.flt with coreUp := up } }
    else .next s

/-- REFCLK_LOST (R517). -/
def execRefclkLost (tower : Nat) (s : State) : Out :=
  if s.boot.place = .up then .next (record s C.REFCLK_LOST tower) else .next s

end Sys2Proof.Machine
end

