-- ==== Sys2Proof/Machine/Journal.lean ====
section
/-!
DEFINITION. The commands of the logbook and of the rollback counter (19, R528, R544 to R547; 15, R455).
-/
namespace Sys2Proof.Machine

/-- ROLLBACK_ADVANCED (R528): the running set has BURN, a higher SVN, and 24 h without a stop of the core. -/
def execRollbackAdvanced (s : State) : Out :=
  match s.log.running with
  | some x =>
    if x.burn && decide (s.log.fuses.rollback < x.svn) && passed s s.log.runSince 86400000000000 then
      .next (recordWith { s with log := { s.log with fuses := { s.log.fuses with rollback := x.svn } } } C.ROLLBACK_ADVANCED 0 [x.svn])
    else .next s
  | none => .next s

/-- The flash does not answer or a program fails verification: writing stops (R546). -/
def logFails (s : State) : State :=
  if getB s F.LOG_STATUS_WRITABLE 0 then
    record (setB { s with log := { s.log with compact := none } } F.LOG_STATUS_WRITABLE 0 false |> (setB · F.LOG_STATUS_COMPACTING 0 false)) C.LOG_UNAVAILABLE 0
  else s

/-- LOG_COMMIT (R545): every 10 s the device commits its own records. -/
def execLogCommit (flashOk : Bool) (s : State) : Out :=
  if s.flt.coreUp && logWrites s && passed s s.log.lastCommit 10000000000 then .next (if flashOk then commitOwn s else logFails s)
  else .next s

/-! ## Compaction (R544) -/

/-- A record is live (R543); every committed record of the change log and of the error history is. -/
def isLive (s : State) (j : List LogRec) (r : LogRec) : Bool :=
  if r.type = tCommit then false
  else if r.type = tChange ∨ r.type = tError ∨ r.type = tChangeLost then committedRec j r
  else liveRec s r.type r.key == some r

/-- The blocks from the oldest that holds a live record to the head. -/
def spanBlocks (s : State) : Nat := (s.log.blocks.dropWhile (fun b => !b.recs.any (isLive s (journal s)))).length

/-- LOG_COMPACTION (R544): the records fill 75 % of the flash, or the journal spans 192 MiB. -/
def execLogCompaction (s : State) : Out :=
  if logWrites s && s.log.compact.isNone && (decide (3 * s.log.size ≤ 4 * s.log.blocks.length) || decide (3072 ≤ spanBlocks s)) then
    .next (setB { s with log := { s.log with compact := some (elapsedNs s) } } F.LOG_STATUS_COMPACTING 0 true)
  else .next s

/-- The newest `n` records of a TYPE among the live ones are kept. -/
def keepNewest (type n : Nat) (l : List LogRec) : List LogRec :=
  let d := (l.filter (fun r => r.type == type)).length - n
  (l.foldl (fun (a : List LogRec × Nat) r =>
    if r.type = type ∧ 0 < a.2 then (a.1, a.2 - 1) else (a.1 ++ [r], a.2)) ([], d)).1

/-- The records that compaction copies: the live ones, of the newest two firmware sets, and of the newest entries of the change
log and of the error history. -/
def compacted (s : State) : List LogRec :=
  let j := journal s
  let l := j.filter (isLive s j)
  let a := newestRec (l.filter (fun r => r.type == tManifest))
  let b := newestRec (l.filter (fun r => r.type == tManifest && some r.key != a.map (·.key)))
  let sets := (a.toList ++ b.toList).map (·.key)
  let l := l.filter (fun r => (r.type != tManifest || sets.contains r.key) && (r.type != tChunk || sets.contains (r.key / 128)))
  keepNewest tError 65536 (keepNewest tChange 262144 l)

/-- The next block of the ring is opened. -/
def openBlock (s : State) : State :=
  let i := match s.log.blocks.getLast? with
    | some b => (b.index + 1) % (max s.log.size 1)
    | none => 0
  { s with log := { s.log with blocks := s.log.blocks ++ [⟨i, s.log.gen + 1, s.log.seq, []⟩], gen := s.log.gen + 1 } }

/-- LOG_COMPACTION_END (R544): live records copied to the head, a COMMIT for each group, the emptied blocks erased. Records of
the service group are copied once they are committed (R548). -/
def execLogCompactionEnd (s : State) : Out :=
  if s.log.compact.isSome && logWrites s && (pendingOf s 1).isEmpty then
    let s := commitOwn s
    let keep := compacted s
    let old := s.log.gen
    let s := keep.foldl (fun s r => logAppend s r.type r.flags r.key r.body) (openBlock s)
    let s := logCommit (logCommit s 0 false) 1 false
    let s := { s with log := { s.log with blocks := s.log.blocks.filter (fun b => decide (old < b.gen)), compact := none } }
    .next (record (postFill (setB s F.LOG_STATUS_COMPACTING 0 false)) C.LOG_COMPACTED 0)
  else .next s

/-! ## The change log and COLD_NEXT (R455, R547) -/

/-- The buffered changes are written as CHANGE records; changes dropped are counted in a CHANGE_LOST record. -/
def flushChanges (s : State) : State :=
  if logWrites s then
    let s := s.log.changes.foldl (fun s c => logAppend s tChange 0 0 (changeBytes c)) s
    let s := { s with log := { s.log with changes := [] } }
    if s.log.lost = 0 then s
    else
      let s := logAppend s tChangeLost 0 0 (leBytes s.log.lost 8)
      recordWith { s with log := { s.log with lost := 0 } } C.CHANGE_LOST 0 [s.log.lost]
  else s

/-- CHANGE_FLUSH (R547, R546). -/
def execChangeFlush (flashOk : Bool) (s : State) : Out :=
  if s.flt.coreUp && !s.log.changes.isEmpty then .next (if flashOk then flushChanges s else logFails s) else .next s

/-- A write of COLD_NEXT: kept in the logbook. -/
def writeColdNext (s : State) (v : Nat) : State :=
  let s := setB s F.BOOT_CTL_COLD_NEXT 0 (bit v 0)
  if bit v 0 ∨ (lastRec s tBoot 0).isSome then logKeep s tBoot 0 (leBytes (bit v 0).toNat 8) else s

/-- COLD_NEXT_WRITE (R455). -/
def execColdNextWrite (value : W32) (_origin : Nat) (s : State) : Out := .next (writeColdNext s value.toNat)

end Sys2Proof.Machine
end

