-- ==== Sys2Proof/Machine/LaneEv.lean ====
section
/-!
DEFINITION. The events of the lane unit (06): tasks, returns, watchdogs and ownership, the parity of its registers (R186),
and the debug halt (R178 to R181).
-/
namespace Sys2Proof.Machine

/-- TASK_RESIDENT (R145, R146). -/
def execTaskResident (tile : Nat) (s : State) : Out := .next (taskResident s tile)

/-- TASK_END (R147). -/
def execTaskEnd (tile task : Nat) (s : State) : Out := .next (taskEnd s tile task)

/-- GLOBAL_LOAD_RETURN (R148, R157). -/
def execGlobalLoadReturn (tile slot : Nat) (s : State) : Out := .next (loadReturn s tile slot)

/-- GLOBAL_STORE_ACCEPTED (R147, R158). -/
def execGlobalStoreAccepted (tile slot : Nat) (s : State) : Out := .next (storeAccepted s tile slot)

/-- LOCK_STALL (R165). -/
def execLockStall (tile slot : Nat) (s : State) : Out := .next (lockStall s tile slot)

/-- BARRIER_TIMEOUT (R169). -/
def execBarrierTimeout (tile slot : Nat) (s : State) : Out := .next (barrierTimeout s tile slot)

/-- NAMED_BARRIER_COMPLETE (R171). -/
def execNamedBarrierComplete (id : Nat) (s : State) : Out := .next (namedDone s id)

/-- ARRAY_OWNERSHIP_GRANT (R172). -/
def execArrayOwnershipGrant (tile : Nat) (s : State) : Out := .next (ownershipGrant s tile)

/-- LREG_PARITY (R186): the group faults; the third on a tile within 1 s records LANE_REPEAT and shutters the tile. -/
def execLregParity (tile slot lane : Nat) (s : State) : Out :=
  match getGroup s tile slot with
  | none => .next s
  | some g =>
    let s := groupFault s tile slot C.LREG_PARITY lane
    let l := getLane s tile
    let pc := g.pc
    let recent := (elapsedNs s :: l.parity).filter (fun x => decide (elapsedNs s < x + 1000000000))
    if recent.length < 3 then .next (setLane s tile { l with parity := recent })
    else
      let s := captureLane (setLane s tile { l with parity := [] }) tile slot lane pc C.LANE_REPEAT
      .next (shutterLogical (record s C.LANE_REPEAT tile) tile)

/-! ## Debug halt and step (R178 to R181) -/

/-- The device is entering or in a debug halt: the tile and slot of its halted group. -/
def haltedAt (s : State) : Option (Nat × Nat) :=
  match s.lane.tiles.find? (fun e => e.2.haltSlot.isSome) with
  | some e => e.2.haltSlot.map (fun i => (e.1, i))
  | none => none

/-- The debug halt begins; gating counts its length (R179, R467). -/
def enterHalt (s : State) : State :=
  { s with eph := { s.eph with debugHalt := true }, pwr := { s.pwr with holdStart := some (elapsedNs s) } }

/-- HALT (R178, R179): the group stops before its next instruction; outside a segment the debug halt is entered at once.
A second group is not halted. -/
def dbgHalt (s : State) (t slot origin : Nat) : State :=
  match getGroup s t slot with
  | none => s
  | some g =>
    match haltedAt s with
    | some h => if h = (t, slot) then s else record s C.KEY_REFUSED t origin
    | none =>
      let s := setLane (putGroup s t slot (some { g with halted := true })) t
        { getLane (putGroup s t slot (some { g with halted := true })) t with haltSlot := some slot }
      if s.eph.inSegment then s else enterHalt s

/-- One decoded instruction of a group alone in its cycle; one that must be held stays, and none is a reserved word (R180, R184). -/
def stepInstr (s : State) (t slot : Nat) (g : Group) : Option Instr → State
  | none => illegal (incF s F.LANE_ISSUE_COUNT t 1) t slot
  | some i =>
    match instrHold i s g with
    | some s' => s'
    | none => laneBody i (incF s F.LANE_ISSUE_COUNT t 1) g

/-- One instruction of a group by the debugger (R180). -/
def stepOne (s : State) (t slot : Nat) (g : Group) : State := stepInstr s t slot g (decodeLane t slot (fetchLane s t g.pc))

/-- STEP (R180): one instruction of the halted group. A group that waits at a barrier or for a lock's or the arrays' release
stays at its instruction. -/
def dbgStep (s : State) (t slot : Nat) : State :=
  match getGroup s t slot with
  | none => s
  | some g =>
    if g.halted && s.eph.debugHalt && g.wait == .none then
      let s := stepOne s t slot g
      setB s F.DBG_STATE_STEP_BUSY t (match getGroup s t slot with
        | some h => h.wait == .globalLoad || h.wait == .release || h.wait == .fullRelease
        | none => false)
    else s

/-- RESUME (R180): the group runs on; the debug halt clears at the end of the next dome cycle, which is still held. -/
def dbgResume (s : State) (t slot : Nat) : State :=
  match getGroup s t slot with
  | none => s
  | some g =>
    if g.halted then
      let s := putGroup s t slot (some { g with halted := false })
      let s := setLane s t { getLane s t with haltSlot := none }
      { s with eph := { s.eph with haltLeaving := s.eph.debugHalt } }
    else s

/-- A write to DBG_CTL (R178): it acts under its KEY in Bench, and any other write is ignored with an INFO event. -/
def writeDbgCtl (s : State) (t v origin : Nat) : State :=
  if bits v 16 16 = 0x0B5E ∧ inBench s = true then
    let s := if bit v 5 then dbgHalt s t (bits v 0 5) origin else s
    let s := if bit v 6 then dbgStep s t (bits v 0 5) else s
    if bit v 7 then dbgResume s t (bits v 0 5) else s
  else record s C.KEY_REFUSED t origin

/-- DBG_CTL.HALT (R178, R179). -/
def execDbgCtlHalt (tile : Nat) (value : W32) (origin : Nat) (s : State) : Out := .next (writeDbgCtl s tile value.toNat origin)

/-- DBG_CTL.STEP (R178, R180). -/
def execDbgCtlStep (tile : Nat) (value : W32) (origin : Nat) (s : State) : Out := .next (writeDbgCtl s tile value.toNat origin)

/-- DBG_CTL.RESUME (R178, R180). -/
def execDbgCtlResume (tile : Nat) (value : W32) (origin : Nat) (s : State) : Out := .next (writeDbgCtl s tile value.toNat origin)

/-- DEBUG_HALT_ENTER (R179): the tile of the halted group would issue a bundle, or no segment runs. -/
def execDebugHaltEnter (s : State) : Out :=
  match haltedAt s with
  | none => .next s
  | some h =>
    let due := match (getEph s h.1).queue with
      | f :: _ => isDue s (getEph s h.1) f
      | [] => false
    if !s.eph.debugHalt && (due || !s.eph.inSegment) then .next (enterHalt s) else .next s

/-- The register that DBG_SEL names takes a value (R181): a lane of a vector register, or half of a scalar register. The value
written carries no poison (assumption 42). -/
def dbgPut (g : Group) (file reg lane v : Nat) : Group :=
  match file with
  | 0 => vPut g reg lane ⟨BitVec.ofNat 32 v, false⟩
  | 1 => sPut g (reg % 32) ⟨BitVec.ofNat 64 ((sGet g (reg % 32)).v.toNat / 2 ^ 32 * 2 ^ 32 + v), false⟩
  | 2 => sPut g (reg % 32) ⟨BitVec.ofNat 64 ((sGet g (reg % 32)).v.toNat % 2 ^ 32 + v * 2 ^ 32), false⟩
  | _ => g

/-- The address of DBG_DATA of a tile. -/
def dbgDataAddr (t : Nat) : Nat := regBase + 0x10000000 + 0x100000 * t + 0x5054

/-- A write to DBG_DATA (R181): ignored while no group of the tile is halted, and for FILE 3; each write is recorded in the
change log with origin debugger, that of the value held too. -/
def writeDbgData (s : State) (t v : Nat) : State :=
  match haltedGroup s t, (getLane s t).haltSlot with
  | some g, some i =>
    let file := getF s F.DBG_SEL_FILE t
    if file = 3 then s
    else
      let s' := putGroup s t i (some (dbgPut g file (getF s F.DBG_SEL_REG t) (getF s F.DBG_SEL_LANE t) v))
      putChange s' 3 0 (dbgDataAddr t) (dbgValue s t).1 v
  | _, _ => s

/-- DBG_DATA write (R181). -/
def execDbgDataWrite (tile : Nat) (value : W32) (_origin : Nat) (s : State) : Out := .next (writeDbgData s tile value.toNat)

end Sys2Proof.Machine
end

