-- ==== Sys2Proof/Machine/Bus.lean ====
section
/-!
DEFINITION. The register bus (00, R5 to R7): a write reaches the register at its address, with the effect of that register's own
rule where it has one; the commands that write and read registers.
-/
namespace Sys2Proof.Machine

/-- The RWS fields of a register differ between two states. -/
def rwsChanged (s t : State) (r : RegAt) : Bool :=
  r.reg.parts.any (fun p => p.acc == .rws && getF s p.fld r.unit != getF t p.fld r.unit)

/-- An RW field that the write leaves at a value that is read as another (R575). -/
def rwReplaced (s t : State) (r : RegAt) : Bool :=
  [F.LAMP_PAT_SEED, F.LAMP_MIX_RD_GROUP, F.LAMP_MIX_WR_GROUP].any (fun f =>
    r.reg.parts.any (fun p => p.fld.id == f.id) && getF t f r.unit == 0 && getF s f r.unit != 0)

/-- A write by the access codes, with the change log (R547) and VALUE_REPLACED (R575). -/
def plainWrite (s : State) (a : Nat) (r : RegAt) (v origin : Nat) : State :=
  let t := writeFields s r v origin
  let t := if rwsChanged s t r || origin = 3 then noteChange t origin 0 a (wordNow s r) (wordNow t r) else t
  if rwReplaced s t r then record t C.VALUE_REPLACED r.owner origin else t

/-- The register at hand is the one that holds a field. -/
def holds (r : RegAt) (f : Field) : Bool := r.reg.parts.any (fun p => p.fld.id == f.id)

/-- A minimum-voltage recorder is re-armed by a 1 in VALID (R476). -/
def rearmMin (s : State) (r : RegAt) (v : Nat) : State :=
  if bit v 10 then
    if holds r F.TRIM_MIN_VALID then
      let s := setB (setF s F.TRIM_MIN_MIN r.unit 0x3FF) F.TRIM_MIN_VALID r.unit false
      let p := physOf s r.unit
      setTileP s p { getTileP s p with seenMin := 0x3FF }
    else setB (setF s F.PWR_RAIL_MIN_MIN r.unit 0x3FF) F.PWR_RAIL_MIN_VALID r.unit false
  else s

/-- The register is a minimum-voltage recorder. -/
def isMin (r : RegAt) : Bool := holds r F.TRIM_MIN_VALID || holds r F.PWR_RAIL_MIN_VALID

/-- A write over the register bus (R5, R7): to a register with an effect of its own, or by the access codes. DESIGN CHOICE
(assumption 75): a write to an address that holds no register is ignored; the spec says nothing of it. -/
def busWrite (s : State) (a v origin : Nat) : State :=
  match regAt a with
  | none => s
  | some r =>
    if holds r F.TWR_RESET_KEY then writeTwrReset s r.owner v origin
    else if holds r F.DBG_CTL_KEY then writeDbgCtl s r.owner v origin
    else if holds r F.DBG_DATA_DATA then writeDbgData s r.owner v
    else if holds r F.CHK_CTL_KEY then writeChk s v origin
    else if holds r F.LAMP_CTL_KEY then writeLamp s r.owner v origin
    else if holds r F.FLT_CTL_ERRN_HOLD then writeErrnHold s v
    else if holds r F.FLT_WDOG_KEY then feedWatchdog s v
    else if holds r F.BOOT_CTL_COLD_NEXT then writeColdNext s v
    else if isMin r then rearmMin s r v
    else plainWrite s a r v origin

/-- REGISTER_WRITE (R7). -/
def execRegisterWrite (addr : Nat) (value : W32) (origin : Nat) (s : State) : Out := .next (busWrite s addr value.toNat origin)

/-- PAIR_LO_READ (R6): a read of the _LO half of an RO pair latches the _HI half. -/
def execPairLoRead (addr : Nat) (s : State) : Out :=
  match regAt addr with
  | some r =>
    if r.reg.pair = .lo then
      let x := readReg s addr
      .next { x.1 with sys := { x.1.sys with busRead := BitVec.ofNat 32 x.2 } }
    else .next s
  | none => .next s

/-- CAPTURE_REARM (R511): 1 written to the VALID bit of a capture. -/
def execCaptureRearm (addr : Nat) (value : W32) (s : State) : Out :=
  match regAt addr with
  | some r =>
    if !isMin r && r.reg.parts.any (fun p => p.acc == .w1c) then .next (busWrite s addr value.toNat 1) else .next s
  | none => .next s

/-- MIN_RECORDER_REARM (R476). -/
def execMinRecorderRearm (addr : Nat) (value : W32) (s : State) : Out :=
  match regAt addr with
  | some r => if isMin r then .next (busWrite s addr value.toNat 1) else .next s
  | none => .next s

end Sys2Proof.Machine
end

