-- ==== Sys2Proof/Machine/Pins.lean ====
section
/-!
DEFINITION. Pins (20): the service button, the lights and the test access port (R567 to R570), and the graceful drain (R370).
-/
namespace Sys2Proof.Machine

/-! ## The service button (R567, R573) -/

/-- A graceful drain (R370): a device in HOLD, STARTING or with no job goes to Parked at once; else REMAINS is cleared, and the
device goes to Parked once its frame is sent. -/
def drain (s : State) : State :=
  let s := clearRemains s
  if phase s = 0 ∨ phase s = 6 ∨ phase s = 7 then enterParked s else s

/-- The button is watched: VAON is present and RESET_N is high. -/
def buttonLive (s : State) : Bool := s.boot.place != .off && s.boot.resetLow.isNone

/-- SVC_BTN_SHORT_PRESS (R567, R569): a press released within 5 s toggles locate. -/
def execSvcBtnShortPress (s : State) : Out :=
  if buttonLive s then .next (setB s F.LED_CTL_LOCATE 0 (!getB s F.LED_CTL_LOCATE 0)) else .next s

/-- The long press requests a drain. -/
def askDrain (s : State) : State := drain (setB s F.PIN_STATUS_DRAIN_REQ 0 true)

/-- SVC_BTN_LONG_PRESS (R567, Table: Long press): under DEPART HALT a device in a job refuses by blinking. -/
def execSvcBtnLongPress (s : State) : Out :=
  if buttonLive s && s.boot.place = .up && !getB s F.PIN_STATUS_DRAIN_REQ 0 then
    if phase s = 0 then
      if devState s = 4 ∨ devState s = 6 ∨ devState s = 7 then .next (askDrain s) else .next s
    else if phase s = 6 then .next (askDrain s)
    else if getF s F.MER_POLICY_DEPART 0 = 6 then .next { s with pin := { s.pin with blink := some (elapsedNs s) } }
    else .next (askDrain s)
  else .next s

/-! ## Lights (R568) -/

/-- A light that blinks with a half period in ms is on (the phase runs from the start of the model's time). -/
def blinkOn (s : State) (half : Nat) : Bool := elapsedNs s / (half * 1000000) % 2 == 0

/-- The link light of a port. -/
def linkLight (s : State) (p : Nat) : Bool :=
  match getF s F.PRT_STATUS_STATE p with
  | 2 => true
  | 1 => blinkOn s 125
  | 3 => blinkOn s 500
  | _ => false

/-- Status green and status amber (Table: Light patterns). -/
def statusLights (s : State) : Bool × Bool :=
  match devState s with
  | 4 => (blinkOn s 1000, false)
  | 6 => (true, false)
  | 7 => (elapsedNs s % 4000000000 < 100000000, false)
  | 8 => (false, if s.thm.held then blinkOn s 250 else true)
  | _ => if s.boot.netboot then (blinkOn s 500, !blinkOn s 500) else (blinkOn s 500, false)

/-- The fault light: three blinks at 4 Hz after a refused drain, else ERR_N. -/
def faultLight (s : State) : Bool :=
  match s.pin.blink with
  | some t => if passed s t 750000000 then getB s F.FLT_STATUS_ERRN 0 else (elapsedNs s - t) / 125000000 % 2 == 0
  | none => getB s F.FLT_STATUS_ERRN 0

/-- The frame of 256 bits; in Dark only fault and locate light. -/
def ledBits (s : State) : Nat :=
  let up := s.boot.place == .up
  let one (i : Nat) (b : Bool) : Nat := if b then 2 ^ i else 0
  let links := (List.range 192).foldl (fun n p => n + one p (up && linkLight s p)) 0
  links + one 192 (up && linkLight s 255) + one 193 (up && (statusLights s).1) + one 194 (up && (statusLights s).2) +
    one 195 (faultLight s) + one 196 (getB s F.LED_CTL_LOCATE 0 && blinkOn s 250)

/-- LED_FRAME (R568): every 10 ms. -/
def execLedFrame (s : State) : Out :=
  if s.boot.place != .off && passed s s.pin.ledAt 10000000 then
    let b := ledBits s
    .next (emit { s with pin := { s.pin with led := b, ledAt := elapsedNs s } } (.led b))
  else .next s

/-! ## The test access port (R570) -/

/-- BYPASS: the one-bit register shifts. -/
def execBypass (tdi : Bool) (s : State) : Out :=
  .next (emit { s with pin := { s.pin with bypass := tdi } } (.tdo s.pin.bypass.toNat 1))

/-- IDCODE. -/
def execIdcode (s : State) : Out := .next (emit s (.tdo 0x1B0432A3 32))

/-- The boundary register captures the lands, is shifted out, and takes what is shifted in; its length is the board file's (0
stands for the whole register). -/
def sampleLands (s : State) (pins load : Nat) : State :=
  emit { s with pin := { s.pin with boundary := load } } (.tdo pins 0)

/-- SAMPLE_PRELOAD. -/
def execSamplePreload (pins load : Nat) (s : State) : Out := .next (sampleLands s pins load)

/-- EXTEST: controls the lands only while RESET_N is low; at any other time it acts as SAMPLE/PRELOAD. -/
def execExtest (pins load : Nat) (s : State) : Out :=
  let s := sampleLands s pins load
  if s.boot.resetLow.isSome then .next { s with pin := { s.pin with driven := some load } } else .next s

end Sys2Proof.Machine
end

