-- ==== Sys2Proof/Machine/Mcc.lean ====
section
/-!
DEFINITION. The control channel (14): frames and fragments, admission of a request, sessions, and identity (R421 to R431; 19,
R535 to R538).
-/
namespace Sys2Proof.Machine

/-! ## Status codes (Table: MCC status codes) -/

def stOk : Nat := 0x0000
def stAccepted : Nat := 0x0001
def stPending : Nat := 0x0002
def stBadOpcode : Nat := 0x0010
def stBadLength : Nat := 0x0011
def stBadParam : Nat := 0x0012
def stNoSession : Nat := 0x0020
def stGone : Nat := 0x0021
def stAuthFailed : Nat := 0x0022
def stStale : Nat := 0x0023
def stUnowned : Nat := 0x0024
def stWrongState : Nat := 0x0030
def stJobActive : Nat := 0x0031
def stNoJob : Nat := 0x0032
def stNotBench : Nat := 0x0033
def stParked : Nat := 0x0034
def stBusy : Nat := 0x0035
def stNotYet : Nat := 0x0040
def stResultGone : Nat := 0x0041
def stRefused : Nat := 0x0050
def stInternal : Nat := 0x00FF

/-- The state after a command's own effect, its status and its response payload. -/
abbrev Reply := State × Nat × List Byte

/-- A reply without payload. -/
def answer (s : State) (st : Nat) : Reply := (s, st, [])

/-! ## Frames (Table: MCC header) -/

/-- A response frame: one fragment of a payload. -/
def mccFrame (op session seq st idx : Nat) (last : Bool) (b : List Byte) : List Byte :=
  let h := leBytes 1 1 ++ leBytes op 1 ++ leBytes 1 1 ++ leBytes 0 1 ++ leBytes session 4 ++ leBytes seq 8 ++ leBytes b.length 4 ++
    leBytes st 2 ++ leBytes (idx + 32768 * last.toNat) 2
  h ++ leBytes (crc32c (h ++ b)) 4 ++ leBytes 0 4 ++ b

/-- A payload in fragments of 8,960 bytes (R422); the last argument bounds their number. -/
def mccFrames (op session seq st : Nat) (b : List Byte) (idx : Nat) : Nat → List (List Byte)
  | 0 => []
  | n + 1 =>
    if b.length ≤ 8960 then [mccFrame op session seq st idx true b]
    else mccFrame op session seq st idx false (b.take 8960) :: mccFrames op session seq st (b.drop 8960) (idx + 1) n

/-- A whole response. -/
def response (op session seq st : Nat) (b : List Byte) : List (List Byte) := mccFrames op session seq st b 0 16

/-- Frames leave on the host port. -/
def sendFrames (s : State) (fs : List (List Byte)) : State := fs.foldl (fun s f => emit s (.mcc f)) s

/-- A response that is not kept. -/
def reject (s : State) (op : Nat) (req : MccReq) (st : Nat) : State := sendFrames s (response op req.session req.seq st [])

/-! ## Opcodes (Table: MCC opcodes) -/

/-- The opcodes of the table. -/
def opcodes : List Nat :=
  [0x00, 0x01, 0x02, 0x03, 0x04, 0x08, 0x09, 0x20, 0x21, 0x22, 0x23, 0x24, 0x25, 0x26, 0x40, 0x41, 0x42, 0x43, 0x44, 0x45, 0x46, 0x47,
   0x60, 0x61, 0x62, 0x68, 0x69, 0x80, 0x81, 0x82, 0x83, 0xA0, 0xA1, 0xA2, 0xA3, 0xA4, 0xA5, 0xA6, 0xC0, 0xC1, 0xC2, 0xC3, 0xC4, 0xC5, 0xC6]

/-- The opcodes that the table marks for Parked. -/
def parkedOps : List Nat := [0x00, 0x01, 0x02, 0x03, 0x04, 0x08, 0x09, 0x24, 0x43, 0x68, 0x69, 0x80, 0x83, 0xC6]

/-- The opcodes that are accepted only in Bench (R430). -/
def benchOps : List Nat := [0xA0, 0xA1, 0xA2, 0xA3, 0xA4, 0xA5, 0xA6]

/-- The opcodes that netboot answers with SESSION 0 (R532). -/
def netbootOps : List Nat := [0x00, 0x04, 0x09, 0x81, 0x82]

/-- A provisioning session accepts FW_RECORD carrying an OWNER record, FW_COMMIT and the opcodes marked for Parked (R535). -/
def provisionOk (op : Nat) (req : MccReq) : Bool :=
  parkedOps.contains op || op == 0x82 || (op == 0x81 && fld req.payload 0 2 == tOwner)

/-! ## Admission (R426, R427, R429 to R431) -/

/-- The status is that of a request of which nothing was executed (R429). -/
def notExecuted (st : Nat) : Bool := st == stBadOpcode || st == stBadLength || st == stBadParam

/-- A request outside a session is executed and answered. -/
def runBare (s : State) (op : Nat) (req : MccReq) (f : State → Reply) : State :=
  let r := f s
  let t := if notExecuted r.2.1 then r.1 else incF r.1 F.MCC_CMDS_COUNT 0 1
  sendFrames t (response op req.session req.seq r.2.1 r.2.2)

/-- A request of the session is executed and answered, and its response kept among the last 64 (R427). -/
def runKept (s : State) (op : Nat) (req : MccReq) (f : State → Reply) : State :=
  let r := f s
  let fs := response op req.session req.seq r.2.1 r.2.2
  let t := r.1
  let t :=
    if notExecuted r.2.1 then t
    else
      let t := incF t F.MCC_CMDS_COUNT 0 1
      match t.mcc.session with
      | some x =>
        if x.id = req.session then
          { t with mcc := { t.mcc with session := some { x with top := some req.seq, kept := (⟨req.seq, fs⟩ :: x.kept).take 64 } } }
        else t
      | none => t
  sendFrames t fs

/-- What a request of the session may do before its own effect: PARKED, NOT_BENCH, UNOWNED (R430, R431, R535). -/
def turnedAway (s : State) (x : Session) (op : Nat) (req : MccReq) : Option Nat :=
  if devState s = 8 ∧ !parkedOps.contains op then some stParked
  else if benchOps.contains op ∧ !inBench s then some stNotBench
  else if x.provisioning ∧ !provisionOk op req then some stUnowned
  else none

/-- A request of the current session: a repeat gets the kept response, a stale one STALE (R427). -/
def inSession (s : State) (x : Session) (op : Nat) (req : MccReq) (f : State → Reply) : State :=
  match x.kept.find? (fun k => k.seq == req.seq) with
  | some k => sendFrames (incF s F.MCC_DUP_COUNT 0 1) k.frames
  | none =>
    if (match x.top with | some t => decide (req.seq ≤ t) | none => false) then reject (incF s F.MCC_STALE_COUNT 0 1) op req stStale
    else match turnedAway s x op req with
      | some st => runKept s op req (answer · st)
      | none => runKept s op req f

/-- A request is admitted, executed and answered. The stopped management core answers nothing (R10). -/
def admitReq (s : State) (op : Nat) (req : MccReq) (f : State → Reply) : State :=
  if !s.flt.coreUp then s
  else if s.boot.netboot then
    if netbootOps.contains op ∧ req.session = 0 then runBare s op req f else reject s op req stParked
  else if op ≤ 2 then runBare s op req f
  else match s.mcc.session with
    | some x =>
      if x.id = req.session then inSession s x op req f
      else reject s op req (if s.mcc.endedIds.contains req.session then stGone else stNoSession)
    | none => reject s op req (if s.mcc.endedIds.contains req.session then stGone else stNoSession)

/-- An opcode's command: it takes its request from those that have arrived. -/
def serve (op : Nat) (req : MccReq) (s : State) (f : State → Reply) : Out :=
  if s.mcc.inbox.contains (op, req) then
    .next (admitReq { s with mcc := { s.mcc with inbox := s.mcc.inbox.erase (op, req) } } op req f)
  else .next s

/-- A payload of a fixed length, else BAD_LENGTH. -/
def sized (n : Nat) (p : List Byte) (s : State) (f : State → Reply) : Reply :=
  if p.length = n then f s else answer s stBadLength

/-! ## MCC_FRAME (R421 to R423) -/

/-- A datagram dropped. -/
def dropFrame (s : State) : State := incF s F.MCC_DROP_COUNT 0 1

/-- The form of the header and the CRC (R421). -/
def frameOk (d : List Byte) : Bool :=
  decide (32 ≤ d.length) && fld d 0 1 == 1 && fld d 16 4 == d.length - 32 && decide (d.length - 32 ≤ 8960) &&
    fld d 24 4 == crc32c (d.take 24 ++ d.drop 32)

/-- A frame inside the protected link that names the session set up last: MKA has secured the port under its keys, and the
previous session ends (R424 to R426). -/
def secureFresh (s : State) (session : Nat) : State :=
  match s.mcc.fresh with
  | some x =>
    if x.id = session then
      let s := dropSession s
      let s := setB (setB (setF s F.MCC_SESSION_ID 0 x.id) F.MCC_STATUS_SECURED 0 true) F.MCC_STATUS_SESSION 0 true
      { s with mcc := { s.mcc with session := some x, fresh := none } }
    else s
  | none => s

/-- The port takes the frame (R423, R532). -/
def frameTaken (s : State) (secured : Bool) (op : Nat) : Bool :=
  if s.boot.netboot then !secured
  else if s.mcc.session.isSome then secured
  else secured && s.mcc.fresh.isSome || !secured && decide (op ≤ 2)

/-- A whole request has arrived; an opcode outside the table is answered at once (R429). -/
def takeRequest (s : State) (op : Nat) (req : MccReq) : State :=
  if opcodes.contains op then { s with mcc := { s.mcc with inbox := s.mcc.inbox ++ [(op, req)] } }
  else admitReq s op req (answer · stBadOpcode)

/-- The fragments of a request are all here. -/
def fragsWhole (f : Frags) : Bool :=
  match f.last with
  | some n => (List.range (n + 1)).all (fun i => f.parts.any (fun e => e.1 == i))
  | none => false

/-- The payload of a complete request. -/
def fragsBytes (f : Frags) : List Byte := (List.range (f.last.getD 0 + 1)).flatMap (fun i => mget f.parts i [])

/-- A fragment joins its request (R422). -/
def takeFragment (s : State) (op session seq idx : Nat) (last : Bool) (b : List Byte) : State :=
  let mine (f : Frags) : Bool := f.opcode == op && f.session == session && f.seq == seq
  let old := (s.mcc.frags.filter (fun f => !passed s f.start 100000000)).find? mine
  let f := old.getD ⟨op, session, seq, elapsedNs s, [], none⟩
  let f := { f with parts := mput natLt f.parts idx b [], last := if last then some idx else f.last }
  let f := if b.isEmpty then { f with parts := minsert natLt (merase f.parts idx) idx b } else f
  let rest := s.mcc.frags.filter (fun x => !mine x)
  if fragsWhole f then takeRequest { s with mcc := { s.mcc with frags := rest } } op ⟨session, seq, fragsBytes f⟩
  else { s with mcc := { s.mcc with frags := rest ++ [f] } }

/-- MCC_FRAME (R421 to R423): a datagram on the host port. -/
def execMccFrame (secured : Bool) (data : List Byte) (s : State) : Out :=
  if s.boot.place = .up ∧ s.flt.coreUp ∧ portUp s 255 then
    if !frameOk data then .next (dropFrame s)
    else
      let op := fld data 1 1
      let session := fld data 4 4
      if !frameTaken s secured op then .next (dropFrame s)
      else if bit (fld data 2 1) 0 ∨ 16 ≤ fld data 22 2 % 32768 then .next s
      else
        let s := if secured then secureFresh s session else s
        .next (takeFragment s op session (fld data 8 8) (fld data 22 2 % 32768) (bit (fld data 22 2) 15) (data.drop 32))
  else .next s

/-- MCC_FRAGMENT_TIMEOUT (R422). -/
def execMccFragmentTimeout (s : State) : Out :=
  .next { s with mcc := { s.mcc with frags := s.mcc.frags.filter (fun f => !passed s f.start 100000000) } }

/-- SESSION_MKA_TIMEOUT (R425). -/
def execSessionMkaTimeout (s : State) : Out :=
  match s.mcc.fresh with
  | some x =>
    if passed s x.authAt 2000000000 then
      .next (setB { s with mcc := { s.mcc with fresh := none } } F.MCC_STATUS_SESSION 0 s.mcc.session.isSome)
    else .next s
  | none => .next s

/-! ## Session setup (R424, R535) -/

/-- Bytes drawn from a free value. -/
def freeBytes (s : State) (n : Nat) : List Byte := leBytes (Config.freeNat s.sys.free) n

/-- A certificate chain: the body of its CERT record, empty where it is missing (R537). -/
def chainOf (s : State) (key : Nat) : List Byte :=
  match liveRec s tCert key with
  | some r => r.body
  | none => []

/-- The response of HELLO: part, stepping, digest of the fuse map, nonce, and the chains with their lengths. -/
def helloBody (s : State) : List Byte :=
  let a := chainOf s 0
  let b := chainOf s 1
  leBytes (getF s F.GLB_PART_PART 0) 4 ++ leBytes (getF s F.GLB_STEPPING_STEPPING 0) 4 ++ fuseDigest s ++ freeBytes s 32 ++
    leBytes a.length 4 ++ leBytes b.length 4 ++ a ++ b

/-- HELLO (R424, R425, R537): a setup that MKA has not completed is discarded. -/
def execHello (req : MccReq) (s : State) : Out :=
  serve 0x00 req s (fun s => sized 0 req.payload s (fun s =>
    let b := helloBody s
    let s := [0, 1].foldl (fun s k => if (liveRec s tCert k).isNone then record s C.CERT_MISSING 0 else s) (takeFree s)
    let s := setB s F.MCC_STATUS_SESSION 0 s.mcc.session.isSome
    ({ s with mcc := { s.mcc with setup := some ⟨b, none⟩, fresh := none } }, stOk, b)))

/-- A list of bytes cut or filled with zeros to a length. -/
def fitBytes (n : Nat) (b : List Byte) : List Byte := (b ++ List.replicate n 0).take n

/-- The signature of an identity key. -/
def identitySig (s : State) (alg : Nat) (msg : List Byte) : List Byte :=
  fitBytes (if alg = 1 then 384 else 16224) (Config.identitySign alg s.log.fuses.idSeed msg)

/-- KEX (R424): the ciphertext of the encapsulation, and both signatures over T. -/
def execKex (req : MccReq) (s : State) : Out :=
  serve 0x01 req s (fun s => sized 1216 req.payload s (fun s =>
    match s.mcc.setup with
    | none => answer s stNoSession
    | some x =>
      let e := Config.encapsulate s.sys.free (req.payload.drop 32)
      let ct := fitBytes 1088 e.1
      let t := sha384 (x.hello ++ req.payload ++ ct)
      let s := takeFree s
      ({ s with mcc := { s.mcc with setup := some { x with kex := some (t, e.2) } } }, stOk, ct ++ identitySig s 1 t ++ identitySig s 2 t)))

/-- A new nonzero SESSION, which no session has had. -/
def newSessionId (s : State) : Nat :=
  let used := s.mcc.endedIds ++ s.mcc.session.toList.map (·.id) ++ s.mcc.fresh.toList.map (·.id)
  let x := Config.freeNat s.sys.free
  let ids := (List.range (used.length + 1)).map (fun k => (x + k) % 4294967295 + 1)
  (ids.find? (fun i => !used.contains i)).getD 1

/-- Controller authentication is required and a key is enrolled; POLICY_LOCK without an OWNER record enrols none (R535). -/
def authNeeded (s : State) : Bool := policyBit s 1 && (ownerBody s).isSome

/-- The AUTH payload carries a valid signature of each ALG by controller keys over T (R535). -/
def authOk (s : State) (p t : List Byte) : Bool :=
  zr p 1 7 && (match sigAll (p.drop 8) 16 with
    | some es => es.length == fld p 0 1 && signedBy (enrolled s 1) es 1 t && signedBy (enrolled s 1) es 2 t
    | none => false)

/-- AUTH (R424, R535). -/
def execAuth (req : MccReq) (s : State) : Out :=
  serve 0x02 req s (fun s =>
    match s.mcc.setup.bind (·.kex) with
    | none => answer s stNoSession
    | some (t, secret) =>
      if authNeeded s && !authOk s req.payload t then
        answer (record (incF s F.MCC_AUTHFAIL_COUNT 0 1) C.AUTH_REJECTED 0) stAuthFailed
      else
        let id := newSessionId s
        let x : Session := ⟨id, s.log.fuses.policyLock && (ownerBody s).isNone, Config.sessionKeys secret t, elapsedNs s, none, []⟩
        let s := setB (takeFree s) F.MCC_STATUS_SESSION 0 true
        ({ s with mcc := { s.mcc with setup := none, fresh := some x } }, stOk, leBytes id 4))

/-- CLOSE (R426). -/
def execClose (req : MccReq) (s : State) : Out :=
  serve 0x03 req s (fun s => sized 0 req.payload s (fun s => answer (dropSession s) stOk))

/-- PING (R429). -/
def execPing (req : MccReq) (s : State) : Out :=
  serve 0x04 req s (fun s => sized 0 req.payload s (fun s => (s, stOk, leBytes (nowNs s) 8)))

/-! ## Identity and attestation (R2, R538) -/

/-- Registers read one after another, each through the register bus. -/
def readRegs (s : State) (as : List Nat) : State × List Byte :=
  as.foldl (fun r a => let x := readReg r.1 a; (x.1, r.2 ++ leBytes x.2 4)) (s, [])

/-- `n` registers from an address. -/
def regRun (a n : Nat) : List Nat := (List.range n).map (fun i => a + 4 * i)

/-- A signature entry of an identity key (Table: Signature section). -/
def identityEntry (s : State) (alg : Nat) (msg : List Byte) : List Byte :=
  let sig := identitySig s alg msg
  leBytes alg 1 ++ List.replicate 7 0 ++ sha384 (Config.identityKey alg s.log.fuses.idSeed) ++ leBytes sig.length 4 ++
    List.replicate 4 0 ++ sig

/-- A digest of 48 bytes, or zeros. -/
def digestOr (b : Option (List Byte)) : List Byte := fitBytes 48 (b.getD [])

/-- Bytes 0 to 271 of the attestation report. -/
def attestHead (s : State) (nonce : List Byte) : List Byte :=
  let modes := (getB s F.GLB_MODES_SUSTAIN 0).toNat + 2 * (getB s F.GLB_MODES_RELAXED 0).toNat + 4 * (getB s F.GLB_MODES_STAGGER 0).toNat +
    8 * (getB s F.GLB_MODES_BENCH 0).toNat
  let policy := (policyBit s 0).toNat + 2 * (policyBit s 1).toNat + 4 * s.log.fuses.policyLock.toNat
  let svn := match s.log.running with
    | some x => x.svn
    | none => 0
  leBytes 1 2 ++ leBytes (devState s) 1 ++ leBytes modes 1 ++ leBytes 0x432 4 ++ leBytes 0xB0 1 ++ leBytes s.log.fuses.rollback 1 ++
    leBytes svn 1 ++ leBytes policy 1 ++ leBytes 0 4 ++ nonce ++ leBytes (nowNs s) 8 ++ fuseDigest s ++
    digestOr (s.log.running.map (·.digest)) ++ digestOr (if getB s F.IMG_STATUS_ACTIVE 0 then some s.act.digest else none) ++
    leBytes (getF s F.IMG_ACTIVE_ID_ID 0) 4 ++ leBytes 0 4 ++ leBytes (stepNow s) 8 ++ digestOr ((ownerBody s).map sha384) ++
    leBytes 2 1 ++ List.replicate 7 0

/-- ATTEST (R538). -/
def execAttest (req : MccReq) (s : State) : Out :=
  serve 0x08 req s (fun s => sized 32 req.payload s (fun s =>
    let h := attestHead s req.payload
    let d := sha384 h
    (s, stOk, h ++ identityEntry s 1 d ++ identityEntry s 2 d)))

/-- IDENTITY (R2): GLB_PART to GLB_FW_VERSION, then DEV_STATE. -/
def execIdentity (req : MccReq) (s : State) : Out :=
  serve 0x09 req s (fun s => sized 0 req.payload s (fun s =>
    let r := readRegs s (regRun regBase 6 ++ [regBase + 0x7000])
    (r.1, stOk, r.2)))

end Sys2Proof.Machine
end

