-- ==== Sys2Proof/Machine/MccImg.lean ====
section
/-!
DEFINITION. The image, bulk and firmware commands of the control channel (14; 13, R407 to R411; 19, R529 to R535).
-/
namespace Sys2Proof.Machine

/-! ## The staged image (R407 to R410) -/

/-- What an image command may answer besides its status: a refusal with its code and offset. -/
def refusal (code off : Nat) : List Byte := leBytes code 4 ++ leBytes off 8

/-- LOADING starts: nothing is staged yet. -/
def startLoading (s : State) (id : Nat) : State :=
  let s := dropStaged s
  let s := setF s F.IMG_STATUS_STATE 0 1
  { s with act := { s.act with staged := none, granules := [], stagedId := id, stagedBase := stageBase s } }

/-- KIND and APPLY_STEP of the staged image, as its header reads (R409, R420). -/
def noteHeader (s : State) : State :=
  let h := stgBytes s 0 128
  let s := setF s F.IMG_STATUS_KIND 0 (if hKind h = 1 then 1 else 0)
  setF s F.IMG_APPLY_STEP 0 (if hKind h = 1 then fld h 56 8 else 0)

/-- The bytes of a part in their place; the granules that they touch count as written. -/
def placePart (s : State) (off : Nat) (d : List Byte) : State :=
  let gs := (List.range (ceilDiv (off % 4096 + d.length) 4096)).map (fun k => off / 4096 + k)
  let s := writeBytes s (s.act.stagedBase + off) d []
  let s := { s with act := { s.act with granules := (s.act.granules ++ gs.filter (fun g => !s.act.granules.contains g)) } }
  if off < 128 then noteHeader s else s

/-- A part of the staged image (R407, R408): its offset, its IMAGE_ID and its bytes. -/
def imgPart (s : State) (off id : Nat) (d : List Byte) : Reply :=
  let st := getF s F.IMG_STATUS_STATE 0
  if st = 2 ∨ st = 3 ∨ st = 4 then answer s stWrongState
  else
    let fresh := st == 0 || (off == 0 && id != s.act.stagedId)
    let t := if fresh then startLoading s id else s
    let len := fld d (24 - off) 8
    if min (2 ^ 34) (stageRoom t) < off + d.length then answer s stBadParam
    else if fresh && decide (off ≤ 24) && decide (32 ≤ off + d.length) && !lengthFits t len then
      (noteRefusal s ⟨0x0D03, 24, 0⟩, stRefused, refusal 0x0D03 24)
    else answer (placePart t off d) stOk

/-- IMG_PART (R408): OFFSET, IMAGE_ID, 4 bytes of 0 and up to 8,944 bytes. -/
def execImgPart (req : MccReq) (s : State) : Out :=
  serve 0x20 req s (fun s =>
    let p := req.payload
    if p.length < 16 ∨ 16 + 8944 < p.length then answer s stBadLength
    else if !zr p 12 4 then answer s stBadParam
    else imgPart s (fld p 0 8) (fld p 8 4) (p.drop 16))

/-- IMG_VALIDATE (R409). -/
def execImgValidate (req : MccReq) (s : State) : Out :=
  serve 0x21 req s (fun s => sized 0 req.payload s (fun s =>
    let st := getF s F.IMG_STATUS_STATE 0
    if s.mcc.work.contains 0x21 then answer s stBusy
    else if st = 1 ∨ st = 5 then
      answer { (setF s F.IMG_STATUS_STATE 0 2) with mcc := { s.mcc with work := s.mcc.work ++ [0x21] } } stAccepted
    else answer s stWrongState))

/-- IMG_COMMIT (R432, R411). -/
def execImgCommit (req : MccReq) (s : State) : Out :=
  serve 0x22 req s (fun s => sized 0 req.payload s (fun s =>
    if s.mcc.work.contains 0x22 then answer s stBusy
    else if phase s ≠ 0 then answer s stJobActive
    else match sealedFull s with
      | some i =>
        if devState s = 4 ∨ devState s = 6 then
          answer (beginCommit { s with mcc := { s.mcc with work := s.mcc.work ++ [0x22] } } i) stAccepted
        else answer s stWrongState
      | none => answer s stWrongState))

/-- IMG_DISCARD: the staged image is EMPTY; it waits for no validation, commit or apply that runs. -/
def execImgDiscard (req : MccReq) (s : State) : Out :=
  serve 0x23 req s (fun s => sized 0 req.payload s (fun s =>
    let st := getF s F.IMG_STATUS_STATE 0
    if st = 2 ∨ st = 4 then answer s stWrongState else answer (dropStaged s) stOk))

/-- IMG_STATUS: the IMG registers. -/
def execImgStatus (req : MccReq) (s : State) : Out :=
  serve 0x24 req s (fun s => sized 0 req.payload s (fun s =>
    let r := readRegs s (regRun (regBase + 0x6000) 21)
    (r.1, stOk, r.2)))

/-! ## Bulk windows (R439) -/

/-- BULK_CONNECT: a repeat replaces the connection. -/
def execBulkConnect (req : MccReq) (s : State) : Out :=
  serve 0x25 req s (fun s => sized 20 req.payload s (fun s =>
    let q := Config.freeNat s.sys.free % 16777216
    let b : Bulk := ⟨fld req.payload 0 4, req.payload.drop 4, q⟩
    let s := setB (takeFree s) F.MCC_STATUS_BULK 0 true
    ({ s with mcc := { s.mcc with bulk := some b } }, stOk, leBytes q 4)))

/-- An address and a key for a window: free values. -/
def newWindow (s : State) : State × Nat × Nat :=
  let a := Config.freeNat s.sys.free % 2 ^ 48
  let t := takeFree s
  (takeFree t, a, Config.freeNat t.sys.free % 2 ^ 32)

/-- The response of a window: address, key and length. -/
def windowBody (a k n : Nat) : List Byte := leBytes a 8 ++ leBytes k 4 ++ leBytes n 8

/-- The length of the staging window. -/
def stagingLen (s : State) : Nat := min (2 ^ 34) (stageRoom s)

/-- The length of the slot storage. -/
def storageLen (s : State) : Nat := 256 * getF s F.RES_PAGES_PAGES 0 * 4096

/-- IMG_WINDOW: opens the staging window. -/
def execImgWindow (req : MccReq) (s : State) : Out :=
  serve 0x26 req s (fun s => sized 0 req.payload s (fun s =>
    let w := newWindow s
    ({ w.1 with mcc := { w.1.mcc with staging := some w.2 } }, stOk, windowBody w.2.1 w.2.2 (stagingLen s))))

/-- RESULT_WINDOW: opens the read-only window over slot storage. -/
def execResultWindow (req : MccReq) (s : State) : Out :=
  serve 0x61 req s (fun s => sized 0 req.payload s (fun s =>
    let w := newWindow s
    ({ w.1 with mcc := { w.1.mcc with results := some w.2 } }, stOk, windowBody w.2.1 w.2.2 (storageLen s))))

/-- DBG_WINDOW: opens the read-only window over a tile's focal window, in Bench (R430). -/
def execDbgWindow (req : MccReq) (s : State) : Out :=
  serve 0xA5 req s (fun s => sized 2 req.payload s (fun s =>
    let t := fld req.payload 0 2
    if 512 ≤ t then answer s stBadParam
    else
      let w := newWindow s
      ({ w.1 with mcc := { w.1.mcc with debug := some (t, w.2) } }, stOk, windowBody w.2.1 w.2.2 0xE00000)))

/-- An RDMA operation answers on the connection; none is a remote access error. -/
def rdma (s : State) (d : Option (List Byte)) : State := emit s (.rdma d)

/-- The management core and the connection serve RDMA operations. -/
def bulkUp (s : State) : Bool := s.flt.coreUp && s.mcc.bulk.isSome && devState s != 8

/-- The IMAGE_ID of a part that came by RDMA: that of the header it carries, else that of the staged image. -/
def partId (s : State) (off : Nat) (d : List Byte) : Nat := if off = 0 ∧ 24 ≤ d.length then fld d 20 4 else s.act.stagedId

/-- BULK_WRITE (R439): a WRITE in the staging window acts as IMG_PART at the offset written. -/
def execBulkWrite (addr : Nat) (key : Nat) (data : List Byte) (s : State) : Out :=
  match (if bulkUp s then s.mcc.staging else none) with
  | none => .next (rdma s none)
  | some w =>
    if w.2 = key ∧ w.1 ≤ addr ∧ addr + data.length ≤ w.1 + stagingLen s then
      let off := addr - w.1
      let r := imgPart s off (partId s off data) data
      .next (if r.2.1 = stOk then rdma r.1 (some []) else rdma s none)
    else .next (rdma s none)

/-- `n` bytes of the slot storage from an offset, slot by slot, with whether a word read is poisoned: SEALED slots, zeros for the
others; the last argument bounds the slots. -/
def storageBytes (s : State) (off n : Nat) : Nat → State × List Byte × Bool
  | 0 => (s, [], false)
  | f + 1 =>
    let k := max (4096 * getF s F.RES_PAGES_PAGES 0) 1
    let len := min (k - off % k) n
    if n = 0 then (s, [], false)
    else
      let r := if (mget s.mcc.slots (off / k) {}).state = 2 then engineGet s (4096 * getF s F.RES_STORE_PAGE 0 + off) len
        else (s, List.replicate len 0, [])
      let t := storageBytes r.1 (off + len) (n - len) f
      (t.1, r.2.1 ++ t.2.1, r.2.2.any id || t.2.2)

/-- Bytes of a focal window, with whether a word read is poisoned: a word that fails is delivered poisoned, and its recovery runs behind
the read (R291). -/
def focalBytes (s : State) (t off n : Nat) : State × List Byte × Bool :=
  let r := readBytes s (focalAddr t off) n
  (noteRange s (focalAddr t off) n, r.1, r.2.any id)

/-- BULK_READ (R439): a READ in the results window or in the debug window. Poison that leaves the device is consumed (R304,
R355). -/
def execBulkRead (addr : Nat) (key : Nat) (len : Nat) (s : State) : Out :=
  let inside (w : Nat × Nat) (n : Nat) : Bool := w.2 == key && decide (w.1 ≤ addr) && decide (addr + len ≤ w.1 + n)
  let res : Option (State × List Byte × Bool) := match s.mcc.results with
    | some w => if inside w (storageLen s) then some (storageBytes s (addr - w.1) len 257) else none
    | none => none
  let dbg : Option (State × List Byte × Bool) := match s.mcc.debug with
    | some (t, w) => if inside w 0xE00000 && inBench s then some (focalBytes s t (addr - w.1) len) else none
    | none => none
  match (if bulkUp s then res <|> dbg else none) with
  | some r => .next (rdma (if r.2.2 then poisonLeaves (closeRepeats r.1) 255 0 else closeRepeats r.1) (some r.2.1))
  | none => .next (rdma s none)

/-! ## Firmware records (R529 to R535) -/

/-- The types that FW_RECORD accepts. -/
def serviceTypes : List Nat := [tManifest, tChunk, tCert, tOwner, tSite]

/-- A record appended for the service group; in netboot without a flash it waits in SRAM. -/
def appendService (s : State) (type key : Nat) (b : List Byte) : State :=
  if logWrites s then logAppend s type 2 key b
  else { s with log := { s.log with seq := s.log.seq + 1, netRecs := s.log.netRecs ++ [⟨type, 2, s.log.seq, key, b, false⟩] } }

/-- FW_RECORD (R529): TYPE, 2 bytes of 0, KEY and the body. -/
def execFwRecord (req : MccReq) (s : State) : Out :=
  serve 0x81 req s (fun s =>
    let p := req.payload
    if p.length < 8 ∨ 8 + 65480 < p.length then answer s stBadLength
    else if !zr p 2 2 || !serviceTypes.contains (fld p 0 2) then answer s stBadParam
    else if !logWrites s && !s.boot.netboot then answer s stInternal
    else answer (appendService s (fld p 0 2) (fld p 4 4) (p.drop 8)) stOk)

/-- The newest pending firmware set. -/
def pendingSet (s : State) : Option LogRec := newestRec ((servicePending s).filter (fun r => r.type == tManifest))

/-- The pending group is committed: the flash's by a COMMIT record. -/
def commitService (s : State) : State := { (logCommit s 1 false) with log := { (logCommit s 1 false).log with netRecs := [] } }

/-- A committed set takes over: in netboot it runs at once, and bring-up goes on; else it waits for its switch (R530, R532). -/
def takeSet (s : State) (x : FwSet) : State :=
  if s.boot.netboot then
    let s := runSet { s with boot := { s.boot with netboot := false } } x
    leaveTwilight (setB s F.SEC_STATUS_NETBOOT 0 true)
  else
    let s := postSec { s with log := { s.log with next := some x, reverted := [] } }
    if phase s = 0 ∨ phase s = 6 then switchFirmware s else s

/-- A committed OWNER record is in force; a provisioning session ends (R534, R535). -/
def takeOwner (s : State) : State :=
  let s := record (postSec s) C.OWNER_CHANGED 0
  if (match s.mcc.session with | some x => x.provisioning | none => false) then dropSession s else s

/-- FW_COMMIT (R529): every pending record is checked; one COMMIT or one ABORT record for the group. -/
def fwCommit (s : State) : Reply :=
  let pend := servicePending s
  let set := pendingSet s
  if s.log.next.isSome && set.isSome then answer s stBusy
  else match pend.find? (fun r => !serviceOk s r) with
    | some r =>
      let s := logCommit s 1 true
      answer (recordWith { s with log := { s.log with netRecs := [] } } C.FW_REFUSED 0 [r.seq]) stAccepted
    | none =>
      let owner := pend.any (fun r => r.type == tOwner)
      let s := commitService s
      let s := if owner then takeOwner s else s
      answer (match set with | some r => takeSet s (fwSetOf r.key r.body) | none => s) stAccepted

/-- FW_COMMIT (R529, R530, R532, R534). -/
def execFwCommit (req : MccReq) (s : State) : Out := serve 0x82 req s (fun s => sized 0 req.payload s fwCommit)

end Sys2Proof.Machine
end

