-- ==== Sys2Proof/Machine/MccJob.lean ====
section
/-!
DEFINITION. The job and result commands of the control channel (14, R433 to R438, R443; 12, R370, R390; 05, R128).
-/
namespace Sys2Proof.Machine

/-! ## JOB_START (R433, Table: JOB_START payload) -/

/-- A range of pages may hold results: in the installed capacity, outside committed pages and the three areas. -/
def resultRangeOk (s : State) (first n : Nat) : Bool :=
  decide (4096 * (first + n) ≤ installed s) &&
    (n == 0 || (!s.act.committed.any (pagesMeet (first, n)) && (List.range 3).all (fun k => !pagesMeet (first, n) (areaAt s k))))

/-- The values of the payload are in range. -/
def jobParamsOk (s : State) (p : List Byte) : Bool :=
  let k := fld p 16 1
  decide (fld p 8 4 ≤ 1) && decide (k ≤ 16) && zr p 17 3 && decide (nowNs s + 20000000 ≤ gridTime s (fld p 0 8)) &&
    resultRangeOk s (fld p 12 4) k && resultRangeOk s (fld p 20 4) (256 * k) && !pagesMeet (fld p 12 4, k) (fld p 20 4, 256 * k)

/-- An image is active, no commit or apply runs, and Tracking is not refused (R333, R341). -/
def jobReady (s : State) : Bool :=
  getB s F.IMG_STATUS_ACTIVE 0 && devState s == 6 && getF s F.IMG_STATUS_STATE 0 != 4 && routesCovered s && getB s F.TIME_STATUS_ALIGNED 0

/-- No checkpoint is named, and no snapshot is resident. -/
def noSnapshots (s : State) : State :=
  setB (setF { s with net := { s.net with named := none, newer := none } } F.MER_CKPT_STEP 0 noCkpt) F.CKPT_STATUS_WRITING 0 false

/-- The result ranges of the job; every slot is unused (R438). -/
def setResults (s : State) (p : List Byte) : State :=
  let s := setF (setF s F.RES_SRC_PAGE 0 (fld p 12 4)) F.RES_PAGES_PAGES 0 (fld p 16 1)
  let s := setF s F.RES_STORE_PAGE 0 (fld p 20 4)
  { s with mcc := { s.mcc with slots := [], before := {} } }

/-- STARTING: the phase reads 7 until the first mark (R433, R395). -/
def beginJob (s : State) (p : List Byte) : State :=
  let load := bit (fld p 8 4) 0
  let s := noSnapshots (setResults s p)
  let s := setF (setF s F.MER_PHASE_PHASE 0 7) F.MER_ATTEMPT_ATTEMPT 0 0
  let s := { s with
    mcc := { s.mcc with job := some ⟨fld p 0 8, load, fld p 24 8⟩, stopStep := none, work := s.mcc.work ++ [0x40] }
    eph := { s.eph with nextMark := some (fld p 0 8) }
    mer := { s.mer with
      nextClear := 0, entry := none, up := none, down := none, lastDown := none, lastClose := none, closeUp := none, closeUps := [], closeDown := none, ups := [], gone := []
      resume := false, closeDue := false, working := false, rolling := none, escalated := [], loaded := false, decision := 0
      loading := if load then some (fld p 24 8) else none } }
  if load then setF s F.MER_PHASE_GATE 0 2 else restage s

/-- JOB_START (R433). -/
def execJobStart (req : MccReq) (s : State) : Out :=
  serve 0x40 req s (fun s => sized 32 req.payload s (fun s =>
    if phase s ≠ 0 then answer s stJobActive
    else if !jobReady s then answer s stWrongState
    else if !jobParamsOk s req.payload then answer s stBadParam
    else answer (beginJob s req.payload) stAccepted))

/-! ## JOB_RESUME, JOB_STOP and JOB_STATUS -/

/-- JOB_RESUME (R434, R390, R468): the close round with FLAGS.RESUME; the tiles of the hold are to wake. -/
def execJobResume (req : MccReq) (s : State) : Out :=
  serve 0x41 req s (fun s => sized 0 req.payload s (fun s =>
    if phase s ≠ 6 then answer s stNoJob
    else if s.mer.resume then answer s stBusy
    else
      let ups := s.mer.closeUps.filter (fun v => bit v.flags 0)
      let s := enterRounds s
      answer (askWakes { s with mer := { s.mer with
        resume := true, closeDue := true, closeUp := none, closeDown := none, closeUps := ups } }
        (retained s)) stAccepted))

/-- JOB_STOP (R435): in HOLD or STARTING the job ends at once. -/
def execJobStop (req : MccReq) (s : State) : Out :=
  serve 0x42 req s (fun s => sized 8 req.payload s (fun s =>
    let ph := phase s
    if ph = 0 then answer s stNoJob
    else if ph = 6 ∨ ph = 7 then
      let s := endJob { s with mer := { s.mer with loading := none, resume := false } }
      answer (if ph = 6 then askWakes s (retained s) else s) stOk
    else answer { s with mcc := { s.mcc with stopStep := some (fld req.payload 0 8) } } stOk))

/-- JOB_STATUS (R429): the meridian registers 0x00 to 0x5C. -/
def execJobStatus (req : MccReq) (s : State) : Out :=
  serve 0x43 req s (fun s => sized 0 req.payload s (fun s =>
    let r := readRegs s (regRun (regBase + blockOffset .mer 0) 24)
    (r.1, stOk, r.2)))

/-! ## SPARE_TAKE (R436) -/

/-- The active image holds JOBPARAMS.INDEX. -/
def activeAs (s : State) (index : Nat) : Option Image :=
  match s.act.image with
  | some i => if getB s F.IMG_STATUS_ACTIVE 0 && (tablesOf i).index == index then some i else none
  | none => none

/-- The sealed full image holds JOBPARAMS.INDEX. -/
def sealedAs (s : State) (index : Nat) : Option Image :=
  match sealedFull s with
  | some i => if (tablesOf i).index == index then some i else none
  | none => none

/-- The active image applied again where it is in force: steps 2 to 5 of R411 without validation (R457). -/
def reapplyLive (s : State) (i : Image) : State :=
  let d := s.act.digest
  let t := trainPorts s (takeImage s i) false
  let t := { t with act := { t.act with digest := d, sweepDue := t.act.regions.filter (·.pageCode) } }
  fillFocal (selectSynce (changeClock t) false) i

/-- The spare wakes where it sleeps, and its image is committed or applied again. -/
def takeRole (s : State) (index : Nat) : State :=
  if devState s = 7 then wakeUp s
  else match sealedAs s index with
    | some i => beginCommit s i
    | none => match activeAs s index with
      | some i => if devState s = 4 then setF (reapply s i) F.DEV_STATE_STATE 0 3 else reapplyLive s i
      | none => s

/-- SPARE_TAKE (R436). -/
def execSpareTake (req : MccReq) (s : State) : Out :=
  serve 0x44 req s (fun s => sized 16 req.payload s (fun s =>
    let index := fld req.payload 0 2
    if !zr req.payload 2 6 then answer s stBadParam
    else if phase s ≠ 0 then answer s stJobActive
    else if s.mcc.spare.isSome then answer s stBusy
    else if !(devState s == 4 || devState s == 6 || devState s == 7) then answer s stWrongState
    else if (sealedAs s index).isNone && ((activeAs s index).isNone || (sealedFull s).isSome) then answer s stWrongState
    else
      let s := { s with mcc := { s.mcc with spare := some ⟨0, true, fld req.payload 8 8⟩, work := s.mcc.work ++ [0x44] } }
      answer (takeRole s index) stAccepted))

/-! ## DRAIN, POWER and PAUSE -/

/-- DRAIN (R370, R429). -/
def execDrain (req : MccReq) (s : State) : Out :=
  serve 0x45 req s (fun s => sized 0 req.payload s (fun s => answer (drain s) stOk))

/-- The device enters Idle from Tracking (R443): its tiles are off, every VDOMEn goes to 0.60 V (R462) and it is not ready. -/
def leaveTracking (s : State) : State := setB (setF (postVdome (tilesOff s)) F.DEV_STATE_STATE 0 4) F.DEV_STATE_READY 0 false

/-- A change of state by POWER (R443); a waking device, and first light asked for Sleep, answer BUSY (R458). -/
def changePower (s : State) (sleep : Bool) : Reply :=
  let d := devState s
  if d = 3 ∨ d = 5 then answer s (if s.boot.fromSleep || (d == 5 && sleep) then stBusy else stWrongState)
  else if getF s F.IMG_STATUS_STATE 0 = 4 ∨ d = 2 then answer s stWrongState
  else if sleep then answer (if d = 7 then s else enterSleep s) stAccepted
  else answer (if d = 7 then wakeUp s else if d = 6 then leaveTracking s else s) stAccepted

/-- POWER (R443). -/
def execPower (req : MccReq) (s : State) : Out :=
  serve 0x46 req s (fun s => sized 1 req.payload s (fun s =>
    if 1 < fld req.payload 0 1 then answer s stBadParam
    else if phase s ≠ 0 then answer s stJobActive
    else changePower s (fld req.payload 0 1 == 1)))

/-- PAUSE (R128): firmware's request; the duty changes at the next frame boundary. -/
def execPause (req : MccReq) (s : State) : Out :=
  serve 0x47 req s (fun s => sized 1 req.payload s (fun s =>
    if 15 < fld req.payload 0 1 then answer s stBadParam
    else answer (setF s F.PAUSE_STATUS_FW_REQ 0 (fld req.payload 0 1)) stOk))

/-! ## Results (R438) -/

/-- The header of a sealed slot. -/
def slotHeader (s : State) (x : Slot) : List Byte :=
  leBytes x.step 8 ++ leBytes x.sealSeq 4 ++ leBytes x.word 4 ++ leBytes x.time 8 ++ leBytes x.exp 4 ++
    leBytes (getF s F.RES_PAGES_PAGES 0) 1 ++ List.replicate 35 0

/-- The response of a read of a sealed slot; poison that leaves the device is consumed (R304, R355). -/
def slotData (s : State) (x : Slot) (off n : Nat) : Reply :=
  let k := getF s F.RES_PAGES_PAGES 0
  if 4096 * k < off + n then answer s stBadParam
  else
    let r := engineGet s (4096 * (getF s F.RES_STORE_PAGE 0 + x.step % 256 * k) + off) n
    ((if r.2.2.any id then poisonLeaves r.1 255 0 else r.1), stOk, slotHeader s x ++ r.2.1)

/-- RESULT_READ (R438, Table: Result read). -/
def execResultRead (req : MccReq) (s : State) : Out :=
  serve 0x60 req s (fun s => sized 16 req.payload s (fun s =>
    let n := fld req.payload 0 8
    let x := slotOf s n
    if 8192 < fld req.payload 12 4 then answer s stBadParam
    else if x.state = 2 ∧ x.step = n then slotData s x (fld req.payload 8 4) (fld req.payload 12 4)
    else if x.state = 1 ∧ x.step = n then answer s stPending
    else if stepNow s ≤ n then answer s stNotYet
    else answer s stResultGone))

/-- An entry of SLOTS_LIST. -/
def slotEntry (x : Slot) : List Byte := leBytes x.state 1 ++ List.replicate 3 0 ++ leBytes x.sealSeq 4 ++ leBytes x.step 8

/-- SLOTS_LIST (R438). -/
def execSlotsList (req : MccReq) (s : State) : Out :=
  serve 0x62 req s (fun s => sized 0 req.payload s (fun s =>
    (s, stOk, (List.range 256).flatMap (fun k => slotEntry (mget s.mcc.slots k {})))))

end Sys2Proof.Machine
end

