-- ==== Sys2Proof/Machine/MccDbg.lean ====
section
/-!
DEFINITION. The register, event, logbook, debug and service commands of the control channel (14, R429, R430, R437; 02, R34; 06,
R178 to R181; 08, R261, R263; 18, R512, R518; 19, R547; 20, R569).
-/
namespace Sys2Proof.Machine

/-! ## Registers, events and the logbook -/

/-- REG_READ (R429): up to 256 addresses. -/
def execRegRead (req : MccReq) (s : State) : Out :=
  serve 0x68 req s (fun s =>
    let n := req.payload.length / 8
    if req.payload.length % 8 ≠ 0 ∨ 256 < n then answer s stBadLength
    else
      let r := readRegs s ((List.range n).map (fun i => fld req.payload (8 * i) 8))
      (r.1, stOk, r.2))

/-- The first-error capture and the history queue: FLT_FIRST to FLT_HIST_TOTAL, then the 64 entries of FLT_HIST (R511, R512). -/
def eventRegs : List Nat :=
  regRun (regBase + 0x100008) 6 ++ regRun (regBase + 0x100100) 256

/-- EVENTS_READ (R512). -/
def execEventsRead (req : MccReq) (s : State) : Out :=
  serve 0x69 req s (fun s => sized 0 req.payload s (fun s =>
    let r := readRegs s eventRegs
    (r.1, stOk, r.2)))

/-- The bytes that 16 fragments hold (R422). -/
def maxPayload : Nat := 143360

/-- LOG_READ (R429): bytes of the flash. -/
def execLogRead (req : MccReq) (s : State) : Out :=
  serve 0x80 req s (fun s => sized 12 req.payload s (fun s =>
    let off := fld req.payload 0 8
    let n := fld req.payload 8 4
    if !getB s F.LOG_STATUS_PRESENT 0 then answer s stInternal
    else if 65536 * s.log.size < off + n ∨ maxPayload < n then answer s stBadParam
    else (s, stOk, flashBytes s off n)))

/-- Records in order, as many as a response holds. -/
def fitRecs (room : Nat) : List LogRec → List Byte
  | [] => []
  | r :: rs =>
    let b := recBytes r
    if b.length ≤ room then b ++ fitRecs (room - b.length) rs else []

/-- CHANGE_READ (R547): the CHANGE records with SEQ at or above FROM; the buffer is written first. -/
def execChangeRead (req : MccReq) (s : State) : Out :=
  serve 0x83 req s (fun s => sized 8 req.payload s (fun s =>
    let s := flushChanges s
    let rs := (journal s).filter (fun r => r.type == tChange && decide (fld req.payload 0 8 ≤ r.seq))
    (s, stOk, fitRecs maxPayload rs)))

/-! ## Debug (R178 to R181, R430) -/

/-- A debug command on a group of a tile. -/
def onGroup (p : List Byte) (s : State) (f : State → Nat → Nat → State) : Reply :=
  let t := fld p 0 2
  let g := fld p 2 1
  if 512 ≤ t ∨ 32 ≤ g then answer s stBadParam else answer (f s t g) stOk

/-- DBG_HALT (R178, R179). -/
def execDbgHalt (req : MccReq) (s : State) : Out :=
  serve 0xA0 req s (fun s => sized 3 req.payload s (fun s => onGroup req.payload s (fun s t g => dbgHalt s t g 3)))

/-- DBG_STEP (R180). -/
def execDbgStep (req : MccReq) (s : State) : Out :=
  serve 0xA1 req s (fun s => sized 3 req.payload s (fun s => onGroup req.payload s dbgStep))

/-- DBG_RESUME (R180). -/
def execDbgResume (req : MccReq) (s : State) : Out :=
  serve 0xA2 req s (fun s => sized 3 req.payload s (fun s => onGroup req.payload s dbgResume))

/-- The address of DBG_SEL of a tile, just below DBG_DATA. -/
def dbgSelAddr (t : Nat) : Nat := dbgDataAddr t - 4

/-- DBG_READ (R181): the register that the value selects, and its poison flag. -/
def execDbgRead (req : MccReq) (s : State) : Out :=
  serve 0xA3 req s (fun s => sized 6 req.payload s (fun s =>
    let t := fld req.payload 0 2
    if 512 ≤ t then answer s stBadParam
    else
      let s := busWrite s (dbgSelAddr t) (fld req.payload 2 4) 3
      let v := dbgValue s t
      (s, stOk, leBytes v.1 4 ++ leBytes v.2.toNat 4)))

/-- DBG_WRITE (R181). -/
def execDbgWrite (req : MccReq) (s : State) : Out :=
  serve 0xA4 req s (fun s => sized 10 req.payload s (fun s =>
    let t := fld req.payload 0 2
    if 512 ≤ t then answer s stBadParam
    else answer (writeDbgData (busWrite s (dbgSelAddr t) (fld req.payload 2 4) 3) t (fld req.payload 6 4)) stOk))

/-- A value with the RWS parts of the register kept. -/
def keepRws (s : State) (r : RegAt) (v : Nat) : Nat :=
  r.reg.parts.foldl (fun v p =>
    if p.acc = .rws then replaceBits v p.lo p.width (bits (getF s p.fld r.unit) p.src p.width) else v) v

/-- REG_WRITE (R429, R7): RW and WO fields only. After the image is sealed a write that would change an RWS field is recorded
as any other is. -/
def execRegWrite (req : MccReq) (s : State) : Out :=
  serve 0xA6 req s (fun s => sized 16 req.payload s (fun s =>
    let a := fld req.payload 0 8
    let v := fld req.payload 8 4
    if !zr req.payload 12 4 then answer s stBadParam
    else match regAt a with
      | none => answer s stBadParam
      | some r => answer (busWrite s a (if frozen s then v else keepRws s r v) 3) stOk))

/-! ## Resets (R34) -/

/-- PARTITION_RESET (R34). -/
def execPartitionReset (req : MccReq) (s : State) : Out :=
  serve 0xC0 req s (fun s => sized 1 req.payload s (fun s =>
    let t := fld req.payload 0 1
    if 4 ≤ t then answer s stBadParam
    else if partitionDown s t then answer s stBusy
    else answer (requestReset s t [] true 2) stAccepted))

/-- LAYER_RESET (R34, R35). -/
def execLayerReset (req : MccReq) (s : State) : Out :=
  serve 0xC1 req s (fun s => sized 2 req.payload s (fun s =>
    let t := fld req.payload 0 1
    let l := fld req.payload 1 1
    if 4 ≤ t ∨ 8 ≤ l then answer s stBadParam
    else if inReset s t l then answer s stBusy
    else answer (requestReset s t [l] false 2) stAccepted))

/-! ## Shutters (R437, R518) -/

/-- The number of units of a kind of SHUTTER. -/
def kindUnits (kind : Nat) : Nat := if kind = 0 then 512 else if kind ≤ 3 then 192 else 0

/-- A unit is shuttered by service (R437). -/
def shutterUnit (s : State) (kind i : Nat) : State :=
  if kind = 0 then shutterTile s (physOf s i) false
  else if kind = 1 then shutterSlice s i
  else if kind = 2 then (if getB s F.FLT_SHUT_CHANNEL i then s else serviceChannel s i true)
  else if getB s F.FLT_SHUT_PORT i then s
  else shutterPortDue s i

/-- SHUTTER (R437). -/
def execShutter (req : MccReq) (s : State) : Out :=
  serve 0xC2 req s (fun s => sized 3 req.payload s (fun s =>
    let kind := fld req.payload 0 1
    let i := fld req.payload 1 2
    if kindUnits kind ≤ i then answer s stBadParam else answer (shutterUnit s kind i) stAccepted))

/-- A channel or port shuttered by service or as flapping is reopened; one that no reopening opens stays as it is (R518). -/
def reopenUnit (s : State) (kind i : Nat) : State :=
  if kind = 2 then
    if getB s F.FLT_SHUT_CHANNEL i && !(getChan s i).bad then serviceChannel s i false else s
  else if getB s F.FLT_SHUT_PORT i then setPortUp (setB s F.FLT_SHUT_PORT i false) i
  else setPort s i { getPort s i with shutterDue := false }

/-- REOPEN (R261, R337): a channel or a port. -/
def execReopen (req : MccReq) (s : State) : Out :=
  serve 0xC3 req s (fun s => sized 3 req.payload s (fun s =>
    let kind := fld req.payload 0 1
    let i := fld req.payload 1 2
    if kind < 2 ∨ kindUnits kind ≤ i then answer s stBadParam else answer (reopenUnit s kind i) stAccepted))

/-! ## Lamps (R263, R264) -/

/-- The values of LAMP_PAT to LAMP_PASSES and LAMP_USER0 to LAMP_USER7 written to the channel's registers. -/
def writeLampRegs (s : State) (c : Nat) (p : List Byte) : State :=
  let base := regBase + blockOffset .mch c
  let as := regRun (base + 0x104) 5 ++ regRun (base + 0x140) 8
  (as.zipIdx).foldl (fun s e => busWrite s e.1 (fld p (1 + 4 * e.2) 4) 2) s

/-- LAMP (R263, R264): the sequence of a service command; an earlier run ends first, and the start acts under R263. -/
def execLamp (req : MccReq) (s : State) : Out :=
  serve 0xC4 req s (fun s => sized 53 req.payload s (fun s =>
    let c := fld req.payload 0 1
    if 192 ≤ c then answer s stBadParam
    else
      let t := if (getChan s c).lamp.isSome then setF (stopLamp s c) F.MCH_STATUS_STATE c 4 else s
      let t := writeLampRegs t c req.payload
      if !lampSettings t c then answer s stBadParam
      else answer (writeLamp t c 0x1A4D0001 2) stAccepted))

/-- LAMP_RESULT (R429): LAMP_STATUS to LAMP_FAIL_DQ. -/
def execLampResult (req : MccReq) (s : State) : Out :=
  serve 0xC5 req s (fun s => sized 1 req.payload s (fun s =>
    let c := fld req.payload 0 1
    if 192 ≤ c then answer s stBadParam
    else
      let r := readRegs s (regRun (regBase + blockOffset .mch c + 0x118) 8)
      (r.1, stOk, r.2)))

/-- LOCATE (R569). -/
def execLocate (req : MccReq) (s : State) : Out :=
  serve 0xC6 req s (fun s => sized 1 req.payload s (fun s =>
    let v := fld req.payload 0 1
    if 1 < v then answer s stBadParam else answer (setB s F.LED_CTL_LOCATE 0 (v == 1)) stOk))

end Sys2Proof.Machine
end

