-- ==== Sys2Proof/Machine/Dispatch.lean ====
section
/-!
DEFINITION. What each command does to everything but the queue: one arm for each row of spec/opcode_table.json.
-/
namespace Sys2Proof.Machine

def exec (i : Instr) (s : State) : Host.Outcome State Fault Refusal :=
  match i with
  | .registerWrite addr value origin => Sys2Proof.Machine.execRegisterWrite addr value origin s
  | .pairLoRead addr => Sys2Proof.Machine.execPairLoRead addr s
  | .captureRearm addr value => Sys2Proof.Machine.execCaptureRearm addr value s
  | .minRecorderRearm addr value => Sys2Proof.Machine.execMinRecorderRearm addr value s
  | .spineBurstArrive tile target txn data crc => Sys2Proof.Machine.execSpineBurstArrive tile target txn data crc s
  | .resentBurstArrive tile target data crc => Sys2Proof.Machine.execResentBurstArrive tile target data crc s
  | .spineBurstDeliver tile target => Sys2Proof.Machine.execSpineBurstDeliver tile target s
  | .agingEval phys below => Sys2Proof.Machine.execAgingEval phys below s
  | .layerPllSwitch tower layer => Sys2Proof.Machine.execLayerPllSwitch tower layer s
  | .layerPllLost tower layer => Sys2Proof.Machine.execLayerPllLost tower layer s
  | .layerReq tower value origin => Sys2Proof.Machine.execLayerReq tower value origin s
  | .partitionReq tower value origin => Sys2Proof.Machine.execPartitionReq tower value origin s
  | .layerResetDone tower layer => Sys2Proof.Machine.execLayerResetDone tower layer s
  | .partitionResetDone tower => Sys2Proof.Machine.execPartitionResetDone tower s
  | .pauseFrameBoundary => Sys2Proof.Machine.execPauseFrameBoundary s
  | .pauseSlotBegin => Sys2Proof.Machine.execPauseSlotBegin s
  | .pauseSlotEnd => Sys2Proof.Machine.execPauseSlotEnd s
  | .epochMark => Sys2Proof.Machine.execEpochMark s
  | .bundleFetch tile => Sys2Proof.Machine.execBundleFetch tile s
  | .bundleRefetch tile => Sys2Proof.Machine.execBundleRefetch tile s
  | .arraySlot tile => Sys2Proof.Machine.execArraySlot tile s
  | .heldArrayIssue tile => Sys2Proof.Machine.execHeldArrayIssue tile s
  | .gather tile => Sys2Proof.Machine.execGather tile s
  | .segEnd tile => Sys2Proof.Machine.execSegEnd tile s
  | .load tile => Sys2Proof.Machine.execLoad tile s
  | .store tile => Sys2Proof.Machine.execStore tile s
  | .coadd tile => Sys2Proof.Machine.execCoadd tile s
  | .mesh tile => Sys2Proof.Machine.execMesh tile s
  | .turn tile => Sys2Proof.Machine.execTurn tile s
  | .send tile => Sys2Proof.Machine.execSend tile s
  | .expect tile => Sys2Proof.Machine.execExpect tile s
  | .coll tile => Sys2Proof.Machine.execColl tile s
  | .launch tile => Sys2Proof.Machine.execLaunch tile s
  | .join tile => Sys2Proof.Machine.execJoin tile s
  | .meshLand xfer => Sys2Proof.Machine.execMeshLand xfer s
  | .moverLand xfer => Sys2Proof.Machine.execMoverLand xfer s
  | .moverAccepted xfer => Sys2Proof.Machine.execMoverAccepted xfer s
  | .sendCopyEnd xfer => Sys2Proof.Machine.execSendCopyEnd xfer s
  | .heldSendCopy xfer => Sys2Proof.Machine.execHeldSendCopy xfer s
  | .heldLandingRelease xfer => Sys2Proof.Machine.execHeldLandingRelease xfer s
  | .slackOverrun xfer => Sys2Proof.Machine.execSlackOverrun xfer s
  | .stallTimeout => Sys2Proof.Machine.execStallTimeout s
  | .voteEntry => Sys2Proof.Machine.execVoteEntry s
  | .arrayPassComplete tile => Sys2Proof.Machine.execArrayPassComplete tile s
  | .accumDrainComplete tile => Sys2Proof.Machine.execAccumDrainComplete tile s
  | .arrayOpComplete tile => Sys2Proof.Machine.execArrayOpComplete tile s
  | .arrayFaultDetect tile faults => Sys2Proof.Machine.execArrayFaultDetect tile faults s
  | .arrayRerunStart tile => Sys2Proof.Machine.execArrayRerunStart tile s
  | .faultWindowEnd tile => Sys2Proof.Machine.execFaultWindowEnd tile s
  | .taskResident tile => Sys2Proof.Machine.execTaskResident tile s
  | .taskEnd tile task => Sys2Proof.Machine.execTaskEnd tile task s
  | .globalLoadReturn tile slot => Sys2Proof.Machine.execGlobalLoadReturn tile slot s
  | .globalStoreAccepted tile slot => Sys2Proof.Machine.execGlobalStoreAccepted tile slot s
  | .lockStall tile slot => Sys2Proof.Machine.execLockStall tile slot s
  | .barrierTimeout tile slot => Sys2Proof.Machine.execBarrierTimeout tile slot s
  | .namedBarrierComplete id => Sys2Proof.Machine.execNamedBarrierComplete id s
  | .arrayOwnershipGrant tile => Sys2Proof.Machine.execArrayOwnershipGrant tile s
  | .lregParity tile slot lane => Sys2Proof.Machine.execLregParity tile slot lane s
  | .nop tile slot f => Sys2Proof.Machine.execNop tile slot f s
  | .exit tile slot f => Sys2Proof.Machine.execExit tile slot f s
  | .bra tile slot f => Sys2Proof.Machine.execBra tile slot f s
  | .brs tile slot f => Sys2Proof.Machine.execBrs tile slot f s
  | .yield tile slot f => Sys2Proof.Machine.execYield tile slot f s
  | .rdsr tile slot f => Sys2Proof.Machine.execRdsr tile slot f s
  | .push tile slot f => Sys2Proof.Machine.execPush tile slot f s
  | .brk tile slot f => Sys2Proof.Machine.execBrk tile slot f s
  | .rcv tile slot f => Sys2Proof.Machine.execRcv tile slot f s
  | .pop tile slot f => Sys2Proof.Machine.execPop tile slot f s
  | .any tile slot f => Sys2Proof.Machine.execAny tile slot f s
  | .all tile slot f => Sys2Proof.Machine.execAll tile slot f s
  | .mask tile slot f => Sys2Proof.Machine.execMask tile slot f s
  | .take tile slot f => Sys2Proof.Machine.execTake tile slot f s
  | .give tile slot f => Sys2Proof.Machine.execGive tile slot f s
  | .barg tile slot f => Sys2Proof.Machine.execBarg tile slot f s
  | .bart tile slot f => Sys2Proof.Machine.execBart tile slot f s
  | .barn tile slot f => Sys2Proof.Machine.execBarn tile slot f s
  | .macq tile slot f => Sys2Proof.Machine.execMacq tile slot f s
  | .mrel tile slot f => Sys2Proof.Machine.execMrel tile slot f s
  | .mwld tile slot f => Sys2Proof.Machine.execMwld tile slot f s
  | .mwsw tile slot f => Sys2Proof.Machine.execMwsw tile slot f s
  | .mma tile slot f => Sys2Proof.Machine.execMma tile slot f s
  | .mma4 tile slot f => Sys2Proof.Machine.execMma4 tile slot f s
  | .ld tile slot f => Sys2Proof.Machine.execLd tile slot f s
  | .st tile slot f => Sys2Proof.Machine.execSt tile slot f s
  | .lds tile slot f => Sys2Proof.Machine.execLds tile slot f s
  | .sts tile slot f => Sys2Proof.Machine.execSts tile slot f s
  | .aadd tile slot f => Sys2Proof.Machine.execAadd tile slot f s
  | .amax tile slot f => Sys2Proof.Machine.execAmax tile slot f s
  | .acas tile slot f => Sys2Proof.Machine.execAcas tile slot f s
  | .fenceRelease tile slot f => Sys2Proof.Machine.execFenceRelease tile slot f s
  | .fenceAcquire tile slot f => Sys2Proof.Machine.execFenceAcquire tile slot f s
  | .fenceFull tile slot f => Sys2Proof.Machine.execFenceFull tile slot f s
  | .pref tile slot f => Sys2Proof.Machine.execPref tile slot f s
  | .fadd tile slot f => Sys2Proof.Machine.execFadd tile slot f s
  | .fsub tile slot f => Sys2Proof.Machine.execFsub tile slot f s
  | .fmul tile slot f => Sys2Proof.Machine.execFmul tile slot f s
  | .ffma tile slot f => Sys2Proof.Machine.execFfma tile slot f s
  | .fmin tile slot f => Sys2Proof.Machine.execFmin tile slot f s
  | .fmax tile slot f => Sys2Proof.Machine.execFmax tile slot f s
  | .fcmp tile slot f => Sys2Proof.Machine.execFcmp tile slot f s
  | .frcp tile slot f => Sys2Proof.Machine.execFrcp tile slot f s
  | .frsq tile slot f => Sys2Proof.Machine.execFrsq tile slot f s
  | .fexp2 tile slot f => Sys2Proof.Machine.execFexp2 tile slot f s
  | .flog2 tile slot f => Sys2Proof.Machine.execFlog2 tile slot f s
  | .fdiv tile slot f => Sys2Proof.Machine.execFdiv tile slot f s
  | .cvtf tile slot f => Sys2Proof.Machine.execCvtf tile slot f s
  | .cvtn tile slot f => Sys2Proof.Machine.execCvtn tile slot f s
  | .i2f tile slot f => Sys2Proof.Machine.execI2f tile slot f s
  | .f2i tile slot f => Sys2Proof.Machine.execF2i tile slot f s
  | .iadd tile slot f => Sys2Proof.Machine.execIadd tile slot f s
  | .isub tile slot f => Sys2Proof.Machine.execIsub tile slot f s
  | .imul tile slot f => Sys2Proof.Machine.execImul tile slot f s
  | .imad tile slot f => Sys2Proof.Machine.execImad tile slot f s
  | .and tile slot f => Sys2Proof.Machine.execAnd tile slot f s
  | .or tile slot f => Sys2Proof.Machine.execOr tile slot f s
  | .xor tile slot f => Sys2Proof.Machine.execXor tile slot f s
  | .shl tile slot f => Sys2Proof.Machine.execShl tile slot f s
  | .shr tile slot f => Sys2Proof.Machine.execShr tile slot f s
  | .sar tile slot f => Sys2Proof.Machine.execSar tile slot f s
  | .imin tile slot f => Sys2Proof.Machine.execImin tile slot f s
  | .imax tile slot f => Sys2Proof.Machine.execImax tile slot f s
  | .icmp tile slot f => Sys2Proof.Machine.execIcmp tile slot f s
  | .sel tile slot f => Sys2Proof.Machine.execSel tile slot f s
  | .mov tile slot f => Sys2Proof.Machine.execMov tile slot f s
  | .movi tile slot f => Sys2Proof.Machine.execMovi tile slot f s
  | .shfl tile slot f => Sys2Proof.Machine.execShfl tile slot f s
  | .sadd tile slot f => Sys2Proof.Machine.execSadd tile slot f s
  | .ssub tile slot f => Sys2Proof.Machine.execSsub tile slot f s
  | .smul tile slot f => Sys2Proof.Machine.execSmul tile slot f s
  | .sand tile slot f => Sys2Proof.Machine.execSand tile slot f s
  | .sor tile slot f => Sys2Proof.Machine.execSor tile slot f s
  | .sxor tile slot f => Sys2Proof.Machine.execSxor tile slot f s
  | .sshl tile slot f => Sys2Proof.Machine.execSshl tile slot f s
  | .sshr tile slot f => Sys2Proof.Machine.execSshr tile slot f s
  | .ssar tile slot f => Sys2Proof.Machine.execSsar tile slot f s
  | .smin tile slot f => Sys2Proof.Machine.execSmin tile slot f s
  | .smax tile slot f => Sys2Proof.Machine.execSmax tile slot f s
  | .scmp tile slot f => Sys2Proof.Machine.execScmp tile slot f s
  | .smov tile slot f => Sys2Proof.Machine.execSmov tile slot f s
  | .smovi tile slot f => Sys2Proof.Machine.execSmovi tile slot f s
  | .reservedInstruction tile slot word => Sys2Proof.Machine.execReservedInstruction tile slot word s
  | .dbgCtlHalt tile value origin => Sys2Proof.Machine.execDbgCtlHalt tile value origin s
  | .dbgCtlStep tile value origin => Sys2Proof.Machine.execDbgCtlStep tile value origin s
  | .dbgCtlResume tile value origin => Sys2Proof.Machine.execDbgCtlResume tile value origin s
  | .debugHaltEnter => Sys2Proof.Machine.execDebugHaltEnter s
  | .dbgDataWrite tile value origin => Sys2Proof.Machine.execDbgDataWrite tile value origin s
  | .sliceAccess slice => Sys2Proof.Machine.execSliceAccess slice s
  | .sliceMissFill slice => Sys2Proof.Machine.execSliceMissFill slice s
  | .coaddFragment slice => Sys2Proof.Machine.execCoaddFragment slice s
  | .overflowCoaddComplete slice => Sys2Proof.Machine.execOverflowCoaddComplete slice s
  | .thrashWindowEnd slice => Sys2Proof.Machine.execThrashWindowEnd slice s
  | .streakStreamEnd slice => Sys2Proof.Machine.execStreakStreamEnd slice s
  | .updateEntryDone entry => Sys2Proof.Machine.execUpdateEntryDone entry s
  | .tagLost slice set way => Sys2Proof.Machine.execTagLost slice set way s
  | .sliceFold slice => Sys2Proof.Machine.execSliceFold slice s
  | .perBankRefresh chan => Sys2Proof.Machine.execPerBankRefresh chan s
  | .pkgTempPoll pkg temp outOfRange => Sys2Proof.Machine.execPkgTempPoll pkg temp outOfRange s
  | .channelTrained chan outcome readEye writeEye => Sys2Proof.Machine.execChannelTrained chan outcome readEye writeEye s
  | .chTimeout chan => Sys2Proof.Machine.execChTimeout chan s
  | .spreadCopyDone chan => Sys2Proof.Machine.execSpreadCopyDone chan s
  | .lampStart chan value origin => Sys2Proof.Machine.execLampStart chan value origin s
  | .lampStop chan value origin => Sys2Proof.Machine.execLampStop chan value origin s
  | .lampDone chan result => Sys2Proof.Machine.execLampDone chan result s
  | .arbiterGrant target => Sys2Proof.Machine.execArbiterGrant target s
  | .heldRequestIssue cls inst band => Sys2Proof.Machine.execHeldRequestIssue cls inst band s
  | .etaHint target => Sys2Proof.Machine.execEtaHint target s
  | .transactionResend cls inst band => Sys2Proof.Machine.execTransactionResend cls inst band s
  | .lockedSequenceBreak target => Sys2Proof.Machine.execLockedSequenceBreak target s
  | .guaranteeScaled => Sys2Proof.Machine.execGuaranteeScaled s
  | .pageRecoveryDone addr => Sys2Proof.Machine.execPageRecoveryDone addr s
  | .patrolVisit store => Sys2Proof.Machine.execPatrolVisit store s
  | .writeRaw value origin => Sys2Proof.Machine.execWriteRaw value origin s
  | .readRaw value origin => Sys2Proof.Machine.execReadRaw value origin s
  | .readDecode value origin => Sys2Proof.Machine.execReadDecode value origin s
  | .recoverPage value origin => Sys2Proof.Machine.execRecoverPage value origin s
  | .frameReceive port frame => Sys2Proof.Machine.execFrameReceive port frame s
  | .blockReceive port blk => Sys2Proof.Machine.execBlockReceive port blk s
  | .blockTransmit port => Sys2Proof.Machine.execBlockTransmit port s
  | .nakReceive port blk => Sys2Proof.Machine.execNakReceive port blk s
  | .nakRepeat xfer => Sys2Proof.Machine.execNakRepeat xfer s
  | .expectArrivalPass xfer => Sys2Proof.Machine.execExpectArrivalPass xfer s
  | .replayHoldExpire port => Sys2Proof.Machine.execReplayHoldExpire port s
  | .gateEntryExpire port => Sys2Proof.Machine.execGateEntryExpire port s
  | .collComplete xfer => Sys2Proof.Machine.execCollComplete xfer s
  | .portTrainingDone port trained lldpOk => Sys2Proof.Machine.execPortTrainingDone port trained lldpOk s
  | .portDown port => Sys2Proof.Machine.execPortDown port s
  | .cageInsert group power => Sys2Proof.Machine.execCageInsert group power s
  | .cageUnplug group => Sys2Proof.Machine.execCageUnplug group s
  | .synceSourceFail => Sys2Proof.Machine.execSynceSourceFail s
  | .ptpSync port offset => Sys2Proof.Machine.execPtpSync port offset s
  | .timeHoldover => Sys2Proof.Machine.execTimeHoldover s
  | .linkMacsec port => Sys2Proof.Machine.execLinkMacsec port s
  | .storageReadDone data => Sys2Proof.Machine.execStorageReadDone data s
  | .storageError loader => Sys2Proof.Machine.execStorageError loader s
  | .snapshotWriteDone => Sys2Proof.Machine.execSnapshotWriteDone s
  | .telemetryExport => Sys2Proof.Machine.execTelemetryExport s
  | .up frame => Sys2Proof.Machine.execUp frame s
  | .down frame => Sys2Proof.Machine.execDown frame s
  | .commitWorkEnd => Sys2Proof.Machine.execCommitWorkEnd s
  | .commitLate => Sys2Proof.Machine.execCommitLate s
  | .closeUpSend => Sys2Proof.Machine.execCloseUpSend s
  | .closeUp frame => Sys2Proof.Machine.execCloseUp frame s
  | .closeDown frame => Sys2Proof.Machine.execCloseDown frame s
  | .voteTimeoutExpire => Sys2Proof.Machine.execVoteTimeoutExpire s
  | .voteResendExpire => Sys2Proof.Machine.execVoteResendExpire s
  | .voteLost => Sys2Proof.Machine.execVoteLost s
  | .rollbackComplete read failed => Sys2Proof.Machine.execRollbackComplete read failed s
  | .slew => Sys2Proof.Machine.execSlew s
  | .spareJoin pages failed => Sys2Proof.Machine.execSpareJoin pages failed s
  | .ckptLoadDone pages failed => Sys2Proof.Machine.execCkptLoadDone pages failed s
  | .imgValidationDone => Sys2Proof.Machine.execImgValidationDone s
  | .imgCommitDone => Sys2Proof.Machine.execImgCommitDone s
  | .mccFrame secured data => Sys2Proof.Machine.execMccFrame secured data s
  | .mccFragmentTimeout => Sys2Proof.Machine.execMccFragmentTimeout s
  | .sessionMkaTimeout => Sys2Proof.Machine.execSessionMkaTimeout s
  | .hello req => Sys2Proof.Machine.execHello req s
  | .kex req => Sys2Proof.Machine.execKex req s
  | .auth req => Sys2Proof.Machine.execAuth req s
  | .close req => Sys2Proof.Machine.execClose req s
  | .ping req => Sys2Proof.Machine.execPing req s
  | .attest req => Sys2Proof.Machine.execAttest req s
  | .identity req => Sys2Proof.Machine.execIdentity req s
  | .imgPart req => Sys2Proof.Machine.execImgPart req s
  | .imgValidate req => Sys2Proof.Machine.execImgValidate req s
  | .imgCommit req => Sys2Proof.Machine.execImgCommit req s
  | .imgDiscard req => Sys2Proof.Machine.execImgDiscard req s
  | .imgStatus req => Sys2Proof.Machine.execImgStatus req s
  | .bulkConnect req => Sys2Proof.Machine.execBulkConnect req s
  | .imgWindow req => Sys2Proof.Machine.execImgWindow req s
  | .bulkWrite addr key data => Sys2Proof.Machine.execBulkWrite addr key data s
  | .bulkRead addr key len => Sys2Proof.Machine.execBulkRead addr key len s
  | .jobStart req => Sys2Proof.Machine.execJobStart req s
  | .jobResume req => Sys2Proof.Machine.execJobResume req s
  | .jobStop req => Sys2Proof.Machine.execJobStop req s
  | .jobStatus req => Sys2Proof.Machine.execJobStatus req s
  | .spareTake req => Sys2Proof.Machine.execSpareTake req s
  | .drain req => Sys2Proof.Machine.execDrain req s
  | .power req => Sys2Proof.Machine.execPower req s
  | .pause req => Sys2Proof.Machine.execPause req s
  | .resultRead req => Sys2Proof.Machine.execResultRead req s
  | .resultWindow req => Sys2Proof.Machine.execResultWindow req s
  | .slotsList req => Sys2Proof.Machine.execSlotsList req s
  | .regRead req => Sys2Proof.Machine.execRegRead req s
  | .eventsRead req => Sys2Proof.Machine.execEventsRead req s
  | .logRead req => Sys2Proof.Machine.execLogRead req s
  | .fwRecord req => Sys2Proof.Machine.execFwRecord req s
  | .fwCommit req => Sys2Proof.Machine.execFwCommit req s
  | .changeRead req => Sys2Proof.Machine.execChangeRead req s
  | .dbgHalt req => Sys2Proof.Machine.execDbgHalt req s
  | .dbgStep req => Sys2Proof.Machine.execDbgStep req s
  | .dbgResume req => Sys2Proof.Machine.execDbgResume req s
  | .dbgRead req => Sys2Proof.Machine.execDbgRead req s
  | .dbgWrite req => Sys2Proof.Machine.execDbgWrite req s
  | .dbgWindow req => Sys2Proof.Machine.execDbgWindow req s
  | .regWrite req => Sys2Proof.Machine.execRegWrite req s
  | .partitionReset req => Sys2Proof.Machine.execPartitionReset req s
  | .layerReset req => Sys2Proof.Machine.execLayerReset req s
  | .shutter req => Sys2Proof.Machine.execShutter req s
  | .reopen req => Sys2Proof.Machine.execReopen req s
  | .lamp req => Sys2Proof.Machine.execLamp req s
  | .lampResult req => Sys2Proof.Machine.execLampResult req s
  | .locate req => Sys2Proof.Machine.execLocate req s
  | .vaonUp latch => Sys2Proof.Machine.execVaonUp latch s
  | .vaonLoss => Sys2Proof.Machine.execVaonLoss s
  | .resetNAssert => Sys2Proof.Machine.execResetNAssert s
  | .resetNRelease latch => Sys2Proof.Machine.execResetNRelease latch s
  | .twilightEnd found => Sys2Proof.Machine.execTwilightEnd found s
  | .coreCollimationEnd found => Sys2Proof.Machine.execCoreCollimationEnd found s
  | .linkCollimationEnd => Sys2Proof.Machine.execLinkCollimationEnd s
  | .firstLightEnd => Sys2Proof.Machine.execFirstLightEnd s
  | .trackingEntry => Sys2Proof.Machine.execTrackingEntry s
  | .bringupTimeout => Sys2Proof.Machine.execBringupTimeout s
  | .pmbusPoll readings answered => Sys2Proof.Machine.execPmbusPoll readings answered s
  | .railPowerGood rail => Sys2Proof.Machine.execRailPowerGood rail s
  | .railFault rail => Sys2Proof.Machine.execRailFault rail s
  | .quotaEval tile => Sys2Proof.Machine.execQuotaEval tile s
  | .tileGate => Sys2Proof.Machine.execTileGate s
  | .tileWakeStart phys => Sys2Proof.Machine.execTileWakeStart phys s
  | .tileWakeDone phys parityOk => Sys2Proof.Machine.execTileWakeDone phys parityOk s
  | .powerCapEval => Sys2Proof.Machine.execPowerCapEval s
  | .railLimitEval readings => Sys2Proof.Machine.execRailLimitEval readings s
  | .fcstFrame link forecast => Sys2Proof.Machine.execFcstFrame link forecast s
  | .tileDroop phys volts => Sys2Proof.Machine.execTileDroop phys volts s
  | .trimOpen phys => Sys2Proof.Machine.execTrimOpen phys s
  | .trimShort phys => Sys2Proof.Machine.execTrimShort phys s
  | .trimOutOfReg phys => Sys2Proof.Machine.execTrimOutOfReg phys s
  | .sensorSample sensor raw => Sys2Proof.Machine.execSensorSample sensor raw s
  | .thermalReqInterval => Sys2Proof.Machine.execThermalReqInterval s
  | .layerModelEval below fit => Sys2Proof.Machine.execLayerModelEval below fit s
  | .fallbackEval split => Sys2Proof.Machine.execFallbackEval split s
  | .thmTrip sensor fallback => Sys2Proof.Machine.execThmTrip sensor fallback s
  | .thmRestart => Sys2Proof.Machine.execThmRestart s
  | .watchdogFeed value => Sys2Proof.Machine.execWatchdogFeed value s
  | .mgcStopped => Sys2Proof.Machine.execMgcStopped s
  | .mgcRestartDone => Sys2Proof.Machine.execMgcRestartDone s
  | .errnTimerEnd => Sys2Proof.Machine.execErrnTimerEnd s
  | .errnHoldWrite value => Sys2Proof.Machine.execErrnHoldWrite value s
  | .collectorSelf parity => Sys2Proof.Machine.execCollectorSelf parity s
  | .refclkLost tower => Sys2Proof.Machine.execRefclkLost tower s
  | .rollbackAdvanced => Sys2Proof.Machine.execRollbackAdvanced s
  | .logCommit flashOk => Sys2Proof.Machine.execLogCommit flashOk s
  | .logCompaction => Sys2Proof.Machine.execLogCompaction s
  | .changeFlush flashOk => Sys2Proof.Machine.execChangeFlush flashOk s
  | .coldNextWrite value origin => Sys2Proof.Machine.execColdNextWrite value origin s
  | .svcBtnShortPress => Sys2Proof.Machine.execSvcBtnShortPress s
  | .svcBtnLongPress => Sys2Proof.Machine.execSvcBtnLongPress s
  | .ledFrame => Sys2Proof.Machine.execLedFrame s
  | .bypass tdi => Sys2Proof.Machine.execBypass tdi s
  | .idcode => Sys2Proof.Machine.execIdcode s
  | .samplePreload pins load => Sys2Proof.Machine.execSamplePreload pins load s
  | .extest pins load => Sys2Proof.Machine.execExtest pins load s
  | .internalResetEnd => Sys2Proof.Machine.execInternalResetEnd s
  | .managementCoreStops => Sys2Proof.Machine.execManagementCoreStops s
  | .portTrainsAgain port => Sys2Proof.Machine.execPortTrainsAgain port s
  | .deltaApplyEnd => Sys2Proof.Machine.execDeltaApplyEnd s
  | .logCompactionEnd => Sys2Proof.Machine.execLogCompactionEnd s
  | .syncInterval => Sys2Proof.Machine.execSyncInterval s

end Sys2Proof.Machine
end

