-- ==== Sys2Proof/Machine/Tick.lean ====
section
/-!
DEFINITION. The passing of one dome cycle, which is what a step does on an empty queue (assumption 1).
-/
namespace Sys2Proof.Machine

/-- The tiles whose datapath goes on under the stall in force, as the stall waits for its operation (R130). -/
def exemptTiles (s : State) : List Nat :=
  ((s.eph.causes.filter (causeWaitsOp s)).map (·.tile)).eraseDups

/-- One dome cycle: time passes; in a pause slot or a halt every unit is held (R127, R133); in a stall, the cycle in which it clears
included, STALL_CYCLES counts and only the tiles it waits for run (R130); otherwise the segment counter runs in a segment (R110). A
debug halt that is leaving holds this cycle and ends with it (R180). -/
def tickCycle (s : State) : State :=
  if paused s then
    let s := { s with clk := { s.clk with held := s.clk.held + 1 } }
    if s.eph.haltLeaving then { s with eph := { s.eph with debugHalt := false, haltLeaving := false } } else s
  else
    let s := { s with clk := { s.clk with laneCyc := s.clk.laneCyc + 1 } }
    if stalled s then
      let s := (exemptTiles s).foldl (fun s t => let a := getArr s t; setArr s t { a with exempt := a.exempt + 1 }) s
      let s := { s with clk := { s.clk with stalled := s.clk.stalled + 1 }, eph := { s.eph with stallLeaving := false } }
      setF s F.STALL_CYCLES_COUNT 0 (getF s F.STALL_CYCLES_COUNT 0 + 1)
    else if s.eph.inSegment then setF s F.SEG_CYCLE_CYCLE 0 (segCycle s + 1)
    else s

/-- The next bundle of a tile is due and has not been fetched (R116, R130). -/
def fetchLate (s : State) (t : Nat) : Bool :=
  let e := getEph s t
  e.queue.isEmpty && !e.ended && decide (e.nextFetch < getF s F.EPH_LEN_COUNT t) &&
    decide (cycleOf e (fetchWord s t (getF s F.EPH_BASE_BASE t + 32 * e.nextFetch)).1 ≤ segCycle s)

/-- What the cycle brings to the tiles of a segment: bundles without a slot to issue pass (R111), a bundle due while its datapath is
busy raises the stall of R119, and a fetch not ready in time that of cause 5 (R130). -/
def settleTiles (s : State) : State :=
  if s.eph.inSegment && !paused s && !stalled s then
    let s := (s.eph.tiles.map (·.1)).foldl settleAll s
    let busy := (s.eph.tiles.map (·.1)).filterMap (fun t => (busyDue s t).map (fun i => (t, i)))
    let late := (runTiles s).filter (fetchLate s)
    late.foldl (fun s t => addCause s t 5 0) (busy.foldl (fun s e => addCause s e.1 3 e.2) s)
  else s

/-- What waits within the device for the cycle: reads of the focal store that the finder kept waiting (R66), and stalls of a datapath
that is idle now (R130). -/
def serveWaiting (s : State) : State :=
  let s := (s.eph.causes.filter (fun c => c.cause == 3)).foldl (fun s c => clearIdle s c.tile) s
  if paused s then s else (s.eph.xfers.filter (·.unread)).foldl readWaiting s

/-- Sidereal ticks during which a congestion bit was set count in BND_CONG (R282). -/
def countCongestion (s : State) (n : Nat) : State :=
  if s.deep.slices.any (fun e => e.2.rq.congested) || s.deep.chans.any (fun e => e.2.rq.congested) then
    setF s F.BND_CONG_COUNT 0 (getF s F.BND_CONG_COUNT 0 + n)
  else s

/-- A cycle passes. A shutter that R310 has made due closes before it. Time runs in every state, and bursts leave the 1 s windows of R19; cycles are counted while the dome clock runs. -/
def tick (s : State) : State :=
  let s := closeRepeats s
  let u := domeUnits s
  let s := countCongestion s ((s.clk.mono + u) / 2170 - s.clk.mono / 2170)
  let s := checkSegments { s with clk := { s.clk with mono := s.clk.mono + u, dev := s.clk.dev + u } }
  if s.clk.running then stepGate (settleTiles (tickCycle (serveWaiting { s with clk := { s.clk with cyc := s.clk.cyc + 1 } })))
  else s

end Sys2Proof.Machine
end

