-- ==== Sys2Proof/Safety.lean ====
section
/-!
DEFINITION. What a safe run is, and the form that every state of a run keeps: the stored data and the registers as
canonical tables, the history ring within its 64 entries, the queue untouched by a command.
-/
namespace Sys2Proof

/-- A step that answers a next state. -/
def Runs (s t : Machine.State) : Prop := Machine.step s = Host.Outcome.next t

/-- States reached from a state by steps that answer next states. -/
inductive Reaches : Machine.State → Machine.State → Prop
  | here (s : Machine.State) : Reaches s s
  | step {s t u : Machine.State} : Reaches s t → Runs t u → Reaches s u

/-- The keys of a table strictly rise. -/
def Ascending {κ α : Type} (lt : κ → κ → Bool) (m : List (κ × α)) : Prop :=
  m.Pairwise (fun e f => lt e.1 f.1 = true)

/-- The parts that `Tidy` speaks of. -/
structure TidyParts (q p : List Instr) (regs : Machine.PMap Nat) (mem : List Host.Cell) (side pcode : Machine.NMap Nat)
    (fresh : Machine.NMap Bool) (hist : List Machine.Event) : Prop where
  queue : p = q
  regs : Ascending Machine.pairLt regs
  mem : Machine.Memory.wf mem = true
  side : Machine.mwf Machine.natLt side 0 = true
  pcode : Machine.mwf Machine.natLt pcode 0 = true
  fresh : Machine.mwf Machine.natLt fresh false = true
  hist : hist.length ≤ 64

/-- A state whose waiting commands are `q` and whose tables are in their one form: register fields under strictly rising
keys; the bytes of memory, their side bits, their page codes and the words written afresh strictly rising and with no
entry that an absent key would hold; at most 64 events in the history ring (R512). -/
def Tidy (q : List Instr) (s : Machine.State) : Prop :=
  TidyParts q s.pending s.sys.regs s.store.mem s.store.side s.store.pcode s.store.fresh s.flt.hist

/-! ## Words in which claims are stated: the lane unit -/

namespace Machine

/-- A lane instruction issues for the group of a slot: the group is resident, active and not held, the instruction waits for
nothing, and the issue rules of R150 and R151 let it issue in this cycle. -/
structure Issues (i : Instr) (s : State) (t slot : Nat) (g : Group) : Prop where
  runs : runnable s t slot = some g
  free : issueHold i s g = none
  ok : issueOk s t slot g (issueOf i) = true

/-- The state in which an instruction of a slot has issued: its count raised and what the issue rules keep of it noted, and
nothing else changed. -/
def noted (i : Instr) (s : State) (t slot : Nat) (g : Group) : State := noteIssue s t slot g.pc (issueOf i)

/-- The state in which an instruction of a slot has issued and its group `g` has become `g'`, and nothing else changed. -/
def issued (i : Instr) (s : State) (t slot : Nat) (g g' : Group) : State := putGroup (noted i s t slot g) t slot (some g')

/-- The same where conditions, addresses or indexes were used: those of the lanes `ls` are poisoned, which is recorded, captured
and consumed (R161). -/
def issuedUse (i : Instr) (s : State) (t slot : Nat) (g : Group) (ls : List Nat) (g' : Group) : State :=
  putGroup (usePoison (noted i s t slot g) t slot g.pc ls) t slot (some g')

/-- A group becomes another by writing a function's value into every active lane of one vector register and moving past the
instruction; every other lane and every other field of the group stays. -/
structure VecDone (g g' : Group) (d : Nat) (fn : Nat → LaneVal) : Prop where
  lanes : ∀ r l, vGet g' r l = if r = d ∧ l < 32 ∧ inMask g.mask l = true then fn l else vGet g r l
  rest : { g' with vreg := g.vreg } = { g with pc := g.pc + 8 }

/-- The same for one scalar register. -/
structure ScalDone (g g' : Group) (d : Nat) (x : ScalVal) : Prop where
  regs : ∀ r, sGet g' r = if r = d then x else sGet g r
  rest : { g' with sreg := g.sreg } = { g with pc := g.pc + 8 }

end Machine

end Sys2Proof
end

