-- ==== Sys2Proof/Certificates/Slice0/Obligations.lean ====
section
/-!
DEFINITION. The statements about the model that are to be proved, with the tables they are read from. A statement names
the rule of the spec it formalises; a row's completion is stated as the next state it answers.
-/
open Sys2Proof Sys2Proof.Machine

namespace Sys2Proof.Claims

/-! ## The lane unit (06) -/

/-- Whether the result of an operation of `n` sources is poisoned: any source is (R105). -/
def anyPoison (n : Nat) (a b c : LaneVal) : Bool := a.poison || (decide (2 ≤ n) && b.poison) || (decide (3 ≤ n) && c.poison)

/-- The integer vector instructions of Table: Opcodes: sources and the value in a lane. -/
def integerOps : List ((Nat → Nat → RForm → Instr) × Nat × (W32 → W32 → W32 → W32)) :=
  [(.iadd, 2, fun a b _ => a + b), (.isub, 2, fun a b _ => a - b), (.imul, 2, fun a b _ => a * b),
   (.imad, 3, fun a b c => a * b + c), (.and, 2, fun a b _ => a &&& b), (.or, 2, fun a b _ => a ||| b),
   (.xor, 2, fun a b _ => a ^^^ b), (.shl, 2, fun a b _ => a <<< (b.toNat % 32)),
   (.shr, 2, fun a b _ => a >>> (b.toNat % 32)), (.sar, 2, fun a b _ => a.sshiftRight (b.toNat % 32)),
   (.imin, 2, fun a b _ => if b.slt a then b else a), (.imax, 2, fun a b _ => if a.slt b then b else a),
   (.mov, 1, fun a _ _ => a)]

/-- A compare condition of ICMP and SCMP (Table: Compare conditions); UN is for FCMP alone. -/
def compares {n : Nat} (cc : Nat) (a b : BitVec n) : Bool :=
  match cc with
  | 0 => a == b
  | 1 => a != b
  | 2 => a.slt b
  | 3 => a.sle b
  | 4 => b.slt a
  | 5 => b.sle a
  | 7 => a.ult b
  | _ => false

/-- The rounded FP32 instructions (R102): sources and the value in a lane under a rounding mode. -/
def roundedOps : List ((Nat → Nat → RForm → Instr) × Nat × (RMode → W32 → W32 → W32 → W32)) :=
  [(.fadd, 2, fun m a b _ => fAdd m a b), (.fsub, 2, fun m a b _ => fSub m a b), (.fmul, 2, fun m a b _ => fMul m a b),
   (.ffma, 3, fun m a b c => fFma m a b c), (.fdiv, 2, fun m a b _ => fDiv m a b),
   (.frcp, 1, fun m a _ _ => fDiv m 0x3F800000 a), (.frsq, 1, fun m a _ _ => fRsqrt m a),
   (.i2f, 1, fun m a _ _ => toFp32 m (ofInt a.toInt)), (.f2i, 1, fun m a _ _ => f2i m a)]

/-- The FP32 instructions that do not round by RND. -/
def plainFloatOps : List ((Nat → Nat → RForm → Instr) × Nat × (W32 → W32 → W32)) :=
  [(.fmin, 2, fMin), (.fmax, 2, fMax), (.fexp2, 1, fun a _ => fExp2 a), (.flog2, 1, fun a _ => fLog2 a)]

/-- Every instruction of the lane unit whose result is a vector register in an R format. -/
def vectorOps : List (Nat → Nat → RForm → Instr) :=
  integerOps.map (·.1) ++ roundedOps.map (·.1) ++ plainFloatOps.map (·.1) ++ [.cvtf, .cvtn, .sel, .shfl]

/-- The scalar instructions of two sources: the value of the 64-bit result. -/
def scalarOps : List ((Nat → Nat → RForm → Instr) × (W64 → W64 → W64)) :=
  [(.sadd, fun a b => a + b), (.ssub, fun a b => a - b), (.smul, fun a b => a * b), (.sand, fun a b => a &&& b),
   (.sor, fun a b => a ||| b), (.sxor, fun a b => a ^^^ b), (.sshl, fun a b => a <<< (b.toNat % 64)),
   (.sshr, fun a b => a >>> (b.toNat % 64)), (.ssar, fun a b => a.sshiftRight (b.toNat % 64)),
   (.smin, fun a b => if b.slt a then b else a), (.smax, fun a b => if a.slt b then b else a)]

/-- The instructions of the lane unit by format. -/
def rInstrs : List (Nat → Nat → RForm → Instr) :=
  vectorOps ++ scalarOps.map (fun p => p.1) ++ [.fcmp, .icmp, .scmp, .smov, .any, .all, .mask, .mma, .mma4]
def iInstrs : List (Nat → Nat → IForm → Instr) :=
  [.nop, .rdsr, .barg, .bart, .barn, .fenceRelease, .fenceAcquire, .fenceFull, .movi, .smovi]
def mInstrs : List (Nat → Nat → MForm → Instr) := [.take, .give, .mwld, .ld, .st, .lds, .sts, .aadd, .amax, .acas, .pref]
def cInstrs : List (Nat → Nat → CForm → Instr) := [.exit, .bra, .brs, .yield, .push, .brk, .rcv, .pop, .macq, .mrel, .mwsw]

/-- Every instruction of the lane unit, of every format. -/
def laneInstrs (t slot : Nat) (r : RForm) (i : IForm) (m : MForm) (c : CForm) : List Instr :=
  rInstrs.map (fun k => k t slot r) ++ iInstrs.map (fun k => k t slot i) ++ mInstrs.map (fun k => k t slot m) ++
    cInstrs.map (fun k => k t slot c)

end Sys2Proof.Claims

open Sys2Proof.Claims

/-- R184, R149: an integer vector instruction with an accepted form and a vector destination writes its value in every active
lane of vD, with the poison of its sources (R105), moves past itself, and changes nothing else but what its issue notes: the count
of issued instructions and the books of the issue rules. A poisoned index of SHFL is recorded and reads lane 0. -/
def Obligations.LaneIntegerVector : Prop :=
  ∀ (t slot : Nat) (f : RForm) (s : State) (g : Group), rBad f = false → f.dS = false →
    let a := operand g f.a f.aS
    let b := operand g f.b f.bS
    let c := operand g f.c f.cS
    (∀ p ∈ integerOps, Issues (p.1 t slot f) s t slot g → ∃ g', exec (p.1 t slot f) s = .next (issued (p.1 t slot f) s t slot g g') ∧
      VecDone g g' f.d.toNat (fun l => ⟨p.2.2 (a l).v (b l).v (c l).v, anyPoison p.2.1 (a l) (b l) (c l)⟩)) ∧
    (f.cc ≠ 6 → Issues (.icmp t slot f) s t slot g → ∃ g', exec (.icmp t slot f) s = .next (issued (.icmp t slot f) s t slot g g') ∧
      VecDone g g' f.d.toNat (fun l =>
        ⟨if compares f.cc.toNat (a l).v (b l).v then 1 else 0, anyPoison 2 (a l) (b l) (c l)⟩)) ∧
    (Issues (.sel t slot f) s t slot g → ∃ g', exec (.sel t slot f) s = .next (issued (.sel t slot f) s t slot g g') ∧
      VecDone g g' f.d.toNat (fun l =>
        ⟨if (a l).v ≠ 0 ∧ (a l).poison = false then (b l).v else (c l).v, anyPoison 3 (a l) (b l) (c l)⟩)) ∧
    (Issues (.shfl t slot f) s t slot g → ∃ g', exec (.shfl t slot f) s =
        .next (issuedUse (.shfl t slot f) s t slot g ((activeLanes g).filter (fun l => (b l).poison)) g') ∧
      VecDone g g' f.d.toNat (fun l => a (if (b l).poison then 0 else (b l).v.toNat % 32)))

/-- R101, R102, R184: an FP32 vector instruction with an accepted form and a vector destination writes its value under the
rounding mode of RND in every active lane, with the poison of its sources. A stochastic mode draws an open word for each lane
(the model's choice, assumption 31) and counts the draw in the group; CVTN under it draws the word of R99 where C is a scalar.
FCMP with a NaN is true for NE and UN alone. -/
def Obligations.LaneFloatVector : Prop :=
  ∀ (t slot : Nat) (f : RForm) (s : State) (g : Group), rBad f = false → f.dS = false →
    let a := operand g f.a f.aS
    let b := operand g f.b f.bS
    let c := operand g f.c f.cS
    (∀ p ∈ roundedOps, Issues (p.1 t slot f) s t slot g → ∃ g', exec (p.1 t slot f) s = .next (issued (p.1 t slot f) s t slot g g') ∧
      VecDone (if f.rnd = 2 then drew g else g) g' f.d.toNat (fun l =>
        ⟨p.2.2 (laneMode (noted (p.1 t slot f) s t slot g) t g f l) (a l).v (b l).v (c l).v, anyPoison p.2.1 (a l) (b l) (c l)⟩)) ∧
    (∀ p ∈ plainFloatOps, Issues (p.1 t slot f) s t slot g → ∃ g',
      exec (p.1 t slot f) s = .next (issued (p.1 t slot f) s t slot g g') ∧
      VecDone g g' f.d.toNat (fun l => ⟨p.2.2 (a l).v (b l).v, anyPoison p.2.1 (a l) (b l) (c l)⟩)) ∧
    (f.cc ≠ 7 → Issues (.fcmp t slot f) s t slot g → ∃ g', exec (.fcmp t slot f) s = .next (issued (.fcmp t slot f) s t slot g g') ∧
      VecDone g g' f.d.toNat (fun l =>
        ⟨if cmpF f.cc.toNat (a l).v (b l).v then 1 else 0, anyPoison 2 (a l) (b l) (c l)⟩)) ∧
    (Issues (.cvtf t slot f) s t slot g → ∃ g', exec (.cvtf t slot f) s = .next (issued (.cvtf t slot f) s t slot g g') ∧
      VecDone g g' f.d.toNat (fun l => ⟨cvtF f.fmt.toNat (a l).v, (a l).poison⟩)) ∧
    (Issues (.cvtn t slot f) s t slot g →
      (f.rnd ≠ 2 → ∃ g', exec (.cvtn t slot f) s = .next (issued (.cvtn t slot f) s t slot g g') ∧
        VecDone g g' f.d.toNat (fun l => ⟨cvtN f.fmt.toNat (modeOf f.rnd.toNat 0) (a l).v, (a l).poison⟩)) ∧
      (f.rnd = 2 → f.cS = true → ∃ g', exec (.cvtn t slot f) s = .next (issued (.cvtn t slot f) s t slot g g') ∧
        VecDone g g' f.d.toNat (fun l =>
          ⟨cvtN f.fmt.toNat (modeOf 2 (drawWord s.act.seed (b l).v.toNat ((sGet g f.c.toNat).v.toNat % 65536) t 1
              (getF s F.SEG_STEP_STEP 0))) (a l).v, anyPoison 3 (a l) (b l) (c l)⟩)) ∧
      (f.rnd = 2 → f.cS = false → ∃ g', exec (.cvtn t slot f) s = .next (issued (.cvtn t slot f) s t slot g g') ∧
        VecDone (drew g) g' f.d.toNat (fun l =>
          ⟨cvtN f.fmt.toNat (modeOf 2 (laneWord (noted (.cvtn t slot f) s t slot g) t g l).toNat) (a l).v,
            anyPoison 3 (a l) (b l) (c l)⟩)))

/-- R105, R149, R184: a scalar instruction with an accepted form on registers s0 to s31 writes its 64-bit value and its
sources' poison in its destination, moves past itself and changes nothing else but what its issue notes. SMOVI sign-extends; RDSR
reads the values that Table: Special values numbers; MASK, ANY and ALL read the active mask and the lanes' conditions, and a
poisoned condition is recorded and false. MOVI writes IMM in every active lane, and NOP moves past itself. -/
def Obligations.LaneScalar : Prop :=
  ∀ (t slot : Nat) (f : RForm) (i : IForm) (s : State) (g : Group),
    (rBad f = false → f.d.toNat < 32 → f.a.toNat < 32 →
      let a := sGet g f.a.toNat
      let b := sGet g f.b.toNat
      (f.b.toNat < 32 → ∀ p ∈ scalarOps, Issues (p.1 t slot f) s t slot g → ∃ g',
        exec (p.1 t slot f) s = .next (issued (p.1 t slot f) s t slot g g') ∧
        ScalDone g g' f.d.toNat ⟨p.2 a.v b.v, a.poison || b.poison⟩) ∧
      (f.b.toNat < 32 → f.cc ≠ 6 → Issues (.scmp t slot f) s t slot g → ∃ g',
        exec (.scmp t slot f) s = .next (issued (.scmp t slot f) s t slot g g') ∧
        ScalDone g g' f.d.toNat ⟨if compares f.cc.toNat a.v b.v then 1 else 0, a.poison || b.poison⟩) ∧
      (Issues (.smov t slot f) s t slot g → ∃ g', exec (.smov t slot f) s = .next (issued (.smov t slot f) s t slot g g') ∧
        ScalDone g g' f.d.toNat a)) ∧
    (rBad f = false → f.d.toNat < 32 →
      let a := operand g f.a f.aS
      let p := (activeLanes g).filter (fun l => (a l).poison)
      let true_ := fun l => decide ((a l).v ≠ 0) && !(a l).poison
      (Issues (.mask t slot f) s t slot g → ∃ g', exec (.mask t slot f) s = .next (issued (.mask t slot f) s t slot g g') ∧
        ScalDone g g' f.d.toNat ⟨g.mask.setWidth 64, false⟩) ∧
      (Issues (.any t slot f) s t slot g → ∃ g', exec (.any t slot f) s = .next (issuedUse (.any t slot f) s t slot g p g') ∧
        ScalDone g g' f.d.toNat ⟨if (activeLanes g).any true_ then 1 else 0, false⟩) ∧
      (Issues (.all t slot f) s t slot g → ∃ g', exec (.all t slot f) s = .next (issuedUse (.all t slot f) s t slot g p g') ∧
        ScalDone g g' f.d.toNat ⟨if (activeLanes g).all true_ then 1 else 0, false⟩)) ∧
    (iBad i = false → i.d.toNat < 32 →
      (Issues (.smovi t slot i) s t slot g → ∃ g', exec (.smovi t slot i) s = .next (issued (.smovi t slot i) s t slot g g') ∧
        ScalDone g g' i.d.toNat ⟨i.imm.signExtend 64, false⟩) ∧
      (Issues (.rdsr t slot i) s t slot g →
        ∀ v, (i.imm.toNat, v) ∈ [(0, nowNs s), (1, getF s F.SEG_STEP_STEP 0), (2, segCycle s), (3, t), (4, slot)] →
        ∃ g', exec (.rdsr t slot i) s = .next (issued (.rdsr t slot i) s t slot g g') ∧
          ScalDone g g' i.d.toNat ⟨BitVec.ofNat 64 v, false⟩)) ∧
    (iBad i = false → i.dS = false → Issues (.movi t slot i) s t slot g → ∃ g',
      exec (.movi t slot i) s = .next (issued (.movi t slot i) s t slot g g') ∧ VecDone g g' i.d.toNat (fun _ => ⟨i.imm, false⟩)) ∧
    (iBad i = false → Issues (.nop t slot i) s t slot g →
      exec (.nop t slot i) s = .next (issued (.nop t slot i) s t slot g { g with pc := g.pc + 8 }))

/-- The model's choice (assumption 30): a vector instruction whose destination is flagged as a scalar register runs; that one
register takes a value the spec does not state, the group counts what it draws, and nothing else of it changes but the program
counter. MOVI into a scalar register writes IMM zero-extended. -/
def Obligations.LaneVectorToScalar : Prop :=
  ∀ (t slot : Nat) (f : RForm) (i : IForm) (s : State) (g : Group),
    (rBad f = false → f.dS = true → ∀ k ∈ vectorOps, Issues (k t slot f) s t slot g → ∃ ls n x g',
      exec (k t slot f) s = .next (issuedUse (k t slot f) s t slot g ls g') ∧ g.draws < n ∧
        ScalDone { g with draws := n } g' f.d.toNat x) ∧
    (rBad f = false → f.dS = true → ∀ k, (k = .fcmp t slot f ∧ f.cc ≠ 7 ∨ k = .icmp t slot f ∧ f.cc ≠ 6) → Issues k s t slot g →
      ∃ x g', exec k s = .next (issued k s t slot g g') ∧ ScalDone { g with draws := g.draws + 1 } g' f.d.toNat x) ∧
    (iBad i = false → i.dS = true → Issues (.movi t slot i) s t slot g → ∃ g',
      exec (.movi t slot i) s = .next (issued (.movi t slot i) s t slot g g') ∧ ScalDone g g' i.d.toNat ⟨i.imm.setWidth 64, false⟩)

/-- R148, R150, R151, R152: an instruction of a group that is not resident, not active, waiting, halted or paused changes nothing;
one that must be held is left to its hold; and one that the issue rules do not let issue in this cycle changes nothing. They let
no third instruction of a cycle issue, no second one on the same port alone, none whose source is not ready, and none before a group
that could issue and issued longer ago. -/
def Obligations.LaneWaits : Prop :=
  ∀ (t slot : Nat) (r : RForm) (i : IForm) (m : MForm) (c : CForm) (s : State),
    (∀ x ∈ laneInstrs t slot r i m c,
      (runnable s t slot = none → exec x s = .next s) ∧
      (∀ g v, runnable s t slot = some g → issueHold x s g = some v → exec x s = .next v) ∧
      (∀ g, runnable s t slot = some g → issueHold x s g = none → issueOk s t slot g (issueOf x) = false → exec x s = .next s)) ∧
    (∀ (g : Group) (k : Issue),
      (2 ≤ (issuesNow s t).length → issueOk s t slot g k = false) ∧
      (∀ j, issuesNow s t = [j] → ((j.k.x = false ∧ k.x = false) ∨ (j.k.y = false ∧ k.y = false)) → issueOk s t slot g k = false) ∧
      (∀ l ∈ (getLane s t).late, l.slot = slot → s.clk.laneCyc < l.at_ → l.reg ∈ k.reads → issueOk s t slot g k = false) ∧
      (∀ j h, j < 32 → (∀ x ∈ issuesNow s t, x.slot ≠ slot) → runnable s t j = some h → couldIssue s t j h = true →
        mget (getLane s t).last j 0 < mget (getLane s t).last slot 0 → issueOk s t slot g k = false))

/-- R184: a reserved field or code makes the group of the instruction fault with LANE_ILLEGAL: a reserved field of an R, I or C form,
a SIZE that a format code alone has or that only a scalar access has, a comparison code of the other kind, a register above s31
named as a scalar, a barrier or special value above the last, and a reserved instruction word. A word that is none is no event. -/
def Obligations.LaneReservedFaults : Prop :=
  ∀ (t slot : Nat) (r : RForm) (i : IForm) (m : MForm) (c : CForm) (w : W64) (s : State) (g : Group),
    let faults (x : Instr) : Prop := Issues x s t slot g → exec x s = .next (groupFault (noted x s t slot g) t slot C.LANE_ILLEGAL 0)
    (rBad r = true → ∀ k ∈ rInstrs, faults (k t slot r)) ∧
    (iBad i = true → ∀ k ∈ iInstrs, faults (k t slot i)) ∧
    (cBad c = true → ∀ k ∈ cInstrs, faults (k t slot c)) ∧
    (mBad m = true → ∀ k ∈ ([.take, .give, .ld, .st, .lds, .sts, .aadd, .amax, .acas, .pref] : List (Nat → Nat → MForm → Instr)),
      faults (k t slot m)) ∧
    (m.size = 3 → ∀ k ∈ ([.take, .give, .ld, .st, .aadd, .amax, .acas, .pref] : List (Nat → Nat → MForm → Instr)), faults (k t slot m)) ∧
    (32 ≤ m.d.toNat → faults (.lds t slot m) ∧ faults (.sts t slot m)) ∧
    (r.cc = 7 → faults (.fcmp t slot r)) ∧
    (r.cc = 6 → faults (.icmp t slot r) ∧ faults (.scmp t slot r)) ∧
    (32 ≤ r.d.toNat → ∀ k ∈ scalarOps.map (fun p => p.1) ++ [.scmp, .smov, .any, .all, .mask], faults (k t slot r)) ∧
    (32 ≤ r.a.toNat → ∀ k ∈ scalarOps.map (fun p => p.1) ++ [.scmp, .smov], faults (k t slot r)) ∧
    (32 ≤ r.b.toNat → ∀ k ∈ scalarOps.map (fun p => p.1) ++ [.scmp], faults (k t slot r)) ∧
    (32 ≤ i.d.toNat → faults (.rdsr t slot i) ∧ faults (.smovi t slot i)) ∧
    (5 ≤ i.imm.toNat → faults (.rdsr t slot i)) ∧
    (4 ≤ i.imm.toNat → faults (.barg t slot i)) ∧ (8 ≤ i.imm.toNat → faults (.bart t slot i)) ∧
    (64 ≤ i.imm.toNat → faults (.barn t slot i)) ∧
    (32 ≤ c.c.toNat → faults (.brs t slot c)) ∧
    (decodeLane t slot w = none → faults (.reservedInstruction t slot w)) ∧
    ((decodeLane t slot w).isSome → exec (.reservedInstruction t slot w) s = .next s)

/-- R146, R153, R154, R161, R184: control flow. BRA and BRS branch by OFF1 and OFF2 together, BRS when its scalar is nonzero and
not poisoned; YIELD leaves the active set. The mask stack acts as Table: Mask stack instructions gives, and faults with
MASK_OVERFLOW or MASK_UNDERFLOW where it has no room or no entry. -/
def Obligations.LaneControl : Prop :=
  ∀ (t slot : Nat) (f : CForm) (s : State) (g : Group), cBad f = false →
    let c := condMask g f.c f.cS
    let no := g.mask &&& ~~~c.1
    let need := if no = 0 then 1 else 2
    let rp := MaskEntry.rejoin g.mask (branchTo g.pc f.off2.toInt + 8)
    (Issues (.push t slot f) s t slot g →
      (g.stack.length + need ≤ 16 → c.1 ≠ 0 → exec (.push t slot f) s = .next (issuedUse (.push t slot f) s t slot g c.2 { g with
        stack := (if no = 0 then [] else [.pend no (branchTo g.pc f.off1.toInt)]) ++ rp :: g.stack
        mask := c.1
        pc := g.pc + 8 })) ∧
      (g.stack.length + need ≤ 16 → c.1 = 0 → g.mask ≠ 0 → exec (.push t slot f) s =
        .next (issuedUse (.push t slot f) s t slot g c.2 { g with
          stack := rp :: g.stack, mask := g.mask &&& ~~~g.exited, pc := branchTo g.pc f.off1.toInt })) ∧
      (16 < g.stack.length + need → exec (.push t slot f) s =
        .next (groupFault (issuedUse (.push t slot f) s t slot g c.2 g) t slot C.MASK_OVERFLOW 0))) ∧
    (Issues (.brk t slot f) s t slot g →
      (no ≠ 0 → exec (.brk t slot f) s = .next (issuedUse (.brk t slot f) s t slot g c.2 { g with
        mask := no, stack := joinRejoin c.1 g.stack, pc := g.pc + 8 })) ∧
      (∀ m a r, (joinRejoin c.1 g.stack = .rejoin m a :: r ∨ joinRejoin c.1 g.stack = .pend m a :: r) → no = 0 →
        exec (.brk t slot f) s = .next (issuedUse (.brk t slot f) s t slot g c.2 { g with
          mask := m &&& ~~~g.exited, pc := a, stack := r }))) ∧
    (Issues (.rcv t slot f) s t slot g →
      (∀ m a r, (g.stack = .rejoin m a :: r ∨ g.stack = .pend m a :: r) → exec (.rcv t slot f) s =
        .next (issued (.rcv t slot f) s t slot g { g with mask := m &&& ~~~g.exited, pc := a, stack := r })) ∧
      (∀ m a b r, g.stack = .waiting m a b :: r → exec (.rcv t slot f) s =
        .next (leaveActive (noted (.rcv t slot f) s t slot g) t slot g .stackWait)) ∧
      (g.stack = [] → exec (.rcv t slot f) s = .next (groupFault (noted (.rcv t slot f) s t slot g) t slot C.MASK_UNDERFLOW 0))) ∧
    (Issues (.pop t slot f) s t slot g →
      (∀ e r, g.stack = e :: r → exec (.pop t slot f) s =
        .next (issued (.pop t slot f) s t slot g { g with stack := r, pc := g.pc + 8 })) ∧
      (g.stack = [] → exec (.pop t slot f) s = .next (groupFault (noted (.pop t slot f) s t slot g) t slot C.MASK_UNDERFLOW 0))) ∧
    (Issues (.bra t slot f) s t slot g → exec (.bra t slot f) s =
      .next (issued (.bra t slot f) s t slot g { g with pc := branchTo g.pc (f.off2 ++ f.off1).toInt })) ∧
    (Issues (.brs t slot f) s t slot g → f.c.toNat < 32 → exec (.brs t slot f) s =
      .next (issuedUse (.brs t slot f) s t slot g (if (sGet g f.c.toNat).poison then [0] else [])
        { g with pc := if (sGet g f.c.toNat).v ≠ 0 ∧ (sGet g f.c.toNat).poison = false
                       then branchTo g.pc (f.off2 ++ f.off1).toInt else g.pc + 8 })) ∧
    (Issues (.yield t slot f) s t slot g → ∃ v a, exec (.yield t slot f) s = .next v ∧
      getGroup v t slot = some { g with pc := g.pc + 8, active := a, since := s.clk.laneCyc })

/-- R147, R155, R166: EXIT takes the active lanes out of the group for good. With every lane gone the group ends and its slot
is free; otherwise the group goes on from the top of its mask stack, its lanes less those that have exited; a lane that still holds
a lock frees it and makes the group fault with LOCK_LEFT. -/
def Obligations.LaneExit : Prop :=
  ∀ (t slot : Nat) (f : CForm) (s : State) (g : Group), Issues (.exit t slot f) s t slot g → cBad f = false →
    let w := noted (.exit t slot f) s t slot g
    let left := g.locks.filter (fun x => inMask g.mask x.2)
    (left = [] → g.exited ||| g.mask = 0xFFFFFFFF → exec (.exit t slot f) s = .next (afterEnd (endGroup w t slot) t g.task)) ∧
    getGroup (endGroup w t slot) t slot = none ∧
    (∀ m a r, left = [] → g.exited ||| g.mask ≠ 0xFFFFFFFF → (g.stack = .pend m a :: r ∨ g.stack = .rejoin m a :: r) →
      (∀ b, waitingLanes b r = 0) → exec (.exit t slot f) s = .next (issued (.exit t slot f) s t slot g { g with
        exited := g.exited ||| g.mask, mask := m &&& ~~~g.mask &&& ~~~(g.exited ||| g.mask), pc := a,
        stack := r.map (dropLanes g.mask) })) ∧
    (left ≠ [] → ∃ l, (∃ x ∈ left, x.2 = l) ∧ (∀ x ∈ left, l ≤ x.2) ∧ exec (.exit t slot f) s =
      .next (groupFault (putGroup (freeLocks w t left) t slot (some { g with
        locks := g.locks.filter (fun x => !inMask g.mask x.2) })) t slot C.LOCK_LEFT l))

/-- R156 to R161, R183: loads and prefetches. A focal load of accepted form and addresses writes what its words hold, zero
extended and with their marks, in each active lane, where the words decode without an error; a lane whose address is poisoned gets
0 with the flag. A global load whose lines are cached completes from them; one that misses leaves the active set until its lines
return. A bad address of a lane makes the group fault with LANE_ADDRESS. PREF brings the global lines and writes no register. -/
def Obligations.LaneLoads : Prop :=
  ∀ (t slot : Nat) (f : MForm) (s : State) (g : Group), mBad f = false →
    let n := sizeBytes f.size.toNat
    let ps := poisonAddrs g f
    let sa := laneAddr g { f with vx := false } 0
    let used (i : Instr) : State := usePoison (noted i s t slot g) t slot g.pc ps
    let quiet (v : State) (a : Nat) : Prop := (readWord v (focalAddr t a / 32 * 32)).1 = .clean ∨
      (readWord v (focalAddr t a / 32 * 32)).1 = .poisoned
    (Issues (.ld t slot f) s t slot g → f.size ≠ 3 →
      let u := used (.ld t slot f)
      (f.space = 0 → firstBad u g f n = none → (∀ x ∈ laneOffs g f, quiet u x.2) → ∃ g',
        exec (.ld t slot f) s = .next (issuedUse (.ld t slot f) s t slot g ps g') ∧
          VecDone g g' f.d.toNat (fun l => if (laneAddr g f l).2 then ⟨0, true⟩ else
            let r := readBytes u (focalAddr t (laneAddr g f l).1) n
            ⟨BitVec.ofNat 32 (leNat r.1), r.2.any id⟩)) ∧
      (f.space = 1 → firstBad u g f n = none → (∀ x ∈ laneOffs g f, (lcFind (getLane u t) (x.2 / 256 * 256)).isSome) →
        ∃ v g', exec (.ld t slot f) s = .next v ∧ getGroup v t slot = some g' ∧ g'.pc = g.pc + 8 ∧
          v.store = u.store ∧ v.deep = u.deep) ∧
      (f.space = 1 → firstBad u g f n = none → (∃ x ∈ laneOffs g f, lcFind (getLane u t) (x.2 / 256 * 256) = none) →
        ∃ v g', exec (.ld t slot f) s = .next v ∧ getGroup v t slot = some g' ∧ g'.pc = g.pc ∧ g'.active = false ∧
          g'.wait = .globalLoad) ∧
      (∀ l, firstBad u g f n = some l → exec (.ld t slot f) s = .next (groupFault u t slot C.LANE_ADDRESS l))) ∧
    (Issues (.lds t slot f) s t slot g → f.d.toNat < 32 →
      let w := noted (.lds t slot f) s t slot g
      (sa.2 = true → ∃ g', exec (.lds t slot f) s = .next (issuedUse (.lds t slot f) s t slot g [0] g') ∧
        ScalDone g g' f.d.toNat ⟨0, true⟩) ∧
      (f.space = 0 → sa.2 = false → laneAddrNeg g { f with vx := false } 0 = false → badAddr w 0 sa.1 n = false → quiet w sa.1 →
        ∃ g', exec (.lds t slot f) s = .next (issued (.lds t slot f) s t slot g g') ∧
          ScalDone g g' f.d.toNat ⟨BitVec.ofNat 64 (leNat (readBytes w (focalAddr t sa.1) n).1),
            (readBytes w (focalAddr t sa.1) n).2.any id⟩) ∧
      (f.space = 1 → sa.2 = false → laneAddrNeg g { f with vx := false } 0 = false → badAddr w 1 sa.1 n = false →
        exec (.lds t slot f) s = .next (globalLoad w t slot g f.d.toNat f.size.toNat true false [(0, sa.1)])) ∧
      (sa.2 = false → (laneAddrNeg g { f with vx := false } 0 = true ∨ badAddr w f.space.toNat sa.1 n = true) →
        exec (.lds t slot f) s = .next (groupFault w t slot C.LANE_ADDRESS 0))) ∧
    (Issues (.pref t slot f) s t slot g → f.size ≠ 3 →
      let u := used (.pref t slot f)
      (f.space = 0 → firstBad u g f n = none →
        exec (.pref t slot f) s = .next (issuedUse (.pref t slot f) s t slot g ps { g with pc := g.pc + 8 })) ∧
      (f.space = 1 → firstBad u g f n = none →
        exec (.pref t slot f) s = .next (globalLoad u t slot g 0 f.size.toNat false true (laneOffs g f))) ∧
      (∀ l, firstBad u g f n = some l → exec (.pref t slot f) s = .next (groupFault u t slot C.LANE_ADDRESS l)))

/-- R156 to R161, R299: stores. Each active lane with an unpoisoned address stores its low bytes with its mark, in ascending
lane order; a focal store is done at once, a global one leaves for its home slice and is counted until it is accepted. A bad
address makes the group fault with LANE_ADDRESS and nothing is stored. -/
def Obligations.LaneStores : Prop :=
  ∀ (t slot : Nat) (f : MForm) (s : State) (g : Group), mBad f = false →
    let n := sizeBytes f.size.toNat
    let ps := poisonAddrs g f
    let sa := laneAddr g { f with vx := false } 0
    let x := sGet g f.d.toNat
    let bytes (l : Nat) : List Byte := leBytes (vGet g f.d.toNat l).v.toNat n
    let far := { g with stores := g.stores + (laneOffs g f).length }
    (Issues (.st t slot f) s t slot g → f.size ≠ 3 →
      let u := usePoison (noted (.st t slot f) s t slot g) t slot g.pc ps
      (f.space = 0 → firstBad u g f n = none → exec (.st t slot f) s =
        .next (putGroup ((laneOffs g f).foldl (fun v e => laneStore v t e.2 (bytes e.1) (vGet g f.d.toNat e.1).poison (f.size == 2)) u)
          t slot (some { g with pc := g.pc + 8 }))) ∧
      (f.space = 1 → firstBad u g f n = none → exec (.st t slot f) s =
        .next ((laneOffs g f).foldl (fun v e =>
            globalStore v t slot far e.2 (bytes e.1) (vGet g f.d.toNat e.1).poison (f.size == 2))
          (putGroup u t slot (some { far with pc := g.pc + 8 })))) ∧
      (∀ l, firstBad u g f n = some l → exec (.st t slot f) s = .next (groupFault u t slot C.LANE_ADDRESS l))) ∧
    (Issues (.sts t slot f) s t slot g → f.d.toNat < 32 →
      let w := noted (.sts t slot f) s t slot g
      (sa.2 = true → exec (.sts t slot f) s = .next (issuedUse (.sts t slot f) s t slot g [0] { g with pc := g.pc + 8 })) ∧
      (f.space = 0 → sa.2 = false → laneAddrNeg g { f with vx := false } 0 = false → badAddr w 0 sa.1 n = false →
        exec (.sts t slot f) s =
          .next (putGroup (laneStore w t sa.1 (leBytes x.v.toNat n) x.poison false) t slot (some { g with pc := g.pc + 8 }))) ∧
      (f.space = 1 → sa.2 = false → laneAddrNeg g { f with vx := false } 0 = false → badAddr w 1 sa.1 n = false →
        exec (.sts t slot f) s = .next (globalStore (putGroup w t slot (some { g with pc := g.pc + 8, stores := g.stores + 1 }))
          t slot { g with stores := g.stores + 1 } sa.1 (leBytes x.v.toNat n) x.poison false)) ∧
      (sa.2 = false → (laneAddrNeg g { f with vx := false } 0 = true ∨ badAddr w f.space.toNat sa.1 n = true) →
        exec (.sts t slot f) s = .next (groupFault w t slot C.LANE_ADDRESS 0)))

/-- R160, R162 to R166: TAKE, GIVE and the atomics. With any number of active lanes whose addresses are focal words, TAKE and the
atomics move past themselves and write no register but vD. With one active lane, the address of a word that reads without an event:
TAKE locks a free word unless the group holds eight, answers 1 for a word its own group holds and 2 for another's; GIVE frees the
word it holds and faults with LOCK_NOT_HELD otherwise; an atomic returns the old word and stores the new one. -/
def Obligations.LaneAtomics : Prop :=
  ∀ (t slot : Nat) (f : MForm) (s : State) (g : Group), mBad f = false → f.size ≠ 3 →
    (∀ k ∈ ([.take, .aadd, .amax, .acas] : List (Nat → Nat → MForm → Instr)), Issues (k t slot f) s t slot g →
      focalBad (usePoison (noted (k t slot f) s t slot g) t slot g.pc (poisonAddrs g f)) g f 4 = none →
      ∃ v h, exec (k t slot f) s = .next v ∧ getGroup v t slot = some h ∧ h.pc = g.pc + 8 ∧ h.mask = g.mask ∧ h.stack = g.stack ∧
        h.sreg = g.sreg ∧ ∀ r l, r ≠ f.d.toNat → vGet h r l = vGet g r l) ∧
    (∀ k ∈ ([.take, .give, .aadd, .amax, .acas] : List (Nat → Nat → MForm → Instr)), Issues (k t slot f) s t slot g →
      ∀ l, focalBad (usePoison (noted (k t slot f) s t slot g) t slot g.pc (poisonAddrs g f)) g f 4 = some l →
      exec (k t slot f) s =
        .next (groupFault (usePoison (noted (k t slot f) s t slot g) t slot g.pc (poisonAddrs g f)) t slot C.LANE_ADDRESS l)) ∧
    ∀ l a, activeLanes g = [l] → laneAddr g f l = (a, false) → focalBad s g f 4 = none →
      let x := vGet g f.d.toNat l
      let y := vGet g (f.d.toNat + 1) l
      let word := focalWord s t a
      let old : W32 := BitVec.ofNat 32 word
      let mark := (readBytes s (focalAddr t a) 4).2.any id
      let answer (h : Group) (v : W32) : Group := { vPut h f.d.toNat l ⟨v, false⟩ with pc := g.pc + 8 }
      (Issues (.take t slot f) s t slot g →
        let w := noted (.take t slot f) s t slot g
        (word = 0 → g.locks.length < 8 → exec (.take t slot f) s = .next (putGroup (putFocal32 w t a (lockId slot l)) t slot
          (some (answer { g with locks := g.locks ++ [(a, l)], lockStart := none } 0)))) ∧
        (word = 0 → 8 ≤ g.locks.length → exec (.take t slot f) s = .next (issued (.take t slot f) s t slot g (answer g 3))) ∧
        (word ≠ 0 → (word < 0x80000000 ∨ (word - 0x80000000) / 32 ≠ slot) →
          exec (.take t slot f) s = .next (issued (.take t slot f) s t slot g (answer g 2))) ∧
        (0x80000000 ≤ word → (word - 0x80000000) / 32 = slot → ∃ c, exec (.take t slot f) s =
          .next (issued (.take t slot f) s t slot g (answer { g with lockStart := c } 1)))) ∧
      (Issues (.give t slot f) s t slot g →
        let w := noted (.give t slot f) s t slot g
        (word = lockId slot l → exec (.give t slot f) s = .next (putGroup (putFocal32 w t a 0) t slot (some { g with
          lockStart := none, locks := g.locks.filter (fun k => a != k.1), pc := g.pc + 8 }))) ∧
        (word ≠ lockId slot l → exec (.give t slot f) s = .next (groupFault w t slot C.LOCK_NOT_HELD l))) ∧
      (∀ w, (focalRead w t a 4).1 = w →
        let answer : Group := { vPut g f.d.toNat l ⟨old, mark⟩ with pc := g.pc + 8 }
        (Issues (.aadd t slot f) s t slot g → w = noted (.aadd t slot f) s t slot g → exec (.aadd t slot f) s =
          .next (putGroup (laneStore w t a (leBytes (if f.t then fAdd .rne old x.v else old + x.v).toNat 4)
            x.poison f.t) t slot (some answer))) ∧
        (Issues (.amax t slot f) s t slot g → w = noted (.amax t slot f) s t slot g → exec (.amax t slot f) s =
          .next (putGroup (laneStore w t a (leBytes (if f.t then fMax old x.v else if old.slt x.v then x.v else old).toNat 4)
            x.poison f.t) t slot (some answer))) ∧
        (Issues (.acas t slot f) s t slot g → w = noted (.acas t slot f) s t slot g → f.d ≠ 63 → exec (.acas t slot f) s =
          .next (putGroup (if old = x.v then laneStore w t a (leBytes y.v.toNat 4) (x.poison || y.poison) true else w)
            t slot (some answer))))

/-- R158, R167 to R171: fences and barriers. A release or full fence waits for the group's stores and then, the full one like an
acquire, drops the lane data cache. BARG completes when every lane has arrived or exited, and otherwise the lanes wait; BART and BARN
leave the active set and complete with the last group of the task; BARN of a tile that is no member faults. -/
def Obligations.LaneFencesBarriers : Prop :=
  ∀ (t slot : Nat) (f : IForm) (s : State) (g : Group), iBad f = false →
    let next := { g with pc := g.pc + 8 }
    let b := f.imm.toNat
    let start := if mget g.barStart b 0 = 0 then mput natLt g.barStart b (s.clk.laneCyc + 1) 0 else g.barStart
    (Issues (.fenceRelease t slot f) s t slot g →
      (g.stores = 0 → exec (.fenceRelease t slot f) s = .next (issued (.fenceRelease t slot f) s t slot g next)) ∧
      (g.stores ≠ 0 → exec (.fenceRelease t slot f) s =
        .next (issued (.fenceRelease t slot f) s t slot g { g with wait := .release }))) ∧
    (Issues (.fenceFull t slot f) s t slot g →
      (g.stores = 0 → exec (.fenceFull t slot f) s =
        .next (putGroup (dropLines (noted (.fenceFull t slot f) s t slot g) t) t slot (some next))) ∧
      (g.stores ≠ 0 → exec (.fenceFull t slot f) s =
        .next (issued (.fenceFull t slot f) s t slot g { g with wait := .fullRelease }))) ∧
    (Issues (.fenceAcquire t slot f) s t slot g → exec (.fenceAcquire t slot f) s =
      .next (putGroup (dropLines (noted (.fenceAcquire t slot f) s t slot g) t) t slot (some next))) ∧
    (Issues (.barg t slot f) s t slot g → b < 4 →
      (g.mask ||| g.exited ||| waitingLanes b g.stack = 0xFFFFFFFF → exec (.barg t slot f) s =
        .next (issued (.barg t slot f) s t slot g { next with stack := releaseBar b g.stack, barStart := merase g.barStart b })) ∧
      (g.mask ||| g.exited ||| waitingLanes b g.stack ≠ 0xFFFFFFFF →
        (∀ r, swapPending (.waiting g.mask (g.pc + 8) b) g.stack = some r → exec (.barg t slot f) s =
          .next (issued (.barg t slot f) s t slot g { g with
            stack := r.1, mask := r.2.1 &&& ~~~g.exited, pc := r.2.2, barStart := start })) ∧
        (swapPending (.waiting g.mask (g.pc + 8) b) g.stack = none → exec (.barg t slot f) s =
          .next (leaveActive (noted (.barg t slot f) s t slot g) t slot { g with barStart := start } (.groupBarrier b))))) ∧
    (Issues (.bart t slot f) s t slot g → b < 8 → ∃ v, exec (.bart t slot f) s =
        .next (checkTileBar (leaveActive v t slot g (.tileBarrier b)) t g.task b) ∧
      mget (getLane v t).tileBarStart (g.task, b) 0 ≠ 0 ∧ v.store = s.store ∧ v.lane.bars = s.lane.bars) ∧
    (Issues (.barn t slot f) s t slot g → b < 64 →
      ((mget s.lane.bars b {}).members.contains t = true → ∃ v, exec (.barn t slot f) s =
        .next (checkNamedBar (leaveActive v t slot g (.namedBarrier b)) t g.task b) ∧
        (mget v.lane.bars b {}).start.isSome ∧ v.store = s.store) ∧
      ((mget s.lane.bars b {}).members.contains t = false → exec (.barn t slot f) s =
        .next (groupFault (noted (.barn t slot f) s t slot g) t slot C.LANE_ILLEGAL 0)))

/-- R172 to R175: ownership of the arrays, weight sets and the fragment products. MACQ of a group that owns the arrays, or of an idle
datapath that no group waits for, goes on as owner, and waits otherwise; MREL ends ownership; MWLD loads the shadow from the
blocks it names, zeros with the flag where its base is poisoned, and faults outside the window; MWSW makes the shadow the active
set. MMA and MMA4 write no register but their four or sixteen and move past themselves; the model's choice (assumption 33): without
ownership or an active set, or with a pair that R43 and R45 shut out, the values they write are free. -/
def Obligations.LaneArrays : Prop :=
  ∀ (t slot : Nat) (c : CForm) (m : MForm) (f : RForm) (s : State) (g : Group),
    let a := getArr s t
    let next := { g with pc := g.pc + 8 }
    (cBad c = false →
      (Issues (.macq t slot c) s t slot g →
        (a.owner = some slot → exec (.macq t slot c) s = .next (issued (.macq t slot c) s t slot g next)) ∧
        (a.owner ≠ some slot → dpBusy s t = false → macqSlots s t = [] → exec (.macq t slot c) s =
          .next (putGroup (setArr (noted (.macq t slot c) s t slot g) t { a with owner := some slot }) t slot (some next))) ∧
        (a.owner ≠ some slot → (dpBusy s t = true ∨ macqSlots s t ≠ []) → exec (.macq t slot c) s =
          .next (issued (.macq t slot c) s t slot g { g with wait := .macq }))) ∧
      (Issues (.mrel t slot c) s t slot g →
        (a.owner = some slot → exec (.mrel t slot c) s =
          .next (putGroup (setArr (noted (.mrel t slot c) s t slot g) t { a with owner := none }) t slot (some next))) ∧
        (a.owner ≠ some slot → exec (.mrel t slot c) s = .next (issued (.mrel t slot c) s t slot g next))) ∧
      (Issues (.mwsw t slot c) s t slot g →
        (∀ x, a.shadow = some x → exec (.mwsw t slot c) s = .next
          (putGroup (setArr (noted (.mwsw t slot c) s t slot g) t { a with active := some x, shadow := none }) t slot (some next))) ∧
        (a.shadow = none → exec (.mwsw t slot c) s = .next (issued (.mwsw t slot c) s t slot g next)))) ∧
    (Issues (.mwld t slot m) s t slot g →
      let kc := kChunk (fmtClass m.size.toNat)
      let b := mwldBase g m
      (mwldBad g m = false → b.2 = false → ∃ v es, exec (.mwld t slot m) s =
          .next (putGroup (setArr v t { a with shadow := some { fmt := m.size.toNat, rows := kc, elems := es } }) t slot (some next)) ∧
        v.store = s.store ∧ es.length = 128 * kc ∧
        ∀ n k, n < 128 → k < kc → es[n * kc + k]? = some (if m.t then elemAt s t b.1 m.size.toNat kc n k
          else elemAt s t b.1 m.size.toNat 128 k n)) ∧
      (b.2 = true → let u := usePoison (noted (.mwld t slot m) s t slot g) t slot g.pc [0]
        exec (.mwld t slot m) s = .next (putGroup (setArr u t { getArr u t with
          shadow := some { fmt := m.size.toNat, rows := kc, elems := List.replicate (128 * kc) (0, true) } }) t slot (some next))) ∧
      (mwldBad g m = true → b.2 = false → exec (.mwld t slot m) s =
        .next (groupFault (noted (.mwld t slot m) s t slot g) t slot C.LANE_ADDRESS 0))) ∧
    (rBad f = false → f.dS = false → f.aS = false →
      (Issues (.mma t slot f) s t slot g → ∃ v h, exec (.mma t slot f) s = .next (putGroup v t slot (some h)) ∧ h.pc = g.pc + 8 ∧
        v.store = s.store ∧ v.arr = s.arr ∧ (∀ r l, (r < f.d.toNat ∨ f.d.toNat + 4 ≤ r) → vGet h r l = vGet g r l) ∧
        (∀ x, a.active = some x → a.owner = some slot → mmaPair f.fmt.toNat x.fmt = true →
          h = { (mmaArray g x f.fmt.toNat f.a.toNat f.arr.toNat f.d.toNat f.z (g, 0)).1 with pc := g.pc + 8 }) ∧
        ((∀ x, a.active = some x → a.owner = some slot → mmaPair f.fmt.toNat x.fmt = false) →
          v = noted (.mma t slot f) s t slot g ∧ h.draws = g.draws + 1)) ∧
      (Issues (.mma4 t slot f) s t slot g → ∃ v h, exec (.mma4 t slot f) s = .next (putGroup v t slot (some h)) ∧ h.pc = g.pc + 8 ∧
        v.store = s.store ∧ v.arr = s.arr ∧ (∀ r l, (r < f.d.toNat ∨ f.d.toNat + 16 ≤ r) → vGet h r l = vGet g r l) ∧
        ((∀ x, a.active = some x → a.owner = some slot → mmaPair f.fmt.toNat x.fmt = false) →
          v = noted (.mma4 t slot f) s t slot g ∧ h.draws = g.draws + 1)))

/-! ## Registers, events and stored data (00, 10, 18) -/

namespace Sys2Proof.Claims

/-- A register whose write has an effect of its own rather than that of its access codes. -/
def ownEffect (r : RegAt) : Bool :=
  [F.TWR_RESET_KEY, F.DBG_CTL_KEY, F.DBG_DATA_DATA, F.CHK_CTL_KEY, F.LAMP_CTL_KEY, F.FLT_CTL_ERRN_HOLD, F.FLT_WDOG_KEY,
    F.BOOT_CTL_COLD_NEXT].any (holds r) || isMin r

/-- What a write of `v` leaves in a part of a register by its access code; an RWS part changes only when `rws` holds. -/
def partAfter (s t : State) (u v : Nat) (rws : Bool) (p : RegPart) : Prop :=
  match p.acc with
  | .rw => bits (getF t p.fld u) p.src p.width = bits v p.lo p.width
  | .rws => if rws then bits (getF t p.fld u) p.src p.width = bits v p.lo p.width else getF t p.fld u = getF s p.fld u
  | .w1c => getF t p.fld u = if bits v p.lo p.width = 1 then 0 else getF s p.fld u
  | .ro => getF t p.fld u = getF s p.fld u
  | .wo => getF t p.fld u = getF s p.fld u

/-- A write to CHK_CTL that acts: its key, Bench and a word that exists (R306). -/
def chkActs (s : State) (v : W32) (op : Nat) : Prop :=
  bits v.toNat 16 16 = 0x0C4E ∧ bits v.toNat 0 3 = op ∧ inBench s = true ∧ chkPlace s (chkAddr s) = true

end Sys2Proof.Claims

/-- R5 to R7: a write reaches the register at its address. Away from the registers with an effect of their own, every part of
the register ends as its access code says, the RWS parts only while the image has not frozen them; and where no RWS part is
touched, nobody's change log is written and no value is replaced, nothing else changes. An address with no register
ignores the write. -/
def Obligations.RegisterWrites : Prop :=
  ∀ (addr : Nat) (value : W32) (origin : Nat) (s : State),
    (regAt addr = none → exec (.registerWrite addr value origin) s = .next s) ∧
    (∀ r, regAt addr = some r → ownEffect r = false →
      (∃ t, exec (.registerWrite addr value origin) s = .next t ∧
        ∀ p ∈ r.reg.parts, partAfter s t r.unit value.toNat (!frozen s) p) ∧
      ((∀ p ∈ r.reg.parts, p.acc ≠ .rws) → origin ≠ 3 → rwReplaced s (writeFields s r value.toNat origin) r = false →
        ∃ t, exec (.registerWrite addr value origin) s = .next t ∧ t = { s with sys := { s.sys with regs := t.sys.regs } } ∧
          ∀ f u, (u = r.unit → ∀ p ∈ r.reg.parts, p.fld.id ≠ f.id) → getF t f u = getF s f u) ∧
      (isMin r = false → (∃ p ∈ r.reg.parts, p.acc = .w1c) → ∃ t, exec (.captureRearm addr value) s = .next t ∧
        ∀ p ∈ r.reg.parts, partAfter s t r.unit value.toNat false p)) ∧
    (∀ r, regAt addr = some r → isMin r = true →
      (bits value.toNat 10 1 = 0 → exec (.minRecorderRearm addr value) s = .next s) ∧
      (bits value.toNat 10 1 = 1 → ∃ t, exec (.minRecorderRearm addr value) s = .next t ∧
        exec (.registerWrite addr value origin) s = .next t ∧
        (holds r F.TRIM_MIN_VALID = true → getF t F.TRIM_MIN_MIN r.unit = 0x3FF ∧ getF t F.TRIM_MIN_VALID r.unit = 0) ∧
        (holds r F.TRIM_MIN_VALID = false → getF t F.PWR_RAIL_MIN_MIN r.unit = 0x3FF ∧ getF t F.PWR_RAIL_MIN_VALID r.unit = 0) ∧
        t.store = s.store ∧ t.flt = s.flt))

/-- R6: a read of the _LO half of a read-only pair answers its word and latches the _HI half as it stands at that instant; it
changes nothing else, and a read of the _HI half afterwards gives what was latched, whatever happens to the field. -/
def Obligations.PairReads : Prop :=
  ∀ (addr : Nat) (s : State) (r : RegAt), regAt addr = some r →
    (r.reg.pair = .lo → ∃ t, exec (.pairLoRead addr) s = .next t ∧ t.sys.busRead = BitVec.ofNat 32 (wordNow s r) ∧
      t = { s with sys := { s.sys with latch := t.sys.latch, busRead := t.sys.busRead } } ∧
      ∀ p ∈ r.reg.parts, mget t.sys.latch (p.fld.id, r.unit) (highReset s p.fld) =
        bits (fieldNow s r.reg.block p.fld r.unit) (p.src + p.width) 32) ∧
    (r.reg.pair = .hi → readReg s addr = (s, if noPort s r.reg.block r.owner then 0
      else r.reg.parts.foldl (fun n p => n + mget s.sys.latch (p.fld.id, r.unit) (highReset s p.fld) % 2 ^ p.width * 2 ^ p.lo) 0))

/-- R505, R510 to R513: the recording of an event outside a failed compare of the collector. Its class counter stops at its largest
value and the worst class rises to it. An event of class DEGRADED or above is captured while the capture is armed, or in the tick of
the event captured where it goes before it by class, code and unit; another is not. It enters the history in the order of its tick, as
the newest where no event of the same tick goes after it, unless it is a repeat of class INFO or CORRECTED; from class STEP upwards
ERR_N is asserted and the 1 ms timer restarts; class STEP clears STEP_QUIET of the verdict, and class SAFE parks the device. -/
def Obligations.EventRecording : Prop :=
  ∀ (code cls unit origin : Nat) (s : State), s.flt.selfTick ≠ some (sidereal s) →
    let t := recordAs s code cls unit origin
    let e : Event := ⟨nowNs s, code, cls, unit, origin, sidereal s, []⟩
    let again : Prop := s.flt.firstTick = some (sidereal s) ∧ goesBefore e (firstEvent s) = true
    getF t F.FLT_COUNT_COUNT cls = min (getF s F.FLT_COUNT_COUNT cls + 1) (2 ^ F.FLT_COUNT_COUNT.width - 1) ∧
    (getF s F.FLT_STATUS_WORST 0 < 8 → cls < 8 → getF t F.FLT_STATUS_WORST 0 = max (getF s F.FLT_STATUS_WORST 0) cls) ∧
    (2 ≤ cls → cls < 8 → code < 65536 → unit < 65536 → nowNs s < 2 ^ 64 → (getB s F.FLT_FIRST_VALID 0 = false ∨ again) →
      getB t F.FLT_FIRST_VALID 0 = true ∧ getF t F.FLT_FIRST_CODE 0 = code ∧ getF t F.FLT_FIRST_CLASS 0 = cls ∧
      getF t F.FLT_FIRST_UNIT_UNIT 0 = unit ∧ getF t F.FLT_FIRST_TIME_TIME 0 = nowNs s ∧ t.flt.firstTick = some (sidereal s)) ∧
    ((cls < 2 ∨ (getB s F.FLT_FIRST_VALID 0 = true ∧ ¬again)) → ∀ f ∈ [F.FLT_FIRST_CODE, F.FLT_FIRST_CLASS, F.FLT_FIRST_ORIGIN,
      F.FLT_FIRST_VALID, F.FLT_FIRST_UNIT_UNIT, F.FLT_FIRST_TIME_TIME], getF t f 0 = getF s f 0) ∧
    (suppressed s code cls unit = false → t.flt.hist = (insertEvent e s.flt.hist).take 64 ∧
      ((∀ x ∈ s.flt.hist.head?, x.tick = e.tick → goesBefore e x = false) → t.flt.hist = (e :: s.flt.hist).take 64)) ∧
    (suppressed s code cls unit = true → t.flt.hist = s.flt.hist ∧ cls ≤ 1) ∧
    (3 ≤ cls → getB t F.FLT_STATUS_ERRN 0 = true ∧ getB t F.FLT_CTL_ERRN_HOLD 0 = true ∧ t.flt.errnEnd = some (elapsedNs s + 1000000)) ∧
    (cls ≤ 2 → t.store = s.store ∧ t.mer = s.mer ∧ t.clk = s.clk ∧ t.pwr = s.pwr ∧ t.eph = s.eph) ∧
    (cls = 3 → (phase s = 1 ∨ phase s = 2) → t.mer.verdict = s.mer.verdict &&& (127 - 2 ^ vStepQuiet)) ∧
    (cls = 5 → devState t = 8 ∧ t.clk.running = false)

/-- R285 to R287: what a write puts into a word, a read of it finds, with the data and the mark it was written with, on every
medium and whether or not the page code is kept; every other word keeps its stored data. -/
def Obligations.StoredWords : Prop :=
  ∀ (s : State) (a : Nat) (d : List Byte) (p : Bool), d.length = 32 →
    readWord (putWord s a d p) a = (if p then .poisoned else .clean, d, p) ∧
    readWord (writeWord s a d p) a = (if p then .poisoned else .clean, d, p) ∧
    (∀ x, x < a / 32 * 32 ∨ a / 32 * 32 + 32 ≤ x → memGet (writeWord s a d p).store.mem x = memGet s.store.mem x)

/-- R286: a word written clean of which one data byte is then found changed decodes as corrected at that symbol, to the data
written. -/
def Obligations.OneSymbolCorrected : Prop :=
  ∀ (s : State) (a k : Nat) (d : List Byte) (v : Byte), d.length = 32 → k < 32 → d.getD k 0 ≠ v →
    let t := putWord s a d false
    decodeWord { t with store := { t.store with mem := memPut t.store.mem (a / 32 * 32 + k) v } } a = (.corrected (k + 2), d, false)

/-- R306: the checker acts under its key in Bench on a word that exists. WRITE_RAW stores the bits of CHK_DATA and CHK_SIDE as
they are, and no other byte; READ_RAW returns the stored bits; READ_DECODE returns the outcome and data of the decoder;
RECOVER_PAGE says whether the word can be recovered, and writes nothing. Every other write is ignored and recorded. -/
def Obligations.CheckerOperations : Prop :=
  ∀ (v : W32) (o : Nat) (s : State),
    let a := chkAddr s
    (chkActs s v 1 → ∃ t, exec (.writeRaw v o) s = .next t ∧ getF t F.CHK_RESULT_DONE 0 = 1 ∧
      (getF s F.CHK_SIDE_CHECK 0 < 65536 → rawWord t a = ⟨chkData s, BitVec.ofNat 8 (getF s F.CHK_SIDE_CHECK 0),
        BitVec.ofNat 8 (getF s F.CHK_SIDE_CHECK 0 / 256),
        getB s F.CHK_SIDE_POISON 0 && !(decide (mediumOf a = .lpddr) && isLp5x s)⟩) ∧
      (∀ x, x < a ∨ a + 32 ≤ x → memGet t.store.mem x = memGet s.store.mem x)) ∧
    (chkActs s v 2 → ∃ t, exec (.readRaw v o) s = .next t ∧ getF t F.CHK_RESULT_DONE 0 = 1 ∧ { t with sys := s.sys } = s ∧
      (∀ i, i < 8 → getF t F.CHK_DATA_DATA i = leNat (((rawWord s a).data.drop (4 * i)).take 4)) ∧
      getF t F.CHK_SIDE_CHECK 0 = (rawWord s a).c0.toNat + 256 * (rawWord s a).c1.toNat ∧
      getB t F.CHK_SIDE_POISON 0 = (rawWord s a).poison ∧ getF t F.CHK_SIDE_PAGE_BITS 0 = pageBits s a) ∧
    (chkActs s v 3 → ∃ t, exec (.readDecode v o) s = .next t ∧ getF t F.CHK_RESULT_DONE 0 = 1 ∧ { t with sys := s.sys } = s ∧
      (∀ i, i < 8 → getF t F.CHK_DATA_DATA i = leNat (((decodeWord s a).2.1.drop (4 * i)).take 4)) ∧
      ((decodeWord s a).1 = .clean → getF t F.CHK_RESULT_OUTCOME 0 = 0) ∧
      (∀ k, (decodeWord s a).1 = .corrected k → getF t F.CHK_RESULT_POSITION 0 = k ∧
        ((decodeWord s a).2.2 = false → getF t F.CHK_RESULT_OUTCOME 0 = 1)) ∧
      ((decodeWord s a).1 = .uncorrectable → getF t F.CHK_RESULT_OUTCOME 0 = 2) ∧
      ((decodeWord s a).1 = .poisoned → getF t F.CHK_RESULT_OUTCOME 0 = 3)) ∧
    (chkActs s v 4 → ∃ t, exec (.recoverPage v o) s = .next t ∧ getF t F.CHK_RESULT_DONE 0 = 1 ∧ { t with sys := s.sys } = s ∧
      ((badWords s (a / 4096 * 4096)).all (· == a / 32 % 128) = true → ∀ x, recoverWord s (a / 4096 * 4096) (a / 32 % 128) = some x →
        getF t F.CHK_RESULT_RECOVERED 0 = 1 ∧ ∀ i, i < 8 → getF t F.CHK_DATA_DATA i = leNat ((x.data.drop (4 * i)).take 4)) ∧
      (recoverWord s (a / 4096 * 4096) (a / 32 % 128) = none → getF t F.CHK_RESULT_RECOVERED 0 = 0)) ∧
    (bits v.toNat 16 16 ≠ 0x0C4E ∨ inBench s = false →
      exec (.writeRaw v o) s = .next (record s C.KEY_REFUSED 0 o) ∧ exec (.readRaw v o) s = .next (record s C.KEY_REFUSED 0 o) ∧
      exec (.readDecode v o) s = .next (record s C.KEY_REFUSED 0 o) ∧ exec (.recoverPage v o) s = .next (record s C.KEY_REFUSED 0 o))

/-- R292, R295, R310: page recovery ends with no word of the page waiting for it; its one failed word is written back with the data
that the page code gives, or poisoned where that gives none; a store that it was one recovery too many for is shuttered. A visit of the
patrol scrubber that is due goes on to the next page of its store while ENABLE is 1, and does nothing otherwise. -/
def Obligations.RecoveryAndPatrol : Prop :=
  ∀ (addr : Nat) (st : PatrolStore) (s : State),
    let page := addr / 4096 * 4096
    let t := recoverPage s page
    (s.store.recov.any (fun r => r.page == page) = true →
      exec (.pageRecoveryDone addr) s = .next (t.store.repeatDue.foldl
        (fun s k => if k.1 = 0 then shutterLogical s k.2 else shutterSlice s k.2) { t with store := { t.store with repeatDue := [] } }) ∧
      (t.store.repeatDue = [] → exec (.pageRecoveryDone addr) s = .next t)) ∧
    t.store.recov.all (fun r => r.page != page) = true ∧
    ((∀ c ∈ [C.RECOVERED_M, C.UNRECOVERED_M], effClass s c ≤ 2) → mediumOf page = .lpddr → ∀ w, badWords s page = [w] →
      t.store.repeatDue = s.store.repeatDue ∧
      (∀ x, recoverWord s page w = some x → ∀ i, i < 32 → i < x.data.length →
        memGet t.store.mem (page + 32 * w + i) = x.data.getD i 0) ∧
      (∀ x, (x < page + 32 * w ∨ page + 32 * w + 32 ≤ x) → (recoverWord s page w).all (fun r => r.data.length == 32) = true →
        memGet t.store.mem x = memGet s.store.mem x)) ∧
    (s.store.recov.any (fun r => r.page == page) = false → exec (.pageRecoveryDone addr) s = .next s) ∧
    ((getB s F.SCRUB_CFG_ENABLE 0 = false ∨ patrolDue s st = false) → exec (.patrolVisit st) s = .next s) ∧
    (getB s F.SCRUB_CFG_ENABLE 0 = true → patrolDue s st = true → ∃ t, exec (.patrolVisit st) s = .next t ∧
      getF t (scrubPos st).1 (scrubPos st).2 = (getF s (scrubPos st).1 (scrubPos st).2 + 1) % storePages s st % 2 ^ 32)

/-! ## The deep store, the channels, the arbiters and the arrays (03, 07 to 09) -/

namespace Sys2Proof.Claims

/-- Stored data are as before, or gone because an event of the command parked the device. -/
def storeKept (s t : State) : Prop := t.store = s.store ∨ t.store = (dropData s).store

/-- The slice performs transaction `x` next, and no unit waits to be shuttered for repeated uncorrectable words. -/
def accessNext (s : State) (i : Nat) (x : Txn) : Prop :=
  firstAccess s i (getSlice s i).rq.granted [] = some x ∧ (x.kind = .turnRead → barred s i = false) ∧ s.store.repeatDue = []

/-- An access to the line of place `q`: not a write to a committed page, and not behind an overflow co-add; its set holds no pin. -/
def plainLine (s : State) (i : Nat) (x : Txn) (q : LinePlace) : Prop :=
  linePlace s x.addr = some q ∧ q.slice = i ∧ joinOverflow s i x = none ∧ (x.kind = .write → isCommitted s x.addr = false) ∧
    (getSet s i q.set).any (·.pinned) = false

/-- Of the transactions that wait at an arbiter, one that no older of its master, band and line waits outside the queue for. -/
def eligible (s : State) (q : ReqQueue) (x : Txn) : Prop := x ∈ q.queue ∧ olderOutside s x = false

end Sys2Proof.Claims

/-- R202, R204, R206, R235, R363: what a slice does with the access it performs next. A turn read of a barred slice waits. A write to a
committed page that the gate does not accept is answered and changes no data; an access to an unmapped place is answered, a read
with poisoned zeros; carved scratch is read and written in place; a hit is answered from its line, which a write marks dirty; a
read miss waits for its channel. Without an access it may perform, the slice changes nothing. -/
def Obligations.SliceAccesses : Prop :=
  ∀ (i : Nat) (s : State),
    (firstAccess s i (getSlice s i).rq.granted [] = none → exec (.sliceAccess i) s = .next s) ∧
    (∀ x, firstAccess s i (getSlice s i).rq.granted [] = some x → x.kind = .turnRead → barred s i = true →
      exec (.sliceAccess i) s = .next s) ∧
    (∀ x, firstAccess s i (getSlice s i).rq.granted [] = some x → (x.kind = .turnRead → barred s i = false) →
      exec (.sliceAccess i) s = .next (closeRepeats (performAccess s i x))) ∧
    ∀ x, accessNext s i x →
      (x.kind = .write → isCommitted s x.addr = true → gateAccepts s x = false → ∃ t, exec (.sliceAccess i) s = .next t ∧
        t.deep.done = s.deep.done ++ [(x, [], [])] ∧ storeKept s t) ∧
      (linePlace s x.addr = none → scratchSlice s x.addr = none → isCommitted s x.addr = false →
        ∃ t, exec (.sliceAccess i) s = .next t ∧ storeKept s t ∧ t.deep.done = s.deep.done ++ [if x.kind = .write then (x, [], [])
          else (x, List.replicate x.len 0, List.replicate ((x.addr % 32 + x.len + 31) / 32) true)]) ∧
      (∀ j, linePlace s x.addr = none → scratchSlice s x.addr = some j → isCommitted s x.addr = false →
        needsRecovery s x (x.addr / 256 * 256) = none →
        let u := countAccess (dropGranted s i x.id) i
        (x.kind = .write → ∃ t, exec (.sliceAccess i) s = .next t ∧ t.deep.done = s.deep.done ++ [(x, [], [])] ∧
          storeKept (writeBytes u x.addr x.data x.poison) t ∧
          (x.poison.any id = false → t = finishTxn (writeBytes u x.addr x.data x.poison) x [] [])) ∧
        (x.kind ≠ .write → ∃ t, exec (.sliceAccess i) s = .next t ∧ t.deep.done = s.deep.done ++
          [(x, readBytes u (x.addr / 256 * 256 + x.addr % 256) x.len)])) ∧
      (∀ q y, plainLine s i x q → cachedLine s q = some y → needsRecovery s x (lineData q y) = none →
        (x.kind = .write → ∃ t, exec (.sliceAccess i) s = .next t ∧ t.deep.done = s.deep.done ++ [(x, [], [])] ∧
          cachedLine t q = some { y with dirty := setMask y.dirty (x.addr % 256) x.data.length }) ∧
        (x.kind ≠ .write → y.filled = true → ∃ t v, exec (.sliceAccess i) s = .next t ∧ storeKept s v ∧
          t.deep.done = s.deep.done ++ [(x, readBytes v (lineData q y + x.addr % 256) x.len)])) ∧
      (∀ q, plainLine s i x q → cachedLine s q = none → x.kind ≠ .write →
        (getChan s (placeOf s q.chan (q.line / 16))).rq.queue.length < 64 →
        ∃ t pl, exec (.sliceAccess i) s = .next t ∧ t.store = s.store ∧ t.deep.done = s.deep.done ∧
          (getSlice t i).pendingMiss = (getSlice s i).pendingMiss ++ [⟨x, pl⟩] ∧
          (getChan t (placeOf s q.chan (q.line / 16))).rq.queue.length = (getChan s (placeOf s q.chan (q.line / 16))).rq.queue.length + 1)

/-- R204, R205, R211, R212, R236, R238: a fill whose set has a free way leaves its line cached, filled and clean, or serves a read that
is not to be allocated from the channel; a thrash window ends at 65,536 lookups with its counters at 0; a stream ends when not
continued within STREAK_WINDOW accesses; a lost tag loses the line it held, if it held one, and shutters its slice; a fold ends with
no line in the slice, and its partner serves unless it is shuttered too. -/
def Obligations.SliceUpkeep : Prop :=
  ∀ (i set way : Nat) (s : State),
    let c := getSlice s i
    (readyMiss s i = none → exec (.sliceMissFill i) s = .next s) ∧
    (∀ m q, readyMiss s i = some m → linePlace s m.txn.addr = some q → q.slice = i → m.txn.addr < lpddrEnd →
      m.txn.addr % 256 + m.txn.len ≤ 256 →
      needsRecovery s { m.txn with kind := .read, addr := m.txn.addr / 256 * 256, len := 256 } (m.txn.addr / 256 * 256) = none →
      cachedLine s q = none →
      (m.place = 2 → ∃ t v, exec (.sliceMissFill i) s = .next t ∧ v.store = s.store ∧ t.deep.sets = s.deep.sets ∧
        t.deep.done = s.deep.done ++ [(m.txn, readBytes v (m.txn.addr / 256 * 256 + m.txn.addr % 256) m.txn.len)]) ∧
      (∀ w, m.place ≠ 2 → victim (endMiss s i m.txn.id) i q.set = some (w, none) →
        ∃ t y d, exec (.sliceMissFill i) s = .next t ∧ cachedLine t q = some y ∧ y.way = w ∧ y.filled = true ∧ y.dirty.any id = false ∧
          t.deep.done = s.deep.done ++ [(m.txn, d)])) ∧
    (c.lookups < 65536 → exec (.thrashWindowEnd i) s = .next s) ∧
    (65536 ≤ c.lookups → ∃ t, exec (.thrashWindowEnd i) s = .next t ∧ storeKept s t ∧
      (getSlice t i).lookups = 0 ∧ (getSlice t i).misses = 0 ∧ getF t F.SLC_THRASH_COUNT i =
        if getF s F.SLC_CFG_THRASH_LIMIT i * c.lookups < 256 * c.misses
        then min (getF s F.SLC_THRASH_COUNT i + 1) (2 ^ 32 - 1) else getF s F.SLC_THRASH_COUNT i) ∧
    (∃ t, exec (.streakStreamEnd i) s = .next t ∧ { t with deep := s.deep } = s ∧
      ∀ x, x ∈ (getSlice t i).streams ↔ x ∈ c.streams ∧ c.accesses < x.at_ + streakWindow s i) ∧
    ((getSet s i set).find? (fun x => x.way == way) = none → ∃ t, exec (.tagLost i set way) s = .next t ∧
      t = shutterSlice (sliceEvent s i C.TAG_LOST 0) i ∧ getB t F.SLC_STATUS_SHUTTERED i = true) ∧
    (∀ x, (getSet s i set).find? (fun y => y.way == way) = some x → phase s ≠ 1 → phase s ≠ 2 → ∃ t, exec (.tagLost i set way) s = .next t ∧
      getB t F.SLC_STATUS_SHUTTERED i = true ∧ (∀ y ∈ getSet t i set, y.way ≠ way) ∧
      (x.dirty.any id = true → t.mer.intact = false)) ∧
    (c.folding = false → exec (.sliceFold i) s = .next s) ∧
    (c.folding = true → (flushSlice s i).store.repeatDue = [] → getB s F.SLC_STATUS_SHUTTERED (i ^^^ 1) = true →
      ∃ t, exec (.sliceFold i) s = .next t ∧ (getSlice t i).folding = false ∧ ∀ e ∈ t.deep.sets, e.1.1 ≠ i) ∧
    (c.folding = true → (flushSlice s i).store.repeatDue = [] → getB s F.SLC_STATUS_SHUTTERED (i ^^^ 1) = false → s.act.pinned = [] →
      ∃ t, exec (.sliceFold i) s = .next t ∧
        getB t F.SLC_STATUS_FOLDED i = true ∧ getB t F.SLC_STATUS_SERVING (i ^^^ 1) = true ∧ t.deep.scaleDue.isSome = true ∧
        (∀ e ∈ t.deep.sets, e.1.1 ≠ i) ∧ (getSlice t i).pendingMiss = [])

/-- R216 to R221, R223, R230, R305, R380: the fragment that reaches its slice next. In Relaxed mode it is applied at once. In Strict mode it is
applied when its sequence number is its stream's NEXT, waits in the window up to NEXT + 63, is refused and sent again with a hint
beyond, and below NEXT is discarded, recorded and answered as accepted. An overflow co-add ends when its channel has granted its
write; an update entry ends, and where it was the last the commit tasks are launched; an element with a poisoned word is left as
it is. -/
def Obligations.CoaddsAndUpdates : Prop :=
  ∀ (i entry : Nat) (s : State),
    (barred s i = true → exec (.coaddFragment i) s = .next s) ∧
    (nextFrag s i (getSlice s i).rq.granted [] = none → exec (.coaddFragment i) s = .next s) ∧
    (∀ x f, barred s i = false → s.store.repeatDue = [] → nextFrag s i (getSlice s i).rq.granted [] = some (x, f) →
      let u := dropGranted { s with deep := { s.deep with frags := s.deep.frags.filter (fun g => g != f) } } i x.id
      let n := nextOf u i f
      let q := tagSeq f.tag
      let w := (getSlice u i).window
      let eta := max 1 (etaOf (getSlice u i).rq x.band)
      (targetSlice u f.addr = none → exec (.coaddFragment i) s = .next (fragAccepted (unmapped u i f.addr) x f)) ∧
      ((targetSlice u f.addr).isSome → isCommitted u f.addr = true →
        exec (.coaddFragment i) s = .next (fragAccepted (sliceEvent u i C.GATE_WRITE (lineOf u f.addr)) x f)) ∧
      ((targetSlice u f.addr).isSome → isCommitted u f.addr = false →
        (relaxed u = true → exec (.coaddFragment i) s = .next (closeRepeats (fragAccepted (applyFrag u i x f) x f))) ∧
        (relaxed u = false → q < n → ∃ t, exec (.coaddFragment i) s = .next t ∧ storeKept s t ∧
          t.eph.xfers = (fragAccepted u x f).eph.xfers ∧ (getSlice t i).window = (getSlice s i).window) ∧
        (relaxed u = false → q = n → exec (.coaddFragment i) s = .next (closeRepeats (drainWindow (takeFrag u i x f) i 64))) ∧
        (relaxed u = false → n < q → q < n + 64 → w.length < 64 →
          exec (.coaddFragment i) s = .next (setSlice u i { getSlice u i with window := w ++ [f] })) ∧
        (relaxed u = false → n < q → (n + 64 ≤ q ∨ 64 ≤ w.length) → ∃ t, exec (.coaddFragment i) s = .next t ∧
          t.deep.frags = u.deep.frags ++ [f] ∧ t.deep.slices = u.deep.slices ∧ t.store = s.store ∧
          t.deep.refused = u.deep.refused ++ [⟨{ x with hinted := false }, .slice i, eta, mountCyc s + 8 * eta, false⟩]))) ∧
    (firstOverflow s (getSlice s i).ovf [] = none → exec (.overflowCoaddComplete i) s = .next s) ∧
    (∀ o, firstOverflow s (getSlice s i).ovf [] = some o → o.behind = [] → ∃ v, v = endOverflow s i o ∧
      exec (.overflowCoaddComplete i) s = .next (closeRepeats v) ∧ (getSlice v i).ovf = (getSlice s i).ovf.filter (fun e => e != o)) ∧
    (s.mer.working = true → phase s = 4 → entry ∈ s.mer.entries → ∃ v, entry ∉ v.mer.entries ∧ exec (.updateEntryDone entry) s =
      .next (if v.mer.entries.isEmpty && v.mer.tasksDue then launchCommitTasks v else v)) ∧
    (s.mer.working = false ∨ phase s ≠ 4 ∨ entry ∉ s.mer.entries → exec (.updateEntryDone entry) s = .next s) ∧
    (∀ u idx h e,
      let p := updRead s u.pPg u.pFmt e
      let g := updRead p.1 u.gPg u.gFmt e
      let m := updRead g.1 u.mPg u.sFmt e
      (p.2.2 || g.2.2 || m.2.2 || h.lrPoison) = true → u.rule ≠ 1 →
        updElem s u idx h e = committedPoison m.1 (4096 * u.pPg + e * updWidth u.pFmt))

/-- R270 to R272, R275 to R277, R280: with no lock in force an arbiter grants, among the transactions that no older one of their master,
band and line waits outside the queue for, one of the highest rank and of that rank the oldest; under a lock it grants its owner's. A
lock that would grow to a 17th transaction or has waited 64 mount cycles is broken, and the transactions of its sequence go on
without it. A held request is issued within its quota; a hint leaves the queue in its order; a refused request is sent again once it
may be. At the boundary after a change every quota follows its scope's factor. -/
def Obligations.Arbitration : Prop :=
  ∀ (tg : ReqTarget) (cls inst band : Nat) (s : State),
    let q := getQ s tg
    (q.lock = none → (∀ x, ¬ eligible s q x) → exec (.arbiterGrant tg) s = .next s) ∧
    (q.lock = none → ∀ x, eligible s q x → ∃ t y, exec (.arbiterGrant tg) s = .next t ∧ eligible s q y ∧
      (getQ t tg).granted = (if ownTraffic tg y then q.granted else q.granted ++ [y]) ∧ (getQ t tg).lock = lockAfter s q y ∧
      (getQ t tg).queue = q.queue.filter (fun z => z.id != y.id) ∧
      ∀ z, eligible s q z → z.band < y.band ∨ (z.band = y.band ∧ y.id ≤ z.id)) ∧
    (∀ l, q.lock = some l → lockTooLong s q = false → q.queue.find? (ofLock l) = none → exec (.arbiterGrant tg) s = .next s) ∧
    (∀ l x, q.lock = some l → lockTooLong s q = false → q.queue.find? (ofLock l) = some x → ∃ t, exec (.arbiterGrant tg) s = .next t ∧
      (getQ t tg).granted = (if ownTraffic tg x then q.granted else q.granted ++ [x]) ∧
      (getQ t tg).queue = q.queue.filter (fun z => z.id != x.id)) ∧
    (lockTooLong s q = false → exec (.lockedSequenceBreak tg) s = .next s) ∧
    (∀ l, q.lock = some l → lockTooLong s q = true → ∃ t, exec (.lockedSequenceBreak tg) s = .next t ∧ (getQ t tg).lock = none ∧
      exec (.arbiterGrant tg) s = exec (.arbiterGrant tg) t ∧
      (getQ t tg).queue = q.queue.map (fun x =>
        if ofLock l x ∧ x.id ≤ lockEnd (lockedIds s tg l) then { x with locked := false } else x)) ∧
    ((heldOf s cls inst band).head? = none → exec (.heldRequestIssue cls inst band) s = .next s) ∧
    (∀ x, (heldOf s cls inst band).head? = some x →
      let d := ReqTarget.slice (routeSlice s x.addr)
      (mayIssue s x = false → exec (.heldRequestIssue cls inst band) s = .next s) ∧
      (mayIssue s x = true → ∃ t, exec (.heldRequestIssue cls inst band) s = .next t ∧
        t.deep.heldReq = s.deep.heldReq.filter (fun y => y.id != x.id) ∧
        outstanding t cls inst band = outstanding s cls inst band + 1 ∧
        ((getQ s d).queue.length < 128 → (getQ t d).queue = (getQ s d).queue ++ [{ x with born := mountCyc s }]) ∧
        (128 ≤ (getQ s d).queue.length → (getQ t d).queue = (getQ s d).queue ∧ t.deep.refused.length = s.deep.refused.length + 1))) ∧
    (q.queue.find? (fun x => !x.hinted && decide (x.born + etaDelay s ≤ mountCyc s)) = none → exec (.etaHint tg) s = .next s) ∧
    (∀ x, q.queue.find? (fun x => !x.hinted && decide (x.born + etaDelay s ≤ mountCyc s)) = some x →
      ∃ t, exec (.etaHint tg) s = .next t ∧ t.store = s.store ∧ (getQ t tg).granted = q.granted ∧
        (getQ t tg).queue = q.queue.map (fun y => if y.id = x.id then { y with hinted := true } else y)) ∧
    (let mine := fun (r : Refused) => r.txn.cls == cls && r.txn.inst == inst && r.txn.band == band
     (s.deep.refused.find? (fun r => mine r && mayResend s r) = none → exec (.transactionResend cls inst band) s = .next s) ∧
     (∀ r, s.deep.refused.find? (fun r => mine r && mayResend s r) = some r →
       let d := match r.target with
         | .slice _ => ReqTarget.slice (routeSlice s r.txn.addr)
         | .chan k => ReqTarget.chan ((chanOf s r.txn.addr).getD k)
       let rest := s.deep.refused.filter (fun y => y.txn.id != r.txn.id)
       ∃ t, exec (.transactionResend cls inst band) s = .next t ∧
         ((getQ s d).queue.length < qCap d → t.deep.refused = rest ∧
           (getQ t d).queue = (getQ s d).queue ++ [{ r.txn with born := mountCyc s }]) ∧
         (qCap d ≤ (getQ s d).queue.length → t.deep.refused.length = rest.length + 1 ∧ (getQ t d).queue = (getQ s d).queue))) ∧
    (s.deep.scaleDue = none → exec .guaranteeScaled s = .next s) ∧
    (∀ b, s.deep.scaleDue = some b → b ≤ nowNs s → ∃ t, exec .guaranteeScaled s = .next t ∧ t.deep.scaleDue = none ∧
      ∀ u, u < 48 → getF t F.BND_QUOTA_GQ u = min 1023 (guaranteedQuota t u (getF t F.BND_SCALE_FACTOR (getF t F.BND_GUAR_SCOPE u)))) ∧
    (∀ b, s.deep.scaleDue = some b → nowNs s < b → exec .guaranteeScaled s = .next s)

/-- R250 to R252, R254, R255, R261, R262: a channel that runs refreshes, at its interval, a bank that has not had its turn in the round,
with no request waiting where there is one, and takes over a derating factor that waits; the eight channels of a package rise together
to the state that a reading names; a channel that does not answer is recorded and shuttered; a copy ends with the channel shuttered, or
open again; training ends with the outcome of Table: Training outcomes. -/
def Obligations.ChannelUpkeep : Prop :=
  ∀ (c re we : Nat) (temp : Int) (out : Bool) (o : TrainOutcome) (s : State),
    let st := getF s F.MCH_STATUS_STATE c
    let h := getChan s c
    ((st = 0 ∨ st = 3 ∨ passed s h.lastRefresh (refreshGap s c) = false) → exec (.perBankRefresh c) s = .next s) ∧
    (st ≠ 0 → st ≠ 3 → passed s h.lastRefresh (refreshGap s c) = true → ∃ t b, exec (.perBankRefresh c) s = .next t ∧
      t.store = s.store ∧ (getChan t c).bank = b ∧ (getChan t c).lastRefresh = elapsedNs s ∧ (getChan t c).derateDue = false ∧
      b < bankTurns s ∧ ((∃ k, k < bankTurns s ∧ k ∉ h.refreshed) → b ∉ h.refreshed) ∧
      ((∃ k, k < bankTurns s ∧ k ∉ h.refreshed ∧ k ∉ busyBanks s c) → b ∉ busyBanks s c) ∧
      (h.derateDue = true → t.deep.scaleDue.isSome = true ∧ getF t F.MCH_DERATE_FACTOR c =
        if getB s F.FLT_SHUT_CHANNEL c = true ∨ st = 4 ∨ st = 6 then 0 else derateOf (getF s F.MCH_STATUS_TEMP c))) ∧
    ((∀ i, i < 8 → (getChan s (8 * c + i)).lastPoll = 0 ∨ passed s (getChan s (8 * c + i)).lastPoll 16000000 = true) →
      ∃ t, exec (.pkgTempPoll c temp out) s = .next t ∧ t.deep.sets = s.deep.sets ∧
        ∀ i, i < 8 → getF s F.MCH_STATUS_STATE (8 * c + i) ≠ 0 → getF s F.MCH_STATUS_TEMP (8 * c + i) < tempUp temp out →
          getF t F.MCH_STATUS_TEMP (8 * c + i) = tempUp temp out ∧ (getChan t (8 * c + i)).derateDue = true) ∧
    ((∃ i, i < 8 ∧ (getChan s (8 * c + i)).lastPoll ≠ 0 ∧ passed s (getChan s (8 * c + i)).lastPoll 16000000 = false) →
      exec (.pkgTempPoll c temp out) s = .next s) ∧
    (st = 0 → exec (.chTimeout c) s = .next s) ∧
    (st ≠ 0 → exec (.chTimeout c) s =
      .next (faultChannel (if st = 1 then setF (chanEvent s c C.CH_TIMEOUT) F.MCH_STATUS_TRAIN c 4 else chanEvent s c C.CH_TIMEOUT) c)) ∧
    (∀ v, phase v ≠ 1 → phase v ≠ 2 →
      (getB v F.FLT_SHUT_CHANNEL c = false → getB (faultChannel v c) F.FLT_SHUT_CHANNEL c = true ∧
        getF (faultChannel v c) F.MCH_STATUS_STATE c = 4 ∧
        ((c, v.store.spreads) ∈ (faultChannel v c).store.lost ∨ devState (faultChannel v c) = 8)) ∧
      (getB v F.FLT_SHUT_CHANNEL c = true → getF (faultChannel v c) F.MCH_STATUS_STATE c = 4 ∧ (getChan (faultChannel v c) c).copy = none ∧
        (getChan (faultChannel v c) c).bad = true ∧ ((getChan v c).copy.isSome → (c, []) ∈ (faultChannel v c).store.lost))) ∧
    ((h.copy = none ∨ st ≠ 5) → exec (.spreadCopyDone c) s = .next s) ∧
    (phase s ≠ 1 → phase s ≠ 2 → st = 5 → h.copy = some true → ∃ t, exec (.spreadCopyDone c) s = .next t ∧
      getF t F.MCH_STATUS_STATE c = 4 ∧ getB t F.FLT_SHUT_CHANNEL c = true) ∧
    (phase s ≠ 1 → phase s ≠ 2 → st = 5 → h.copy = some false → ∃ t, exec (.spreadCopyDone c) s = .next t ∧
      getF t F.MCH_STATUS_STATE c = 2 ∧ getB t F.FLT_SHUT_CHANNEL c = false ∧ ∀ g ∈ t.store.spreads, g.orig ≠ c) ∧
    (st ≠ 1 → exec (.channelTrained c o re we) s = .next s) ∧
    (st = 1 → (getB s F.DEV_STATE_COLD 0 = false ∨ s.boot.rateStepped = true ∨ 2 ≤ getF s F.MEM_CFG_RATE 0) → re < 256 → we < 256 →
      (∀ k, (k = 1 ∧ outcomeOf o (warmRun s c) re we = .pass) ∨ (k = 2 ∧ outcomeOf o (warmRun s c) re we = .marginal) ∨
          (k = 3 ∧ outcomeOf o (warmRun s c) re we = .retrained) →
        ∃ t, exec (.channelTrained c o re we) s = .next t ∧ getF t F.MCH_STATUS_STATE c = 2 ∧ getF t F.MCH_STATUS_TRAIN c = k ∧
          getF t F.MCH_MARGIN_READ_EYE c = re ∧ getF t F.MCH_MARGIN_WRITE_EYE c = we) ∧
      (o = .fail → exec (.channelTrained c o re we) s =
        .next (faultChannel (chanEvent (setF s F.MCH_STATUS_TRAIN c 4) c C.CH_TRAIN_FAIL) c))) ∧
    (re < 77 ∨ we < 77 → outcomeOf .pass (warmRun s c) re we = .marginal) ∧
    (77 ≤ re → 77 ≤ we → outcomeOf .pass (warmRun s c) re we = .pass)

/-- R263, R264: START runs a lamp under its key on a shuttered channel with no copy in progress and settings that hold no
reserved value; another START is ignored, and recorded where the key or the channel refuses it; STOP under its key ends a run at the
next line; the end of a run posts its passes, words, time and counts and, where it found a mismatch or an uncorrectable word, its
first failure. A run without a number of passes ends only once stopped. What the run found is the command's operand. -/
def Obligations.Lamps : Prop :=
  ∀ (c : Nat) (v : W32) (o : Nat) (r : LampResult) (s : State),
    let key := bits v.toNat 16 16 = 0x1A4D
    let h := getChan s c
    let ready := getF s F.MCH_STATUS_STATE c = 4 ∧ h.copy = none
    (key → ready → lampSettings s c = true → v.toNat.testBit 0 = true → ∃ t, exec (.lampStart c v o) s = .next t ∧
      getF t F.MCH_STATUS_STATE c = 6 ∧ getB t F.LAMP_STATUS_BUSY c = true ∧ getB t F.LAMP_STATUS_DONE c = false ∧
      (getChan t c).lamp = some ⟨elapsedNs s, false⟩ ∧ t.store = s.store) ∧
    (key → ready → lampSettings s c = false → v.toNat.testBit 0 = true → v.toNat.testBit 1 = false →
      exec (.lampStart c v o) s = .next s) ∧
    (v.toNat.testBit 0 = true → ¬ key ∨ (v.toNat.testBit 1 = false ∧ ¬ ready) →
      exec (.lampStart c v o) s = .next (record s C.KEY_REFUSED c o)) ∧
    (key → v.toNat.testBit 0 = false → v.toNat.testBit 1 = true → ∀ x, h.lamp = some x →
      exec (.lampStop c v o) s = .next (setChan s c { h with lamp := some { x with stopping := true } })) ∧
    (v.toNat.testBit 0 = false → (¬ key ∨ v.toNat.testBit 1 = false ∨ h.lamp = none) → exec (.lampStop c v o) s = .next s) ∧
    (h.lamp = none → exec (.lampDone c r) s = .next s) ∧
    (∀ x, h.lamp = some x → getF s F.LAMP_PASSES_COUNT c = 0 → x.stopping = false → exec (.lampDone c r) s = .next s) ∧
    (∀ x, h.lamp = some x → getF s F.LAMP_PASSES_COUNT c ≠ 0 ∨ x.stopping = true → ∃ t, exec (.lampDone c r) s = .next t ∧
      (getChan t c).lamp = none ∧ storeKept s t ∧
      getF t F.MCH_STATUS_STATE c = 4 ∧ getB t F.LAMP_STATUS_BUSY c = false ∧ getB t F.LAMP_STATUS_DONE c = true ∧
      getF t F.LAMP_STATUS_PASS c = lampPasses s c x r.passes % 2 ^ F.LAMP_STATUS_PASS.width ∧
      getF t F.LAMP_WORDS_COUNT c = min (lampWords s c x r.words) (2 ^ 32 - 1) ∧
      getF t F.LAMP_TIME_COUNT c = min ((elapsedNs s - x.start) / 10) (2 ^ 32 - 1) ∧
      getF t F.LAMP_MISM_COUNT c = min r.mism (2 ^ 32 - 1) ∧ getF t F.LAMP_CORR_COUNT c = min r.corr (2 ^ 32 - 1) ∧
      getF t F.LAMP_UNCORR_COUNT c = min r.uncorr (2 ^ 32 - 1) ∧
      (getB t F.LAMP_STATUS_ERR c = true ↔ r.mism ≠ 0 ∨ r.uncorr ≠ 0) ∧
      (r.mism ≠ 0 ∨ r.uncorr ≠ 0 → getF t F.LAMP_FAIL_PAGE_PAGE c =
          (getF s F.LAMP_BASE_PAGES c + r.failPage % max 1 (lampPages s c)) % 2 ^ F.LAMP_FAIL_PAGE_PAGE.width ∧
        getF t F.LAMP_FAIL_PAGE_WORD c = r.failWord % 2 ^ F.LAMP_FAIL_PAGE_WORD.width))

/-- R49, R51 to R58, R63: a pass that has ended, with the half of the accumulators it writes drained, joins its chunk to the
accumulators by the weight set that became active, and the next is placed; a drain that has ended writes its outputs; an operation
with every accumulation and drain finished ends and its slot retires, or the next operation of its chain's re-run starts; none acts
before its time, and none while the datapath is held. -/
def Obligations.ArrayOperations : Prop :=
  ∀ (t : Nat) (s : State),
    ((getArr s t).op = none → exec (.arrayPassComplete t) s = .next s ∧ exec (.accumDrainComplete t) s = .next s ∧
      exec (.arrayOpComplete t) s = .next s) ∧
    ∀ o, (getArr s t).op = some o →
    let d := o.desc
    let r := runPass s t d (passSet s t o) (getArr s t).acc o.acc o.chunk
    (d.finder = false → o.acc < pieces d → halfFree o = true → dpRuns s t = true → o.passEnd ≤ dpTime s t →
      ∃ v p, exec (.arrayPassComplete t) s = .next v ∧
      v.store = s.store ∧ (getArr v t).acc = r.acc ∧ (getArr v t).active = some (passSet s t o) ∧
      (getArr v t).op = some p ∧ p.desc = d ∧ p.passes = o.passes + 1 ∧
      getF v F.ARR_PASS_COUNT t = (getF s F.ARR_PASS_COUNT t + 1) % 2 ^ 64 ∧
      getF v F.FIN_SAT_COUNT t = min (getF s F.FIN_SAT_COUNT t + r.sat) (2 ^ F.FIN_SAT_COUNT.width - 1) ∧
      (o.chunk + 1 < chunks d → p.acc = o.acc ∧ p.chunk = o.chunk + 1 ∧ p.passEnd = o.passEnd + passCycles d o.acc) ∧
      (chunks d ≤ o.chunk + 1 → p.acc = o.acc + 1 ∧ p.chunk = 0 ∧ p.drainEnds.length = o.drainEnds.length + 1)) ∧
    ((d.finder = true ∨ pieces d ≤ o.acc ∨ halfFree o = false ∨ dpRuns s t = false ∨ dpTime s t < o.passEnd) →
      exec (.arrayPassComplete t) s = .next s) ∧
    (∀ e, o.drainEnds[o.drained]? = some e → d.drain = true → dpRuns s t = true → e ≤ dpTime s t →
      let u := recoverScales s t d o.drained
      ∃ v, exec (.accumDrainComplete t) s = .next v ∧ (getArr v t).op = some { o with drained := o.drained + 1 } ∧
        (d.finder = false → getArr v t = { getArr s t with op := some { o with drained := o.drained + 1 } } ∧
          v.store = (runDrain u t d (getArr u t).acc o.drained).store ∧ v.flt = (runDrain u t d (getArr u t).acc o.drained).flt) ∧
        (d.finder = true → getF v F.FND_STREAM_COUNT t = (getF s F.FND_STREAM_COUNT t + finderStream d) % 2 ^ F.FND_STREAM_COUNT.width)) ∧
    ((o.drainEnds[o.drained]? = none ∨ d.drain = false ∨ dpRuns s t = false ∨
      (∃ e, o.drainEnds[o.drained]? = some e ∧ dpTime s t < e)) → exec (.accumDrainComplete t) s = .next s) ∧
    (opFinished s t o = true → dpRuns s t = true →
      ((getArr s t).rest = [] → ∃ v, exec (.arrayOpComplete t) s = .next (retireSlot v t o.bundle) ∧ (getArr v t).op = none ∧
        (getArr v t).lastOp = some d ∧ v.store = s.store ∧ getB v F.ARR_STATUS_BUSY t = false ∧ getB v F.ARR_STATUS_FINDER t = false ∧
        (getArr v t).acc = (getArr s t).acc ∧ (getArr v t).chain =
          if d.drain || d.finder then [] else if d.accIn then (getArr s t).chain ++ [d] else [d]) ∧
      (∀ n rest, (getArr s t).rest = n :: rest → ∃ v p, exec (.arrayOpComplete t) s = .next v ∧ (getArr v t).op = some p ∧
        p.desc = n ∧ p.rerun = true ∧ (getArr v t).rest = rest ∧ getB v F.ARR_STATUS_RERUN t = true)) ∧
    ((opFinished s t o = false ∨ dpRuns s t = false) → exec (.arrayOpComplete t) s = .next s)

/-- R73 to R75, R78 to R80: a fault in a running operation below the tile's limit discards the operation and the accumulators it uses,
and a re-run of its chain pends for 16 dome cycles; a fault in a re-run, or one that reaches the limit, shutters the tile. A re-run that
is ready, with no page of its weights being recovered, starts its chain's first operation. Poisoned weights of an operation that
re-runs for them are no fault again. The fault count starts again with each window of device time. -/
def Obligations.ArrayFaults : Prop :=
  ∀ (t : Nat) (f : ArrayFault) (s : State),
    let a := getArr s t
    let n := min (getF s F.ARR_FAULTS_IN_WINDOW t + 1) (2 ^ F.ARR_FAULTS_IN_WINDOW.width - 1)
    (∀ o, a.op = some o → a.window = windowAt s t →
      ((o.poisonRerun = true → f.kind ≠ 1) → o.rerun = false → n < faultLimit s t →
        ∃ v r, exec (.arrayFaultDetect t [f]) s = .next v ∧ (getArr v t).op = none ∧
          (getArr v t).acc = a.acc.filter (fun e => !opUses o.desc e.1) ∧ (getArr v t).rerun = some r ∧
          r.readyAt = s.clk.cyc + 16 ∧ r.poison = (f.kind == 1) ∧ r.bundle = o.bundle ∧ (f.kind ≠ 1 → r.pages = []) ∧
          r.ops = (if o.desc.accIn then a.chain ++ [o.desc] else [o.desc]) ∧
          getF v F.ARR_FAULTS_IN_WINDOW t = n ∧ getB v F.ARR_STATUS_BUSY t = false ∧
          (getB s F.ARR_CAPTURE_VALID t = false → getB v F.ARR_CAPTURE_VALID t = true ∧
            getF v F.ARR_CAPTURE_CODE t = (arrayCode f).code % 256)) ∧
      ((o.poisonRerun = true → f.kind ≠ 1) → (o.rerun = true ∨ faultLimit s t ≤ n) →
        ∃ u, exec (.arrayFaultDetect t [f]) s = .next (arrayRepeat u t) ∧ physOf u t = physOf s t ∧ (getArr u t).op = none) ∧
      (o.poisonRerun = true → f.kind = 1 → exec (.arrayFaultDetect t [f]) s = .next (recordKept s t) ∧
        (o.kept = true → exec (.arrayFaultDetect t [f]) s = .next s))) ∧
    (a.op = none → a.rerun = none → a.window = windowAt s t → n < faultLimit s t →
      ∃ v, exec (.arrayFaultDetect t [f]) s = .next v ∧ (getArr v t).chain = a.chain ∧ (getArr v t).rerun = none ∧
        getF v F.ARR_FAULTS_IN_WINDOW t = n ∧ (f.kind ≠ 0 → f.kind ≠ 3 → f.kind ≠ 5 → getArr v t = a)) ∧
    exec (.arrayFaultDetect t []) s = .next s ∧
    (∀ r d rest, a.rerun = some r → r.ops = d :: rest → r.readyAt ≤ s.clk.cyc → dpRuns s t = true →
      (∀ x ∈ s.store.recov, x.page ∉ r.pages) →
      ∃ v p, exec (.arrayRerunStart t) s = .next v ∧ (getArr v t).op = some p ∧ p.desc = d ∧ p.rerun = true ∧
        p.poisonRerun = r.poison ∧ p.bundle = r.bundle ∧ (getArr v t).rerun = none ∧ (getArr v t).rest = rest ∧
        getF v F.ARR_FAULTS_RERUNS t = min (getF s F.ARR_FAULTS_RERUNS t + 1) (2 ^ F.ARR_FAULTS_RERUNS.width - 1)) ∧
    (∀ r, a.rerun = some r → (s.clk.cyc < r.readyAt ∨ dpRuns s t = false ∨ ∃ x ∈ s.store.recov, x.page ∈ r.pages) →
      exec (.arrayRerunStart t) s = .next s) ∧
    (a.rerun = none → exec (.arrayRerunStart t) s = .next s) ∧
    (a.window ≠ windowAt s t → ∃ v, exec (.faultWindowEnd t) s = .next v ∧ getF v F.ARR_FAULTS_IN_WINDOW t = 0 ∧
      (getArr v t).window = windowAt s t ∧ v.store = s.store) ∧
    (a.window = windowAt s t → exec (.faultWindowEnd t) s = .next s)

/-! ## The towers, the ephemeris, blocks and collectives, tasks and the debug halt (02, 05, 06, 11) -/

namespace Sys2Proof.Claims

/-- The mover operations of a bundle: the row, its code and the transfer that it starts. -/
def moverRows : List ((Nat → Instr) × Nat × XKind) :=
  [(.load, 0, .load), (.store, 1, .store), (.coadd, 2, .coadd), (.mesh, 3, .mesh), (.turn, 4, .turn)]

/-- A transfer carries the fields of a descriptor (Table: Transfer descriptor). -/
def carries (x : Xfer) (id tile : Nat) (k : XKind) (d : Nat) (f : Fetched) : Prop :=
  x.id = id ∧ x.tile = tile ∧ x.kind = k ∧ x.bundle = f.idx ∧ x.size = xSize d ∧ x.band = xBand d ∧ x.opx = xOpx d ∧ x.loc = xLocal d ∧
    x.remote = xRemote d ∧ x.arrival = xArrival d ∧ x.slack = xSlack d ∧ x.tag = xTag d ∧ x.late = none

end Sys2Proof.Claims

/-- R14 to R17, R19, R36, R37: a burst that passes its CRC is held to its fixed delivery cycle; one that fails asks for one re-send, is counted and
recorded, and shows whether its segment is weak; the repeated burst replaces it, lost when it fails too; at its cycle the oldest held
burst is handed on: counted as lost and poisoned at its receiving end where it was lost, taken away for a second issue or for good where
a reset stands in its way. -/
def Obligations.SpineBursts : Prop :=
  ∀ (tile txn : Nat) (tg : SpineEnd) (data : List Byte) (crc : BitVec 16) (s : State),
    let x := getSeg s tile tg
    let y := countBurst s x false
    let z := countBurst s y true
    let tw := tile / 128
    (crc16 data = crc → ∃ t, exec (.spineBurstArrive tile tg txn data crc) s = .next t ∧ { t with tower := s.tower } = s ∧
      getSeg t tile tg = { y with holds := x.holds ++ [.held txn (deliveryCycle s tg) data false] }) ∧
    (crc16 data ≠ crc → ∃ u, exec (.spineBurstArrive tile tg txn data crc) s = .next (checkWeak u tile tg) ∧ storeKept s u ∧
      getSeg u tile tg = { z with holds := x.holds ++ [.resend txn (deliveryCycle s tg)] } ∧
      getF u F.TWR_RESEND_COUNT tw = (getF s F.TWR_RESEND_COUNT tw + 1) % 2 ^ F.TWR_RESEND_COUNT.width) ∧
    (∀ v, (weakNow v (getSeg v tile tg) = false ∨ (getSeg v tile tg).weak = true) → checkWeak v tile tg = v) ∧
    (∀ v, weakNow v (getSeg v tile tg) = true → (getSeg v tile tg).weak = false → effClass v C.SPINE_SEGMENT_WEAK < 2 →
      (getSeg (checkWeak v tile tg) tile tg).weak = true ∧ (tile, endNo tg) ∈ (checkWeak v tile tg).tower.retest) ∧
    (∀ l i d r, x.holds = l ++ .resend i d :: r → (∀ h ∈ l, ∀ j e, h ≠ .resend j e) → ∃ t,
      exec (.resentBurstArrive tile tg data crc) s = .next t ∧ storeKept s t ∧
      (getSeg t tile tg).holds = l ++ .held i d data (crc16 data != crc) :: r ∧
      (crc16 data = crc → { t with tower := s.tower } = s)) ∧
    ((∀ h ∈ x.holds, ∀ j e, h ≠ .resend j e) → exec (.resentBurstArrive tile tg data crc) s = .next s) ∧
    ((∀ i d b p r, x.holds ≠ .held i d b p :: r) → exec (.spineBurstDeliver tile tg) s = .next s) ∧
    (∀ i d b p r, x.holds = .held i d b p :: r →
      (s.clk.cyc < d → exec (.spineBurstDeliver tile tg) s = .next s) ∧
      (d ≤ s.clk.cyc →
        let st := spineEnd s tile tg i p
        ∃ t, exec (.spineBurstDeliver tile tg) s = .next t ∧ (getSeg t tile tg).holds = r ∧ t.store = s.store ∧
          t.tower.out = some ⟨tile, tg, i, st, if st = .good ∨ st = .poisoned then b else []⟩ ∧
          (st = .good → t.deep = s.deep ∧ t.sys = s.sys) ∧
          (st = .poisoned → getF t F.TWR_LOST_COUNT tw = min (getF s F.TWR_LOST_COUNT tw + 1) (2 ^ F.TWR_LOST_COUNT.width - 1) ∧
            (∀ e ∈ t.deep.done, e.1.id = i → ∀ m ∈ e.2.2, m = true) ∧
            (∀ f ∈ t.deep.frags, f.id = i → ∀ m ∈ f.poison, m = true)) ∧
          (st ≠ .good → st ≠ .poisoned → (∀ e ∈ t.deep.done, e.1.id ≠ i) ∧
            ∀ e ∈ t.deep.slices, ∀ w ∈ e.2.rq.queue ++ e.2.rq.granted, w.id ≠ i) ∧
          ((st = .discarded ∨ st = .partitionDown) → ∀ f ∈ t.deep.frags, f.id ≠ i) ∧
          (st = .retry → (∃ e ∈ s.deep.done, e.1.id = i) → ∃ w ∈ t.deep.refused, w.txn.id = i ∧ w.retry = true)))

/-- R22 to R28, R34 to R38: layer clocks, aging, and resets. A lost PLL gives way to its locked standby, or both are lost; a tile below target gains one step of
2.5 mV up to the ceiling and never loses one; a reset is asked for under its key in Bench only, and its end brings the layer or the tower back. -/
def Obligations.TowerUpkeep : Prop :=
  ∀ (tw layer phys o : Nat) (v : W32) (below : BitVec 4) (s : State),
    let p := getPll s tw layer
    let a := getPhys s phys
    (p.standbyLock = true → ∃ t, exec (.layerPllSwitch tw layer) s = .next t ∧ storeKept s t ∧ (getPll t tw layer).useB = !p.useB ∧
      (getPll t tw layer).activeLock = true ∧ (getPll t tw layer).standbyLock = false) ∧
    (p.standbyLock = false → exec (.layerPllSwitch tw layer) s = exec (.layerPllLost tw layer) s) ∧
    (∃ t, exec (.layerPllLost tw layer) s = .next t ∧ (getPll t tw layer).lockA = false ∧ (getPll t tw layer).lockB = false) ∧
    (agingPeriod s phys = none → exec (.agingEval phys below) s = .next s) ∧
    (∀ n, agingPeriod s phys = some n → (a.lastEval = 0 ∨ passed s a.lastEval n = true) →
      (below = 0 → ∃ t, exec (.agingEval phys below) s = .next t ∧ (getPhys t phys).age = a.age ∧ (getPhys t phys).ageKnown = true ∧
        (getPhys t phys).lastEval = elapsedNs s ∧ { t with tower := s.tower } = s) ∧
      (below ≠ 0 → setPoint s phys < 360 → ∃ t, exec (.agingEval phys below) s = .next t ∧ (getPhys t phys).age = a.age + 1 ∧
        (getPhys t phys).lastEval = elapsedNs s ∧ storeKept s t) ∧
      (below ≠ 0 → 360 ≤ setPoint s phys → ∃ u, exec (.agingEval phys below) s = .next (shutterTile u phys true) ∧
        (getPhys u phys).age = a.age)) ∧
    (bits v.toNat 16 16 ≠ 0x7A11 ∨ inBench s = false → exec (.layerReq tw v o) s = .next (record s C.KEY_REFUSED tw o) ∧
      exec (.partitionReq tw v o) s = .next (record s C.KEY_REFUSED tw o)) ∧
    (bits v.toNat 16 16 = 0x7A11 → inBench s = true → phase s = 0 →
      (v.toNat.testBit 8 = true → partitionDown s tw = false → ∃ t, exec (.partitionReq tw v o) s = .next t ∧
        exec (.layerReq tw v o) s = .next t ∧ t.tower.resets = s.tower.resets ++ [⟨tw, none, o, elapsedNs s, false⟩] ∧
        getF t F.TWR_STATUS_LAYER_RST tw = 255 ∧ getB t F.TWR_STATUS_PARTITION_UP tw = false) ∧
      (∀ l, l < 8 → bits v.toNat 0 9 = 2 ^ l → inReset s tw l = false → ∃ t, exec (.layerReq tw v o) s = .next t ∧
        exec (.partitionReq tw v o) s = .next t ∧ t.tower.resets = s.tower.resets ++ [⟨tw, some l, o, elapsedNs s, false⟩] ∧
        getB t F.TWR_STATUS_PARTITION_UP tw = false)) ∧
    (s.tower.resets.any (fun r => r.tower == tw && r.layer == some layer) = false → exec (.layerResetDone tw layer) s = .next s) ∧
    (s.tower.resets.any (fun r => r.tower == tw && r.layer == some layer) = true → ∃ t, exec (.layerResetDone tw layer) s = .next t ∧
      t.tower.resets = s.tower.resets.filter (fun r => !(r.tower == tw && r.layer == some layer)) ∧
      getF t F.TWR_STATUS_LAYER_RST tw = getF s F.TWR_STATUS_LAYER_RST tw &&& (255 - 2 ^ layer) ∧
      getB t F.TWR_STATUS_PARTITION_UP tw = (getF t F.TWR_STATUS_LAYER_RST tw == 0)) ∧
    (partitionDown s tw = true → ∃ t, exec (.partitionResetDone tw) s = .next t ∧ (∀ r ∈ t.tower.resets, r.tower ≠ tw) ∧
      getF t F.TWR_STATUS_LAYER_RST tw = 0 ∧ getB t F.TWR_STATUS_PARTITION_UP tw = true) ∧
    (partitionDown s tw = false → exec (.partitionResetDone tw) s = .next s)

/-- R127 to R129, R132, R133, R366, R433: a frame of duty k has k pause slots; a frame begins every 1,024 dome cycles with the largest duty
requested, and a pause slot holds the device to the end of its 64 cycles; a due mark opens the segment of the step with every gate cycle at
its start, or sends a job whose checkpoint load has not ended to HOLD. -/
def Obligations.PauseAndMarks : Prop :=
  ∀ (s : State),
    (∀ k, k < 16 → ((List.range 16).filter (isPauseSlot k)).length = k) ∧
    (s.clk.running = true → s.eph.frame + 1024 ≤ s.clk.cyc → ∃ t, exec .pauseFrameBoundary s = .next t ∧ t.eph.frame = s.eph.frame + 1024 ∧
      (s.thm.rateDue = false → s.pwr.hwDue = false → getF t F.PAUSE_STATUS_DUTY 0 =
        max (getF s F.PAUSE_STATUS_THERMAL_REQ 0) (max (max (getF s F.PWR_STATUS_CAP_REQ 0) (getF s F.PWR_STATUS_HW_REQ 0) % 16)
          (getF s F.PAUSE_STATUS_FW_REQ 0)) % 16)) ∧
    ((s.clk.running = false ∨ s.clk.cyc < s.eph.frame + 1024) → exec .pauseFrameBoundary s = .next s) ∧
    (s.clk.running = true → s.eph.inSlot = false → slotNow s < 16 → isPauseSlot (getF s F.PAUSE_STATUS_DUTY 0) (slotNow s) = true →
      ∃ t, exec .pauseSlotBegin s = .next t ∧ paused t = true ∧ t.eph.slotUntil = s.eph.frame + 64 * (slotNow s + 1) ∧
        getF t F.PAUSE_SLOTS_COUNT 0 = (getF s F.PAUSE_SLOTS_COUNT 0 + 1) % 2 ^ 64 ∧ t.store = s.store) ∧
    (s.eph.inSlot = true ∨ isPauseSlot (getF s F.PAUSE_STATUS_DUTY 0) (slotNow s) = false → exec .pauseSlotBegin s = .next s) ∧
    (s.eph.inSlot = true → s.eph.slotUntil ≤ s.clk.cyc → exec .pauseSlotEnd s = .next { s with eph := { s.eph with inSlot := false } }) ∧
    (s.clk.cyc < s.eph.slotUntil → exec .pauseSlotEnd s = .next s) ∧
    (markDue s = false → exec .epochMark s = .next s) ∧
    (markDue s = true → (phase s ≠ 7 ∨ s.mer.loading = none) → ∃ t, exec .epochMark s = .next t ∧ phase t = 1 ∧ segCycle t = 0 ∧
      t.eph.inSegment = true ∧ t.eph.causes = [] ∧ t.mer.nextClear = 0 ∧ t.mer.verdict = 31 &&& (127 - s.mer.nextClear) ∧
      getF t F.SEG_STEP_STEP 0 = stepNow s % 2 ^ 64 ∧ (slotOf t (stepNow s)).state = 1 ∧ t.store = s.store ∧
      ∀ e ∈ t.net.ports, e.2.gate = 0 ∧ e.2.gateStart = nowNs s) ∧
    (markDue s = true → phase s = 7 → s.mer.loading.isSome → ∃ u, exec .epochMark s = .next (enterHold (record u C.CKPT_UNREADABLE 0)) ∧
      u.mer.loading = none ∧ u.eph.nextMark = none ∧ u.mcc.job = none)

/-- R111 to R119, R144, R145: a bundle is fetched with its descriptors, or for recovery and a second fetch where a word of it is poisoned; the due bundle issues its array slot
on an idle datapath, its control codes and its lane slot; a slot that finds the datapath busy stalls the sync group. -/
def Obligations.BundleIssue : Prop :=
  ∀ (t : Nat) (s : State),
    let e := getEph s t
    let offs := fetchOffs s t e.nextFetch
    let noted := offs.foldl (fun s o => noteFocal s (focalAddr t o / 32 * 32) 1) s
    (s.eph.inSegment = true → e.refetch = none → e.nextFetch < getF s F.EPH_LEN_COUNT t →
      ((∃ o ∈ offs, (fetchWord s t o).2 = true) → ∃ v, exec (.bundleFetch t) s = .next v ∧ (getEph v t).refetch = some (e.nextFetch, 0) ∧
        (getEph v t).queue = e.queue) ∧
      ((∀ o ∈ offs, (fetchWord s t o).2 = false) → exec (.bundleFetch t) s = .next (pushBundle noted t e.nextFetch))) ∧
    ((s.eph.inSegment = false ∨ e.refetch.isSome ∨ getF s F.EPH_LEN_COUNT t ≤ e.nextFetch) → exec (.bundleFetch t) s = .next s) ∧
    (e.refetch = none → exec (.bundleRefetch t) s = .next s) ∧
    (∀ i k, e.refetch = some (i, k) → (∃ r ∈ s.store.recov, ∃ o ∈ fetchOffs s t i, r.page = focalAddr t o / 4096 * 4096) →
      exec (.bundleRefetch t) s = .next s) ∧
    (∀ i k, e.refetch = some (i, k) → (∀ r ∈ s.store.recov, ∀ o ∈ fetchOffs s t i, r.page ≠ focalAddr t o / 4096 * 4096) →
      ((∀ o ∈ fetchOffs s t i, (fetchWord s t o).2 = false) → exec (.bundleRefetch t) s = .next (pushBundle s t i)) ∧
      ((∃ o ∈ fetchOffs s t i, (fetchWord s t o).2 = true) →
        exec (.bundleRefetch t) s = .next (shutterLogical (record s C.BUNDLE_POISON_KEPT t) t))) ∧
    (∀ f, frontDue s t (·.arr) = some f → ∃ v p, exec (.arraySlot t) s = .next v ∧ (getArr v t).op = some p ∧ p.desc = f.adesc ∧
      p.bundle = f.idx ∧ p.rerun = false ∧ v.store = s.store) ∧
    (frontDue s t (·.arr) = none → exec (.arraySlot t) s = .next (holdBusy s t)) ∧
    exec (.heldArrayIssue t) s = exec (.arraySlot t) (clearIdle s t) ∧
    (dpBusy s t = false → ∀ c ∈ (clearIdle s t).eph.causes, c.tile = t → c.cause ≠ 3) ∧
    (∀ f, frontDue (clearIdle s t) t (·.arr) = some f → ∃ v p, exec (.heldArrayIssue t) s = .next v ∧ (getArr v t).op = some p ∧
      p.desc = f.adesc ∧ p.bundle = f.idx ∧ p.rerun = false ∧ v.store = s.store) ∧
    (dpBusy s t = true → ∃ v, exec (.heldArrayIssue t) s = .next v ∧ v.arr = s.arr ∧ v.store = s.store) ∧
    (∀ f, frontDue s t (·.ctl) = some f → bCtl f.word = 1 → ∃ v, exec (.gather t) s = .next v ∧ (getEph v t).gathered = true ∧
      (phase s = 1 → phase v = 2) ∧ v.store = s.store) ∧
    (∀ f, frontDue s t (·.ctl) = some f → bCtl f.word = 2 → ∃ v, exec (.segEnd t) s = .next v ∧ (getEph v t).ended = true ∧
      phase v = phase s ∧ v.store = s.store) ∧
    (∀ f, frontDue s t (·.lane) = some f → bLop f.word = 0 → ∃ v x, exec (.launch t) s = .next v ∧
      (getLane v t).tasks = (getLane s t).tasks ++ [x] ∧ x.id = s.lane.nextTask ∧ x.groups = bGroups f.word ∧ x.token = bToken f.word ∧
      x.resident = false ∧ mget (getEph v t).tokens (bToken f.word) (0, 0) = (s.lane.nextTask + 1, f.idx)) ∧
    (∀ f, frontDue s t (·.lane) = some f → bLop f.word = 1 →
      (∀ v, v = retireSlot (settleAll (slotDone s t { f.left with lane := false }) t) t f.idx →
        (openTask v t (bToken f.word) = none → exec (.join t) s = .next v) ∧
        (∀ id b, openTask v t (bToken f.word) = some (id, b) →
          (findTask v t id = none → ∃ u, exec (.join t) s = .next u ∧ mget (getEph u t).tokens (bToken f.word) (0, 0) = (0, 0) ∧
            u.eph.causes = v.eph.causes ∧ u.store = s.store) ∧
          (∀ x, findTask v t id = some x → ∃ u, exec (.join t) s = .next u ∧ mget (getEph u t).tokens (bToken f.word) (0, 0) = (0, 0) ∧
            ⟨t, 2, id⟩ ∈ u.eph.causes ∧ (phase u = 1 ∨ phase u = 2 → u.mer.verdict.testBit vSlackOk = false))))) ∧
    (∀ f, (getEph s t).queue.head? = some f → isDue s (getEph s t) f = true → f.left.arr = true → dpBusy s t = true →
      ⟨t, 3, f.idx⟩ ∈ (holdBusy s t).eph.causes)

/-- R113, R115, R118, R216, R226, R323: the due bundle's mover or network slot starts a transfer with the fields of its descriptor and the next transfer number. A SEND, an EXPECT and
a COLL start one as well; blocks held for them are taken at once. -/
def Obligations.SlotTransfers : Prop :=
  ∀ (t : Nat) (s : State),
    (∀ p ∈ moverRows,
      (∀ f, movDue s t p.2.1 = some f → ∃ v x, exec (p.1 t) s = .next v ∧ v.eph.xfers = s.eph.xfers ++ [x] ∧ v.eph.nextId = s.eph.nextId + 1 ∧
        carries x s.eph.nextId t p.2.2 f.mdesc f) ∧
      (movDue s t p.2.1 = none → exec (p.1 t) s = .next (holdBusy s t))) ∧
    (∀ f, netDue s t 0 = some f → ∃ v x, exec (.send t) s = .next v ∧ v.eph.xfers = s.eph.xfers ++ [x] ∧ v.eph.nextId = s.eph.nextId + 1 ∧
      carries x s.eph.nextId t .send f.ndesc f ∧ x.left = ceilDiv (xSize f.ndesc) 4096 ∧ v.store = s.store) ∧
    (∀ f, netDue s t 1 = some f → s.net.held = [] → ∃ v x w, exec (.expect t) s = .next v ∧ v.eph.xfers = s.eph.xfers ++ [x] ∧
      carries x s.eph.nextId t .expect f.ndesc f ∧ v.net.recv = s.net.recv ++ [w] ∧ w.xfer = x.id ∧ w.stream = xRemote f.ndesc % 65536 ∧
      w.landed = [] ∧ v.store = s.store) ∧
    (∀ f, netDue s t 1 = some f → ∃ v, exec (.expect t) s = .next v ∧ v.eph.nextId = s.eph.nextId + 1) ∧
    (∀ f, netDue s t 2 = some f → ∃ v, exec (.coll t) s = .next v ∧ v.eph.nextId = s.eph.nextId + 1) ∧
    (∀ f, netDue s t 2 = some f → s.net.held = [] → phasesOf s (xRemote f.ndesc % 65536) = [] → ∃ v x, exec (.coll t) s = .next v ∧
      v.eph.xfers = s.eph.xfers ++ [x] ∧ carries x s.eph.nextId t .coll f.ndesc f ∧
      v.net.colls = s.net.colls ++ [⟨x.id, xRemote f.ndesc % 65536, 0, [], []⟩]) ∧
    (netDue s t 0 = none → exec (.send t) s = .next (holdBusy s t)) ∧
    (netDue s t 1 = none → exec (.expect t) s = .next (holdBusy s t)) ∧
    (netDue s t 2 = none → exec (.coll t) s = .next (holdBusy s t))

/-- R114, R118, R120 to R123, R131, R366: a transfer whose data has come lands once no extent holds it and retires; an accepted store or co-add retires; a deadline passed is recorded
and stalls the sync group; a stall beyond its limit abandons the segment; a segment whose work has all ended enters VOTE. -/
def Obligations.LandingsAndLateness : Prop :=
  ∀ (id : Nat) (s : State),
    (∀ x, findX s id = some x → x.kind = .mesh → meshCycle x ≤ segCycle s → paused s = false →
      (extentHeld s (landPlace x).1 (landPlace x).2 (landSpan x) = true →
        exec (.meshLand id) s = .next (addCause s (landPlace x).1 4 x.id)) ∧
      (extentHeld s (landPlace x).1 (landPlace x).2 (landSpan x) = false → ∃ t, exec (.meshLand id) s = .next t ∧
        (∀ y ∈ t.eph.xfers, y.id ≠ id) ∧ (∀ c ∈ t.eph.causes, c ∈ s.eph.causes))) ∧
    (∀ x, findX s id = some x → (segCycle s < meshCycle x ∨ paused s = true) → exec (.meshLand id) s = .next s) ∧
    (let u := collect s id
     ∀ x, findX u id = some x →
      ((x.kind = .load ∨ x.kind = .turn) → x.left = 0 → paused s = false → exec (.moverLand id) s = .next (landXfer u x)) ∧
      ((x.kind = .load ∨ x.kind = .turn) → x.left = 0 → paused s = false →
        extentHeld u (landPlace x).1 (landPlace x).2 (landSpan x) = false → ∃ t, exec (.moverLand id) s = .next t ∧ ∀ y ∈ t.eph.xfers, y.id ≠ id) ∧
      (x.left ≠ 0 → exec (.moverLand id) s = .next u ∧ exec (.moverAccepted id) s = .next u) ∧
      ((x.kind = .store ∨ x.kind = .coadd) → x.left = 0 → ∃ t, exec (.moverAccepted id) s = .next t ∧ (∀ y ∈ t.eph.xfers, y.id ≠ id) ∧
        t.store = s.store)) ∧
    (∀ x, findX s id = some x → hasDeadline x = true → x.late = none → s.eph.inSegment = true → x.arrival + x.slack < segCycle s →
      ∃ t, exec (.slackOverrun id) s = .next t ∧ ⟨x.tile, 1, id⟩ ∈ t.eph.causes ∧
        getF t F.OVERRUN_COUNT_COUNT 0 = min (getF s F.OVERRUN_COUNT_COUNT 0 + 1) (2 ^ 32 - 1) ∧
        (getB s F.OVERRUN_CAPTURE_VALID 0 = false → getB t F.OVERRUN_CAPTURE_VALID 0 = true)) ∧
    (∀ x, findX s id = some x → (hasDeadline x = false ∨ x.late.isSome ∨ segCycle s ≤ x.arrival + x.slack) →
      exec (.slackOverrun id) s = .next s) ∧
    (∀ b, s.eph.stallStart = some b → s.eph.inSegment = true → b + stallLimitNs s < elapsedNs s →
      ∃ u, exec .stallTimeout s = .next (abandonSegment (clearVerdict u vSlackOk)) ∧ storeKept s u) ∧
    (s.eph.stallStart = none → exec .stallTimeout s = .next s) ∧
    ((phase s = 1 ∨ phase s = 2) → segmentDone s = true → exec .voteEntry s = .next (enterVote s)) ∧
    (segmentDone s = false → exec .voteEntry s = .next s) ∧
    (∀ x, findX s id = some x → s.eph.causes.any (fun c => c.cause == 4 && c.key == id) = true →
      (x.kind ≠ .expect → readyToLand x = false → exec (.heldLandingRelease id) s = .next s) ∧
      (x.kind ≠ .expect → readyToLand x = true → exec (.heldLandingRelease id) s = .next (landXfer s x)) ∧
      (x.kind = .expect → s.net.held = [] → exec (.heldLandingRelease id) s =
        .next (dropCauses s x.tile (fun c => c.cause == 4 && c.key == id)))) ∧
    (s.eph.causes.any (fun c => c.cause == 4 && c.key == id) = false → exec (.heldLandingRelease id) s = .next s)

/-- R66, R118, R320, R321, R323, R324, R328, R330: a SEND's blocks are copied, while no finder streams and the replay buffer has room, and the SEND retires at the copy's end; a port that is ready and whose gate is
open sends its next block, re-sends first, and counts it; a NAK marks the held blocks it names; a block whose HOLD has ended leaves the
buffer; a gate entry that has ended gives way to the next, and the frames that waited for it go. -/
def Obligations.BlocksSent : Prop :=
  ∀ (id port : Nat) (b : BlockFrame) (s : State),
    (∀ x, findX s id = some x → x.kind = .send →
      (finderStreams s x.tile = true → exec (.sendCopyEnd id) s = .next s ∧ exec (.heldSendCopy id) s = .next s) ∧
      (finderStreams s x.tile = false → exec (.sendCopyEnd id) s = .next (copySend s x)) ∧
      (finderStreams s x.tile = false → s.eph.causes.any (fun c => c.cause == 6 && c.key == x.id) = true →
        exec (.heldSendCopy id) s = .next (copySend s x)) ∧
      (s.eph.causes.any (fun c => c.cause == 6 && c.key == x.id) = false → exec (.heldSendCopy id) s = .next s) ∧
      (x.left = 0 → finderStreams s x.tile = false → (routeTo s (x.remote % 65536) none).isSome → ∃ t, exec (.sendCopyEnd id) s = .next t ∧
        t.store = s.store ∧ ∀ y ∈ t.eph.xfers, y.id ≠ id)) ∧
    (∀ x r, findX s id = some x → x.kind = .send → finderStreams s x.tile = false → x.left = 1 → x.size ≤ 4096 → 0 < x.size →
      routeTo s (x.remote % 65536) none = some r →
      replayFull s (portOf s r) = false → (∀ y ∈ s.eph.xfers, y.id = id → y = x) → ∃ t w, exec (.sendCopyEnd id) s = .next t ∧
        t.net.replay = s.net.replay ++ [w] ∧ w.hdr.payload = (readBytes s (focalAddr x.tile x.loc) x.size).1 ∧ w.hdr.stream = r.stream ∧
        w.hdr.seq = x.tag % 4294967296 ∧ w.hdr.dst = r.peer ∧ w.hdr.flags = 1 ∧ w.sent = none ∧ ∀ y ∈ t.eph.xfers, y.id ≠ id) ∧
    (nextTx s port = none → exec (.blockTransmit port) s = .next s) ∧
    (∀ w, nextTx s port = some w → portReady s port = true → gateOpen s port w.cls (blockWire s port w.hdr) = true →
      let b' := stamped s w
      ∃ t, exec (.blockTransmit port) s = .next t ∧ storeKept s t ∧
        (∀ r, b'.poison = 0 → routeTo s b'.stream (some b'.dst) = some r → ∃ hd, t.net.out = s.net.out ++ [.block port hd b']) ∧
        t.net.replay = replaceTx w { w with hdr := b', sent := some (w.sent.getD (elapsedNs s)), resend := false } s.net.replay ∧
        (w.sent = none → getF t F.PRT_BLK_TX_COUNT port =
          min (getF s F.PRT_BLK_TX_COUNT port + 1) (2 ^ F.PRT_BLK_TX_COUNT.width - 1)) ∧
        (w.sent.isSome → getF t F.PRT_RESENT_COUNT port =
          min (getF s F.PRT_RESENT_COUNT port + 1) (2 ^ F.PRT_RESENT_COUNT.width - 1)) ∧
        b'.payload = w.hdr.payload ∧ ((∃ v ∈ s.net.replay, v.port = port ∧ v.resend = true) → w.resend = true)) ∧
    (∀ w, nextTx s port = some w → (portReady s port = false ∨ gateOpen s port w.cls (blockWire s port w.hdr) = false) →
      exec (.blockTransmit port) s = .next s) ∧
    (blockPasses b = true → portReady s port = true → b.version = 1 → b.type = 1 → ∃ t, exec (.nakReceive port b) s = .next t ∧
      getF t F.PRT_NAK_RX_COUNT port = min (getF s F.PRT_NAK_RX_COUNT port + 1) (2 ^ F.PRT_NAK_RX_COUNT.width - 1) ∧
      t.net.replay.length = s.net.replay.length ∧ storeKept s t ∧
      ∀ w ∈ s.net.replay, w.hdr.stream = b.stream → w.hdr.dst = b.src → w.hdr.seq = b.seq → w.sent.isSome → { w with resend := true } ∈ t.net.replay) ∧
    ((blockPasses b = false ∨ portReady s port = false) → exec (.nakReceive port b) s = .next s) ∧
    (∃ t, exec (.replayHoldExpire port) s = .next t ∧ t.store = s.store ∧ t.eph = s.eph ∧
      (s.net.txq = [] → t.net.replay = s.net.replay.filter (fun w => !(w.port == port && !w.resend &&
        (match w.sent with | some e => decide (e + w.hold ≤ elapsedNs s) | none => false))))) ∧
    (let g := gatesFor s port
     let x := getPort s port
     let y := { x with gate := (x.gate + 1) % g.length, gateStart := x.gateStart + g.getD (x.gate % g.length) 0 / 256 }
     (g ≠ [] → y.gateStart ≤ nowNs s → exec (.gateEntryExpire port) s = .next (sendGated (setPort s port y) port) ∧
       ((∀ w ∈ s.net.gated, w.port ≠ port) → exec (.gateEntryExpire port) s = .next (setPort s port y))) ∧
     ((g = [] ∨ nowNs s < y.gateStart) → exec (.gateEntryExpire port) s = .next s))

/-- R325 to R327, R343, R345: a block is taken only on a port that is ready and when it passes its checks; one of another form is dropped and counted, a duplicate is discarded, one for
an EXPECT lands at its place, one of a later step waits when a transfer awaits it. Blocks missing one re-send time after a NAK, or past the ARRIVAL cycle, are NAKed again; a collective with every phase ended retires. -/
def Obligations.BlocksReceived : Prop :=
  ∀ (id port : Nat) (b : BlockFrame) (s : State),
    (portReady s port = false → exec (.blockReceive port b) s = .next s) ∧
    (blockPasses b = false → b.hchk ≠ blockHchk b → exec (.blockReceive port b) s = .next s) ∧
    (portReady s port = true → (blockPasses b = true ∨ b.hchk = blockHchk b) → (b.version ≠ 1 ∨ 1 < b.type) →
      exec (.blockReceive port b) s = .next (incF s F.PRT_DROP_COUNT port 1)) ∧
    (portReady s port = true → blockPasses b = true → b.version = 1 → b.type = 1 →
      exec (.blockReceive port b) s = exec (.nakReceive port b) s) ∧
    (portReady s port = true → blockPasses b = false → b.hchk = blockHchk b → b.version = 1 → b.type = 0 →
      exec (.blockReceive port b) s = .next (nakBad s b)) ∧
    (portReady s port = true → blockPasses b = true → b.version = 1 → b.type = 0 → ¬ (s.eph.inSegment = true ∧ b.step < getF s F.SEG_STEP_STEP 0) →
      (∀ v x, b.step ≤ getF s F.SEG_STEP_STEP 0 → expectFor s b = some (v, x) → v.landed.contains (blockKey false b) = true → exec (.blockReceive port b) s = .next s) ∧
      (∀ v x, b.step ≤ getF s F.SEG_STEP_STEP 0 → expectFor s b = some (v, x) → v.landed = [] → b.seq = x.tag → x.tag < 4294967296 → b.poison = 0 →
        extentHeld s x.tile x.loc b.payload.length = false → 1 < x.left → ∃ t, exec (.blockReceive port b) s = .next t ∧
          t.store = (writeBytes s (focalAddr x.tile x.loc) b.payload (blockMarks b)).store ∧
          findX t x.id = some { x with left := x.left - 1 } ∧
          getF t F.PRT_BLK_RX_COUNT port = min (getF s F.PRT_BLK_RX_COUNT port + 1) (2 ^ F.PRT_BLK_RX_COUNT.width - 1)) ∧
      (getF s F.SEG_STEP_STEP 0 < b.step → awaited s b = true → exec (.blockReceive port b) s = .next (holdBlock s port b)) ∧
      ((getF s F.SEG_STEP_STEP 0 < b.step ∨ expectFor s b = none ∧ collFor s b = none ∧ s.net.ended.contains (endedKey b) = false) →
        awaited s b = false → exec (.blockReceive port b) s = .next (record s C.ORPHAN_BLOCK port))) ∧
    (∀ v k m r n, findRecv s id = some v → (missingOf v (recvKeys s v)).filter (fun k => mget v.naks k 0 != 0) = k :: m →
      v.lastNak = some n → recvRoute s v k.1 = some r →
      (n + resendNs s r ≤ elapsedNs s → exec (.nakRepeat id) s = .next (nakKeys s v (k :: m))) ∧
      (elapsedNs s < n + resendNs s r → exec (.nakRepeat id) s = .next s)) ∧
    (∀ v x, findRecv s id = some v → findX s id = some x →
      (s.eph.inSegment = true → v.arrivalNak = false → x.arrival < segCycle s → missingOf v (recvKeys s v) ≠ [] → ∃ t,
        exec (.expectArrivalPass id) s = .next t ∧ t.store = s.store ∧ ∀ w, findRecv t id = some w → w.arrivalNak = true) ∧
      ((v.arrivalNak = true ∨ segCycle s ≤ x.arrival ∨ missingOf v (recvKeys s v) = []) → exec (.expectArrivalPass id) s = .next s)) ∧
    (∀ x c, findX s id = some x → findRun s id = some c → runPhase s c = none →
      (∀ w ∈ s.net.txq, w.hdr.stream = c.id → w.hdr.flags.testBit 2 = false) → ∃ t, exec (.collComplete id) s = .next t ∧
        (∀ y ∈ t.eph.xfers, y.id ≠ id) ∧ (∀ d ∈ t.net.colls, d.xfer ≠ id) ∧ t.store = s.store) ∧
    (∀ c, findRun s id = some c → (runPhase s c).isSome → exec (.collComplete id) s = .next s)

/-- R144 to R148, R157, R158, R165, R169, R171, R172, R186: a launched task takes its slots when there are enough; it ends with its last group and store; a load's data and a store's acceptance reach
their group; the watchdogs fault a group at their limits; a complete barrier starts again; a free datapath goes to the group that asked first; a parity error faults its group,
and the third within a second shutters the tile. -/
def Obligations.LaneEvents : Prop :=
  ∀ (t slot k lane : Nat) (s : State),
    ((getLane s t).tasks.find? (fun x => !x.resident) = none → exec (.taskResident t) s = .next s) ∧
    (∀ x, (getLane s t).tasks.find? (fun x => !x.resident) = some x →
      ((freeSlots s t).length < x.groups ∨ paused s = true → exec (.taskResident t) s = .next s) ∧
      (x.groups ≤ (freeSlots s t).length → paused s = false → ∃ v, exec (.taskResident t) s = .next v ∧
        (getLane v t).lines = [] ∧ (∀ j u, (freeSlots s t)[j]? = some u → j < x.groups →
        ∃ g, getGroup v t u = some g ∧ g.task = x.id ∧ g.index = j ∧ g.pc = x.code ∧ g.mask = 0xFFFFFFFF ∧ g.stack = [] ∧ g.wait = .none) ∧
        (∀ j u, (freeSlots s t)[j]? = some u → x.groups ≤ j → getGroup v t u = none))) ∧
    (findTask s t k = none → exec (.taskEnd t k) s = .next s) ∧
    (∀ x, findTask s t k = some x → x.resident = true → taskSlots s t k = [] → x.stores = 0 → ∃ v, exec (.taskEnd t k) s = .next v ∧
      findTask v t x.id = none ∧ (getLane v t).groups = (getLane s t).groups ∧ v.store = s.store ∧
      ∀ c ∈ v.eph.causes, c.tile = t → c.cause = 2 → c.key ≠ x.id) ∧
    (∀ x, findTask s t k = some x → (x.resident = false ∨ taskSlots s t k ≠ [] ∨ x.stores ≠ 0) → exec (.taskEnd t k) s = .next s) ∧
    ((∀ e ∈ s.deep.done, e.1.owner ≠ .laneLoad t slot) → exec (.globalLoadReturn t slot) s = .next s) ∧
    (∃ v, exec (.globalLoadReturn t slot) s = .next v ∧ v.store = s.store ∧
      v.deep.done = s.deep.done.filter (fun e => e.1.owner != .laneLoad t slot)) ∧
    (∀ e g a, s.deep.done = [e] → e.1.owner = .laneLoad t slot → getGroup s t slot = some g → (getLane s t).accesses = [a] → a.slot = slot →
      a.prefetch = false → a.lines = [e.1.addr] → ∃ v h, exec (.globalLoadReturn t slot) s = .next v ∧ v.deep.done = [] ∧
        (getLane v t).accesses = [] ∧ getGroup v t slot = some h ∧ h.wait = .none ∧ h.pc = g.pc + 8 ∧
        h.vreg = (fillLanes g a.reg a.scalar a.size (a.got ++ [⟨e.1.addr, e.2.1, e.2.2⟩]) a.lanes).vreg ∧
        h.sreg = (fillLanes g a.reg a.scalar a.size (a.got ++ [⟨e.1.addr, e.2.1, e.2.2⟩]) a.lanes).sreg) ∧
    (∀ e g, s.deep.done = [e] → e.1.owner = .laneStore t slot g.task → getGroup s t slot = some g → 1 < g.stores → ∃ v h,
      exec (.globalStoreAccepted t slot) s = .next v ∧ v.deep.done = [] ∧ getGroup v t slot = some h ∧ h.stores = g.stores - 1 ∧ h.pc = g.pc) ∧
    ((∀ e ∈ s.deep.done, ∀ j, e.1.owner ≠ .laneStore t slot j) → exec (.globalStoreAccepted t slot) s = .next s) ∧
    (∀ g c, getGroup s t slot = some g → g.lockStart = some c → paused s = false → c + 1048576 ≤ s.clk.laneCyc →
      exec (.lockStall t slot) s = .next (groupFault s t slot C.LOCK_STALL 0)) ∧
    (∀ g, getGroup s t slot = some g → (∀ c, g.lockStart = some c → s.clk.laneCyc < c + 1048576) → exec (.lockStall t slot) s = .next s) ∧
    ((paused s = true ∨ getGroup s t slot = none) → exec (.lockStall t slot) s = .next s ∧ exec (.barrierTimeout t slot) s = .next s) ∧
    (∀ g c, getGroup s t slot = some g → c ∈ barrierStarts s t g → paused s = false → c + barLimit s t (findTask s t g.task) ≤ s.clk.laneCyc →
      exec (.barrierTimeout t slot) s = .next (groupFault s t slot C.BARRIER_TIMEOUT 0)) ∧
    (∀ g, getGroup s t slot = some g → (∀ c ∈ barrierStarts s t g, s.clk.laneCyc < c + barLimit s t (findTask s t g.task)) →
      exec (.barrierTimeout t slot) s = .next s) ∧
    (∀ c l g, getGroup s t slot = some g → findTask (groupFault s t slot c l) t g.task = none ∧
      (getB s F.LANE_FAULT_VALID t = false → getF (groupFault s t slot c l) F.LANE_FAULT_CODE t = c.code % 256 ∧
        getF (groupFault s t slot c l) F.LANE_FAULT_PC_PC t = g.pc % 2 ^ F.LANE_FAULT_PC_PC.width)) ∧
    (let x := mget s.lane.bars k {}
     (paused s = false → x.members ≠ [] → (∀ m ∈ x.members, m ∈ x.arrived) → ∃ v, exec (.namedBarrierComplete k) s = .next v ∧
       mget v.lane.bars k {} = { x with arrived := [], start := none } ∧ v.store = s.store) ∧
     ((paused s = true ∨ x.members = [] ∨ ∃ m ∈ x.members, m ∉ x.arrived) → exec (.namedBarrierComplete k) s = .next s)) ∧
    (∀ u r, macqSlots s t = u :: r → dpBusy s t = false → paused s = false → ∀ g, getGroup s t u = some g → exec (.arrayOwnershipGrant t) s =
      .next (putGroup (setArr s t { getArr s t with owner := some u }) t u (some { g with wait := .none, pc := g.pc + 8 }))) ∧
    ((macqSlots s t = [] ∨ dpBusy s t = true ∨ paused s = true) → exec (.arrayOwnershipGrant t) s = .next s) ∧
    (getGroup s t slot = none → exec (.lregParity t slot lane) s = .next s) ∧
    (let u := groupFault s t slot C.LREG_PARITY lane
     (getGroup s t slot).isSome →
      ((getLane u t).parity = [] → exec (.lregParity t slot lane) s = .next (setLane u t { getLane u t with parity := [elapsedNs u] })) ∧
      (∀ a b, (getLane u t).parity = [a, b] → elapsedNs u < a + 1000000000 → elapsedNs u < b + 1000000000 →
        ∃ v, exec (.lregParity t slot lane) s = .next (shutterLogical (record v C.LANE_REPEAT t) t) ∧ (getLane v t).parity = [] ∧
          physOf v t = physOf u t ∧ v.store = u.store))

/-- R178 to R181: DBG_CTL acts under its key in Bench. HALT stops a group before its next instruction, and holds the device at once outside a segment; STEP runs one instruction of the
halted group; RESUME lets it run; DBG_DATA writes the register that DBG_SEL names, and nothing while no group is halted. -/
def Obligations.DebugHalt : Prop :=
  ∀ (t o : Nat) (v : W32) (s : State),
    let slot := bits v.toNat 0 5
    let key := bits v.toNat 16 16 = 0x0B5E ∧ inBench s = true
    (¬ key → exec (.dbgCtlHalt t v o) s = .next (record s C.KEY_REFUSED t o) ∧ exec (.dbgCtlStep t v o) s = .next (record s C.KEY_REFUSED t o) ∧
      exec (.dbgCtlResume t v o) s = .next (record s C.KEY_REFUSED t o)) ∧
    (∀ g, key → bits v.toNat 5 3 = 1 → getGroup s t slot = some g → haltedAt s = none → ∃ u, exec (.dbgCtlHalt t v o) s = .next u ∧
      getGroup u t slot = some { g with halted := true } ∧ (getLane u t).haltSlot = some slot ∧
      (s.eph.inSegment = false → u.eph.debugHalt = true) ∧ (s.eph.inSegment = true → u.eph = s.eph) ∧ u.store = s.store ∧ u.sys = s.sys) ∧
    (∀ g, key → bits v.toNat 5 3 = 2 → getGroup s t slot = some g → g.halted = true → g.wait = .none → s.eph.debugHalt = true →
      let issued' := incF s F.LANE_ISSUE_COUNT t 1
      (∀ i, decodeLane t slot (fetchLane s t g.pc) = some i → instrHold i s g = none →
        let u := laneBody i issued' g
        ∃ w, exec (.dbgCtlStep t v o) s = .next w ∧ w.store = u.store ∧ w.lane = u.lane ∧ w.deep = u.deep ∧ w.flt = u.flt) ∧
      (∀ i u, decodeLane t slot (fetchLane s t g.pc) = some i → instrHold i s g = some u →
        ∃ w, exec (.dbgCtlStep t v o) s = .next w ∧ w.store = u.store ∧ w.lane = u.lane ∧ w.deep = u.deep ∧ w.flt = u.flt) ∧
      (decodeLane t slot (fetchLane s t g.pc) = none →
        let u := illegal issued' t slot
        ∃ w, exec (.dbgCtlStep t v o) s = .next w ∧ w.store = u.store ∧ w.lane = u.lane ∧ w.deep = u.deep ∧ w.flt = u.flt)) ∧
    (∀ g, key → bits v.toNat 5 3 = 2 → getGroup s t slot = some g → (g.halted = false ∨ s.eph.debugHalt = false) →
      exec (.dbgCtlStep t v o) s = .next s) ∧
    (∀ g, key → bits v.toNat 5 3 = 4 → getGroup s t slot = some g → g.halted = true → ∃ u, exec (.dbgCtlResume t v o) s = .next u ∧
      getGroup u t slot = some { g with halted := false } ∧ (getLane u t).haltSlot = none ∧ u.eph.haltLeaving = s.eph.debugHalt ∧ u.store = s.store) ∧
    (haltedAt s = none → exec .debugHaltEnter s = .next s) ∧
    (∀ h, haltedAt s = some h → s.eph.debugHalt = false → s.eph.inSegment = false →
      exec .debugHaltEnter s = .next { s with eph := { s.eph with debugHalt := true }, pwr := { s.pwr with holdStart := some (elapsedNs s) } }) ∧
    (s.eph.debugHalt = true → exec .debugHaltEnter s = .next s) ∧
    (haltedGroup s t = none → exec (.dbgDataWrite t v o) s = .next s) ∧
    (∀ g i, haltedGroup s t = some g → (getLane s t).haltSlot = some i →
      (getF s F.DBG_SEL_FILE t = 3 → exec (.dbgDataWrite t v o) s = .next s) ∧
      (getF s F.DBG_SEL_FILE t = 0 → ∃ u h, exec (.dbgDataWrite t v o) s = .next u ∧ getGroup u t i = some h ∧ u.store = s.store ∧
        (∀ r l, vGet h r l = if r = getF s F.DBG_SEL_REG t ∧ l = getF s F.DBG_SEL_LANE t then ⟨v, false⟩ else vGet g r l) ∧
        { h with vreg := g.vreg } = g) ∧
      (getF s F.DBG_SEL_FILE t ∈ [1, 2] → ∃ u h, exec (.dbgDataWrite t v o) s = .next u ∧ getGroup u t i = some h ∧ u.store = s.store ∧
        (∀ r, r ≠ getF s F.DBG_SEL_REG t % 32 → sGet h r = sGet g r) ∧ { h with sreg := g.sreg } = g ∧
        (getF s F.DBG_SEL_FILE t = 1 → (sGet h (getF s F.DBG_SEL_REG t % 32)).v.toNat % 2 ^ 32 = v.toNat ∧
          (sGet h (getF s F.DBG_SEL_REG t % 32)).v.toNat / 2 ^ 32 = (sGet g (getF s F.DBG_SEL_REG t % 32)).v.toNat / 2 ^ 32)))

/-! ## The piers (11): the switch, the ports, time and the services -/

/-- R313, R315 to R319, R321, R342: a frame on a port that is down is no event; one that the host port does not take is counted, and one
unsecured where MACsec is required is dropped; a good frame of the endpoint's own reaches it; any other leaves by the port of its entry,
through that port's gates, under MACsec where that port requires it, and cut through where it is no wider, counted in PRT_DROP where it has no way out or no room. -/
def Obligations.FramesForwarded : Prop :=
  ∀ (port : Nat) (f : EthFrame) (s : State),
    let w := if f.secured then setPort s port { getPort s port with secured := true } else s
    let u := learn w port f
    let taken := portUp s port = true ∧ (port = 255 → hostTakes s f = true) ∧ (getB s F.PRT_CFG_MACSEC port = true → f.secured = true)
    let through := taken ∧ ownFrame w port f = false ∧ port ≠ 255
    (portUp s port = false → exec (.frameReceive port f) s = .next s) ∧
    (portUp s port = true → port = 255 → hostTakes s f = false → exec (.frameReceive port f) s = .next (incF s F.MCC_DROP_COUNT 0 1)) ∧
    (portUp s port = true → (port = 255 → hostTakes s f = true) → getB s F.PRT_CFG_MACSEC port = true → f.secured = false →
      exec (.frameReceive port f) s = .next s) ∧
    (taken → ownFrame w port f = true → exec (.frameReceive port f) s =
      .next { w with net := { w.net with rx := w.net.rx ++ (if f.fcsOk then [f] else []) } }) ∧
    (taken → ownFrame w port f = false → port = 255 → exec (.frameReceive port f) s = .next w) ∧
    (through → noRoom u port f = true → f.pcp < 5 → exec (.frameReceive port f) s = .next (incF u F.PRT_DROP_COUNT port 1)) ∧
    (through → noRoom u port f = true → 5 ≤ f.pcp → ∃ t, exec (.frameReceive port f) s = .next t ∧ t.net = u.net ∧
      getF t F.PRT_DROP_COUNT port = min (getF s F.PRT_DROP_COUNT port + 1) (2 ^ 32 - 1) ∧ getB t F.PRT_CAPTURE_VALID port = true) ∧
    (through → noRoom u port f = false → egressOf u port f = none → exec (.frameReceive port f) s = .next (incF u F.PRT_DROP_COUNT port 1)) ∧
    (∀ p, through → noRoom u port f = false → egressOf u port f = some [p] →
      (widthUp u p ≤ widthUp u port → exec (.frameReceive port f) s = .next (gateSend u ⟨p, port, { f with secured := getB u F.PRT_CFG_MACSEC p }, !f.fcsOk⟩)) ∧
      (widthUp u port < widthUp u p → exec (.frameReceive port f) s = .next (if f.fcsOk then gateSend u ⟨p, port, { f with secured := getB u F.PRT_CFG_MACSEC p }, false⟩ else u))) ∧
    (∀ p i m, gateOpen u p f.pcp (f.len + 20) = true → (∀ g ∈ u.net.gated, g.port = p → g.frame.pcp ≠ f.pcp) →
      gateSend u ⟨p, port, { f with secured := m }, i⟩ = emit u (.forward p { f with secured := m } i)) ∧
    (∀ p i m, gateOpen u p f.pcp (f.len + 20) = false →
      gateSend u ⟨p, port, { f with secured := m }, i⟩ =
        { u with net := { u.net with gated := u.net.gated ++ [⟨p, port, { f with secured := m }, i⟩] } }) ∧
    (∀ ps, fdbFind u f.vid f.dmac = none → egressOf u port f = some ps → port ∉ ps ∧ ∀ p ∈ ps, portReady u p = true) ∧
    (s.act.vlans.any (fun v => v.vid == f.vid && v.learn) = false → u = w)

/-- R312, R332, R334 to R338, R342, R559: training ends with the port up at its widest trained width, held down for too few lanes or a wrong neighbour, or down; a
port goes down, is shuttered for its fourth loss in a minute, and comes back; a cage starts its ports or is refused; MACsec holds a port that is not secured. -/
def Obligations.PortsTrainAndFall : Prop :=
  ∀ (p trained g power : Nat) (lldp : Bool) (s : State),
    let w := getF s F.PRT_CFG_WIDTH p
    let mine := laneMask (p % 4 * 2) (widthLanes w) &&& 255
    let ok := trained &&& mine &&& (255 - lanesOff s (p / 4) % 256)
    let downs := (getPort s p).downs.filter (fun t => decide (elapsedNs s < t + 60000000000))
    (getF s F.PRT_STATUS_STATE p ≠ 1 → exec (.portTrainingDone p trained lldp) s = .next s) ∧
    (getF s F.PRT_STATUS_STATE p = 1 → w < 3 → ∃ t, exec (.portTrainingDone p trained lldp) s = .next t ∧
      getF t F.PRT_LANES_TRAINED p = ok ∧ getF t F.PRT_LANES_FAILED p = mine - ok ∧
      (widest ok (p % 4 * 2) (widthLanes w) w = none → getF t F.PRT_STATUS_STATE p = 4) ∧
      (∀ v i, widest ok (p % 4 * 2) (widthLanes w) w = some (v, i) →
        (widthLanes v < widthLanes (getF s F.PRT_CFG_MIN_LANES p) → getF t F.PRT_STATUS_STATE p = 3 ∧ getF t F.PRT_STATUS_HELD p = 1) ∧
        (widthLanes (getF s F.PRT_CFG_MIN_LANES p) ≤ widthLanes v → lldp = true →
          getF t F.PRT_STATUS_STATE p = 2 ∧ getF t F.PRT_STATUS_WIDTH_UP p = v ∧ getF t F.PRT_STATUS_HELD p = 0) ∧
        (widthLanes (getF s F.PRT_CFG_MIN_LANES p) ≤ widthLanes v → lldp = false →
          getF t F.PRT_STATUS_STATE p = 3 ∧ getF t F.PRT_STATUS_HELD p = 2))) ∧
    (portUp s p = false → exec (.portDown p) s = .next s) ∧
    (portUp s p = true → downs.length < 3 → ∃ t, exec (.portDown p) s = .next t ∧ getF t F.PRT_STATUS_STATE p = 4) ∧
    (portUp s p = true → 3 ≤ downs.length → (phase s = 0 ∨ phase s = 6) → 2 ≤ effClass s C.PORT_FLAP →
      ∃ t, exec (.portDown p) s = .next t ∧ getF t F.PRT_STATUS_STATE p = 5 ∧ getB t F.FLT_SHUT_PORT p = true) ∧
    (g < 48 → ∀ q ∈ groupPorts g,
      (∀ l, s.act.cages.find? (fun c => c.1 == g) = some (g, l) → l < power → ∃ t, exec (.cageInsert g power) s = .next t ∧
        getB t F.PRT_STATUS_PRESENT q = true ∧
        (getB s F.PRT_CFG_ENABLE q = true → getF t F.PRT_STATUS_STATE q = 3 ∧ getF t F.PRT_STATUS_HELD q = 4)) ∧
      (s.act.cages.find? (fun c => c.1 == g) = none → ∃ t, exec (.cageInsert g power) s = .next t ∧ getB t F.PRT_STATUS_PRESENT q = true ∧
        (getB s F.PRT_CFG_ENABLE q = true → getF s F.PRT_STATUS_STATE q ∉ [2, 5] → getF t F.PRT_STATUS_STATE q = 1)) ∧
      (∃ t, exec (.cageUnplug g) s = .next t ∧ getB t F.PRT_STATUS_PRESENT q = false ∧ portUp t q = false)) ∧
    (getF s F.PRT_STATUS_STATE p = 4 → ∃ t, exec (.portTrainsAgain p) s = .next t ∧ getF t F.PRT_STATUS_STATE p = 2 ∧
      getF t F.PRT_STATUS_HELD p = 0 ∧ t.store = s.store ∧ t.mer = s.mer) ∧
    (getF s F.PRT_STATUS_STATE p ≠ 4 → exec (.portTrainsAgain p) s = .next s) ∧
    (∀ n, getB s F.PRT_CFG_MACSEC p = true → portUp s p = true → (getPort s p).secured = false → (getPort s p).upSince = some n →
      (n + 2000000000 ≤ elapsedNs s → ∃ t, exec (.linkMacsec p) s = .next t ∧ getF t F.PRT_STATUS_STATE p = 3 ∧ getF t F.PRT_STATUS_HELD p = 3) ∧
      (elapsedNs s < n + 2000000000 → exec (.linkMacsec p) s = .next s)) ∧
    (getB s F.PRT_CFG_MACSEC p = false ∨ (getPort s p).secured = true → exec (.linkMacsec p) s = .next s)

/-- R339 to R341: the next usable SyncE source or holdover; PTP locks, ALIGNED holds within 20 ns, and the servo steers within its limit up to 500 ns and steps
time beyond that outside a step only (the servo is assumption 49); 2 s without Sync is holdover. -/
def Obligations.FrequencyAndTime : Prop :=
  ∀ (port : Nat) (offset : Int) (s : State),
    let u := { s with net := { s.net with synceBad := getF s F.TIME_STATUS_SYNCE_PORT 0 :: s.net.synceBad } }
    let small := -500 ≤ offset ∧ offset ≤ 500
    let slave := s.act.ptp.contains (port, 1) = true ∧ portUp s port = true ∧
      (getB s F.PRT_CFG_MACSEC port = true → (getPort s port).secured = true)
    (getB s F.TIME_STATUS_SYNCE_LOCKED 0 = false → exec .synceSourceFail s = .next s) ∧
    (getB s F.TIME_STATUS_SYNCE_LOCKED 0 = true →
      (∀ q, q < 256 → synceChoice u = some q → ∃ t, exec .synceSourceFail s = .next t ∧ getB t F.TIME_STATUS_SYNCE_LOCKED 0 = true ∧
        getF t F.TIME_STATUS_SYNCE_PORT 0 = q ∧ t.net = u.net) ∧
      (synceChoice u = none → ∃ t, exec .synceSourceFail s = .next t ∧ getB t F.TIME_STATUS_SYNCE_LOCKED 0 = false ∧
        t.net = { u.net with out := s.net.out ++ [.esmc holdoverQl] })) ∧
    (¬ slave → exec (.ptpSync port offset) s = .next s) ∧
    (slave → port < 256 → ∃ t, exec (.ptpSync port offset) s = .next t ∧ getB t F.TIME_STATUS_PTP_LOCKED 0 = true ∧
      getF t F.TIME_STATUS_PTP_PORT 0 = port ∧ getB t F.TIME_STATUS_HOLDOVER 0 = false ∧ t.net.lastSync = elapsedNs s ∧
      getB t F.TIME_STATUS_ALIGNED 0 = (decide (-20 ≤ offset) && decide (offset ≤ 20)) ∧
      (small → t.net.ptpDue = none ∧ t.clk.dev =
        ((s.clk.dev : Int) + max (-steerLimit s) (min (steerLimit s) (-(offset * 217)))).toNat) ∧
      (¬ small → effClass s C.TIME_ALIGN ≤ 3 →
        (phase s = 0 → t.net.ptpDue = none ∧ t.clk.dev = ((s.clk.dev : Int) - offset * 217).toNat) ∧
        (phase s ≠ 0 → t.net.ptpDue = some offset ∧ t.clk.dev = s.clk.dev))) ∧
    (s.net.lastSync + 2000000000 ≤ elapsedNs s → getB s F.TIME_STATUS_HOLDOVER 0 = false → s.act.ptp ≠ [] →
      ∃ t, exec .timeHoldover s = .next t ∧ getB t F.TIME_STATUS_HOLDOVER 0 = true ∧ getB t F.TIME_STATUS_PTP_LOCKED 0 = false ∧
        getB t F.TIME_STATUS_ALIGNED 0 = false ∧ t.net = s.net) ∧
    (elapsedNs s < s.net.lastSync + 2000000000 ∨ getB s F.TIME_STATUS_HOLDOVER 0 = true ∨ s.act.ptp = [] →
      exec .timeHoldover s = .next s) ∧
    (s.net.syncOut + 62500000 ≤ elapsedNs s → exec .syncInterval s = .next { s with net := { s.net with
      syncOut := elapsedNs s
      out := s.net.out ++ (s.act.ptp.filter (fun e => e.2 == 2 && portReady s e.1)).map (fun e => .ptpSync e.1 (nowNs s)) } }) ∧
    (elapsedNs s < s.net.syncOut + 62500000 → exec .syncInterval s = .next s)

/-- R347, R348, R350 to R352, R354, R355: a record read is staged in its slot and the cursor of the loader moves; an error moves to the next target or ends the snapshot's
write; a snapshot written names its slot and step, but with a poisoned word it does not leave; telemetry leaves each period, with every event
that waited, where its port is ready. -/
def Obligations.StorageAndTelemetry : Prop :=
  ∀ (data : List Byte) (s : State),
    let l := s.net.loader
    (s.act.dataset = none → exec (.storageReadDone data) s = .next s ∧ exec (.storageError true) s = .next s) ∧
    (∀ d, s.act.dataset = some d →
      (mayStage s d = false → exec (.storageReadDone data) s = .next s) ∧
      (mayStage s d = true → ∃ t, exec (.storageReadDone data) s = .next t ∧
        t.store = (servicePut s (ringSlot s d l.step + l.count * d.recordBytes) (data.take d.recordBytes) (d.recordBytes / 4096 + 2)).store ∧
        (t.net.loader.epoch, t.net.loader.pos, t.net.loader.record) = nextRecord d (l.epoch, l.pos, l.record) ∧
        (l.count + 1 < d.batch → t.net.loader.step = l.step ∧ t.net.loader.count = l.count + 1 ∧ t.net.loader.staged = l.staged) ∧
        (d.batch ≤ l.count + 1 → t.net.loader.step = l.step + 1 ∧ t.net.loader.count = 0 ∧ t.net.loader.staged = l.staged ++ [l.step])) ∧
      ∃ t, exec (.storageError true) s = .next t ∧ t.net.loader.target = l.target + 1 ∧ t.net.loader.step = l.step ∧
        t.net.loader.record = l.record ∧ storeKept s t) ∧
    (∀ x, s.net.newer = some x →
      let g := snapPoisoned s x
      (x.writing = false → exec (.storageError false) s = .next s ∧ exec .snapshotWriteDone s = .next s) ∧
      (x.writing = true → ∃ t, exec (.storageError false) s = .next t ∧ getB t F.CKPT_STATUS_WRITING 0 = false ∧ storeKept s t ∧
        t.net = { s.net with newer := some { x with writing := false, failed := true } }) ∧
      (x.writing = true → g.1.store.repeatDue = [] → g.2 = true → ∃ t, exec .snapshotWriteDone s = .next t ∧
        getB t F.PRT_CAPTURE_VALID 255 = true ∧ getF t F.CKPT_STEP_STEP 0 = getF s F.CKPT_STEP_STEP 0 ∧
        t.net = { s.net with newer := some { x with writing := false, failed := true } }) ∧
      (x.writing = true → g.1.store.repeatDue = [] → g.2 = false → ∃ t, exec .snapshotWriteDone s = .next t ∧ t.net.slot = 1 - s.net.slot ∧
        getF t F.CKPT_STEP_STEP 0 = x.step % 2 ^ 64 ∧ getB t F.CKPT_STATUS_WRITING 0 = false ∧ t.store = g.1.store ∧
        t.net.newer = some { x with writing := false, done := true } ∧
        (∀ w, targetAt s 1 x.target = some w → ∃ hd, t.net.out = s.net.out ++ [.storageWrite w.ip w.nsid (1 - s.net.slot) (x.step :: hd)]))) ∧
    (s.net.newer = none → exec (.storageError false) s = .next s ∧ exec .snapshotWriteDone s = .next s) ∧
    (s.act.telemetry = none → exec .telemetryExport s = .next s) ∧
    (∀ c, s.act.telemetry = some c →
      let due := s.flt.coreUp = true ∧ s.net.lastTlm + c.period * 1000000 ≤ elapsedNs s
      let send := fun k ws => OutFrame.ipfix c.egress c.collector c.udp c.enterprise k ws
      (¬ due → exec .telemetryExport s = .next s) ∧
      (due → portReady s c.egress = false → exec .telemetryExport s = .next { s with net := { s.net with lastTlm := elapsedNs s } }) ∧
      (due → portReady s c.egress = true → exec .telemetryExport s = .next { s with
        flt := { s.flt with toTlm := [] }
        net := { s.net with
          lastTlm := elapsedNs s
          out := s.net.out ++ (((List.range 192).filter (fun p => getB s F.PRT_CFG_ENABLE p)).map (fun p => send 256 (tlmPort s p)) ++
            (send 257 (tlmStep s) :: send 258 (tlmPower s) :: s.flt.toTlm.map (fun e => send 259 (tlmEvent e)))) } }))

/-! ## The meridian (12): the vote, the commit, the close round, rollback and slews -/

namespace Sys2Proof.Claims

/-- No override raises a code whose own class is at most 3 above class 3 (R511). -/
def calm (s : State) : Prop := ∀ c : FaultCode, c.cls ≤ 3 → effClass s c ≤ 3

/-- The decision of a DOWN frame has begun its work (R371, R380, R383 to R387): the state that its action leaves. -/
def decided (s t : State) (p : Nat) : Prop :=
  (p = 0 → s.act.upd ≠ [] → phase t = 4 ∧ getF t F.MER_PHASE_GATE 0 = 1 ∧ t.mer.working = true ∧
    t.mer.entries = List.range s.act.upd.length ∧ getF t F.MER_STEP_STEP 0 = getF s F.MER_STEP_STEP 0) ∧
  ((p = 1 ∨ p = 2) → calm s → phase t = 5 ∧ getF t F.MER_STEP_STEP 0 = (getF s F.MER_STEP_STEP 0 + 1) % 2 ^ 64 ∧
    getF t F.MER_ATTEMPT_ATTEMPT 0 = 0 ∧ getF t F.MER_LSCALE_RUN 0 = 0 ∧ t.mer.working = true) ∧
  (p = 1 → getF t F.MER_LSCALE_EXP 0 = getF s F.MER_LSCALE_EXP 0) ∧
  (p = 2 → getF t F.MER_LSCALE_EXP 0 = (BitVec.ofInt 8 (lossExp s - 1)).toNat) ∧
  (p = 3 → phase t = 5 ∧ getF t F.MER_STEP_STEP 0 = getF s F.MER_STEP_STEP 0 ∧
    getF t F.MER_ATTEMPT_ATTEMPT 0 = (getF s F.MER_ATTEMPT_ATTEMPT 0 + 1) % 2 ^ 16 ∧ t.mer.working = true) ∧
  ((p = 4 ∨ p = 5) → hasCkpt s = true → phase t = 5 ∧ getF t F.MER_PHASE_GATE 0 = 2 ∧ t.mer.rolling = some (getF s F.MER_CKPT_STEP 0)) ∧
  (p = 6 → s.mer.remains = true → s.mcc.stopStep = none → phase t = 6 ∧ getF t F.MER_PHASE_GATE 0 = 0 ∧ t.mer.rolling = none)

end Sys2Proof.Claims

/-- R371, R373 to R376, R378, R379: a node's tally is the AND of the words of its subtree and the largest policy, and counts every member; a frame that fails the checks is dropped; a child's report joins the tally and, when the last is in, goes up or is decided at the root; a
DOWN frame is passed to every child and acted on; children late past VOTE_TIMEOUT are counted missing; frames are resent; a lost round rolls back. -/
def Obligations.VerdictRound : Prop :=
  ∀ (f : VoteFrame) (s : State),
    let u := { s with mer := { s.mer with ups := s.mer.ups ++ [f] } }
    let fresh := voteOk s 0 f = true ∧ isChild s f.sender = true ∧ sameRound s f = true ∧ s.mer.down = none ∧ s.mer.up = none ∧
      s.mer.gone.contains f.sender = false ∧ s.mer.ups.any (fun v => v.sender == f.sender) = false
    let late := s.act.children.filter (fun c => !s.mer.ups.any (fun v => v.sender == c.index))
    let vt := getF s F.MER_TIMEOUT_VOTE_TIMEOUT 0 * 100000
    (∀ b, b < 7 → ((tally s).word.testBit b = true ↔ (verdictBits s).testBit b = true ∧ ∀ v ∈ s.mer.ups, v.verdict.testBit b = true)) ∧
    (∀ v ∈ s.mer.ups, policyOf v.verdict ≤ (tally s).policy) ∧ policyFor s (verdictBits s) ≤ (tally s).policy ∧
    ((tally s).policy = policyFor s (verdictBits s) ∨ ∃ v ∈ s.mer.ups, (tally s).policy = policyOf v.verdict) ∧
    (tally s).covered = 1 + (s.mer.ups.map (·.covered)).sum ∧
    (tally s).missing = (s.mer.ups.map (·.missing)).sum + ((s.act.children.filter (fun c => s.mer.gone.contains c.index)).map (·.members)).sum ∧
    (voteOk s 0 f = false → exec (.up f) s = .next (dropVote s f)) ∧
    (voteOk s 0 f = true → isChild s f.sender = false → exec (.up f) s = .next s) ∧
    (voteOk s 0 f = true → isChild s f.sender = true → sameRound s f = false →
      exec (.up f) s = .next (answerRepeat s s.mer.lastDown f)) ∧
    (∀ d c, voteOk s 0 f = true → sameRound s f = true → s.mer.down = some d → s.act.children.find? (fun c => c.index == f.sender) = some c →
      exec (.up f) s = .next (sendVote s c d)) ∧
    (fresh → (phase s = 1 ∨ phase s = 2) → exec (.up f) s = .next u) ∧
    (fresh → phase s = 3 → allUp u = false → exec (.up f) s = .next u) ∧
    (∀ p, fresh → phase s = 3 → allUp u = true → s.act.parent = some p → ∃ t v, exec (.up f) s = .next t ∧ t.mer.up = some v ∧
      v.verdict = (tally u).word + 256 * (tally u).policy ∧ v.covered = (tally u).covered ∧ t.net.out = s.net.out ++ [.vote p.port p.mac v]) ∧
    (fresh → phase s = 3 → allUp u = true → s.act.parent = none → (tally u).missing = 0 → (tally u).policy = 0 → s.mer.remains = true →
      s.act.upd ≠ [] → ∃ t v, exec (.up f) s = .next t ∧ t.mer.down = some v ∧ policyOf v.verdict = 0 ∧ decided s t 0 ∧
        t.net.out = s.net.out ++ s.act.children.map (fun n => .vote n.port n.mac v)) ∧
    (voteOk s 1 f = false → exec (.down f) s = .next (dropDown s)) ∧
    (voteOk s 1 f = true → s.act.parent.isSome = true → s.mer.down = none → sameRound s f = true → (phase s = 1 ∨ phase s = 2) →
      exec (.down f) s = .next (endRound (sendDown (discardWork s) f) f)) ∧
    (voteOk s 1 f = true → s.act.parent.isSome = true → s.mer.down = none → sameRound s f = true → phase s = 3 →
      ∃ t, exec (.down f) s = .next t ∧ decided s t (policyOf f.verdict) ∧ t.mer.decision = policyOf f.verdict ∧
        t.mer.down = some f ∧
        (policyOf f.verdict ≤ 3 → t.net.replay = [] ∧ t.net.out = s.net.out ++ s.act.children.map (fun n => .vote n.port n.mac f))) ∧
    (voteOk s 1 f = true → (s.act.parent = none ∨ s.mer.down.isSome ∨ sameRound s f = false ∨ phase s = 0 ∨ 3 < phase s) →
      exec (.down f) s = .next s) ∧
    (∀ e p, s.mer.entry = some e → phase s = 3 → s.mer.up = none → s.mer.down = none → e + vt ≤ elapsedNs s → s.act.parent = some p →
      effClass s C.VOTE_MISSING ≤ 3 → ∃ t v, exec .voteTimeoutExpire s = .next t ∧ t.mer.gone = late.map (·.index) ∧ t.mer.up = some v ∧
        v.missing = min ((s.mer.ups.map (·.missing)).sum + (late.map (·.members)).sum) 65535) ∧
    ((s.mer.entry = none ∨ phase s ≠ 3 ∨ s.mer.up.isSome ∨ s.mer.down.isSome ∨ (∃ e, s.mer.entry = some e ∧ elapsedNs s < e + vt)) →
      exec .voteTimeoutExpire s = .next s) ∧
    (∀ v p, s.act.parent = some p → s.mer.up = some v → s.mer.down = none →
      (passed s s.mer.upAt (voteResendNs s) = true → exec .voteResendExpire s =
        .next { s with net := { s.net with out := s.net.out ++ [.vote p.port p.mac v] }, mer := { s.mer with upAt := elapsedNs s } }) ∧
      (passed s s.mer.upAt (voteResendNs s) = false → exec .voteResendExpire s = .next s)) ∧
    (∀ v p, s.act.parent = some p → (s.mer.up = none ∨ s.mer.down.isSome) → s.mer.closeUp = some v → s.mer.closeDown = none →
      (passed s s.mer.closeAt (voteResendNs s) = true → exec .voteResendExpire s =
        .next { s with net := { s.net with out := s.net.out ++ [.vote p.port p.mac v] }, mer := { s.mer with closeAt := elapsedNs s } }) ∧
      (passed s s.mer.closeAt (voteResendNs s) = false → exec .voteResendExpire s = .next s)) ∧
    ((s.mer.up = none ∨ s.mer.down.isSome) → (s.mer.closeUp = none ∨ s.mer.closeDown.isSome) → exec .voteResendExpire s = .next s) ∧
    ((s.mer.up.isSome ∧ s.mer.down = none ∧ s.mer.upFirst + 2 * vt ≤ elapsedNs s ∨
        s.mer.closeUp.isSome ∧ s.mer.closeDown = none ∧ s.mer.closeFirst + 2 * vt ≤ elapsedNs s) → phase s ≠ 0 → hasCkpt s = true →
      effClass s C.VOTE_LOST ≤ 3 → ∃ t, exec .voteLost s = .next t ∧ phase t = 5 ∧ getF t F.MER_PHASE_GATE 0 = 2 ∧ t.mer.decision = 5 ∧
        t.mer.rolling = some (getF s F.MER_CKPT_STEP 0) ∧ t.mer.up = none ∧ t.mer.closeUp = none) ∧
    (phase s = 0 → exec .voteLost s = .next s) ∧
    ((s.mer.up = none ∨ s.mer.down.isSome) → (s.mer.closeUp = none ∨ s.mer.closeDown.isSome) → exec .voteLost s = .next s)

/-- R382: a COMMIT that has lasted longer than COMMIT_BUDGET is recorded as COMMIT_LATE, once, and still runs to its end: the state is that of the event's
recording, and no entry, task or page of the work is touched. -/
def Obligations.CommitOverBudget : Prop :=
  ∀ (s : State),
    let due := s.mer.workStart + getF s F.MER_BUDGET_COMMIT_BUDGET 0 * 1000
    let noted := { s with mer := { s.mer with lateRec := true } }
    (s.mer.working = true → s.mer.decision = 0 → s.mer.lateRec = false → due < elapsedNs s →
      exec .commitLate s = .next (record noted C.COMMIT_LATE 0) ∧ (record noted C.COMMIT_LATE 0).mer.working = true ∧
        (record noted C.COMMIT_LATE 0).mer.entries = s.mer.entries ∧ (record noted C.COMMIT_LATE 0).mer.tasksDue = s.mer.tasksDue ∧
        (record noted C.COMMIT_LATE 0).lane = s.lane ∧ (record noted C.COMMIT_LATE 0).deep = s.deep ∧
        (record noted C.COMMIT_LATE 0).mer.lateRec = true ∧ (effClass s C.COMMIT_LATE ≤ 3 → (record noted C.COMMIT_LATE 0).store = s.store)) ∧
    (s.mer.working = false ∨ s.mer.decision ≠ 0 ∨ s.mer.lateRec = true ∨ elapsedNs s ≤ due → exec .commitLate s = .next s)

/-- R352, R360, R361, R376, R377, R380, R381, R387 to R392: the work of a decision ends at the commit point and the close round opens; CLOSE_UP goes up when the device and its children are ready, CLOSE_DOWN gives the next mark or a decision; a rollback restores the checkpoint; a slew moves the rows. -/
def Obligations.CommitCloseRollback : Prop :=
  ∀ (f : VoteFrame) (pages : List (Nat × List Byte)) (failed : Bool) (s : State),
    (s.mer.working = false ∨ s.mer.rolling.isSome → exec .commitWorkEnd s = .next s) ∧
    (s.mer.working = true → s.mer.rolling = none → s.mer.decision = 0 → s.mer.commitFault = false → commitDone s = false →
      exec .commitWorkEnd s = .next s) ∧
    (s.mer.working = true → s.mer.rolling = none → 4 ≤ phase s → s.mer.decision ≠ 0 → getF s F.IMG_STATUS_STATE 0 ≠ 3 → ∃ t, exec .commitWorkEnd s = .next t ∧
      t.mer.working = false ∧ t.mer.closeDue = true ∧ getF t F.MER_PHASE_GATE 0 = 0 ∧ getF t F.MER_STEP_STEP 0 = getF s F.MER_STEP_STEP 0) ∧
    (s.mer.working = true → s.mer.rolling = none → 4 ≤ phase s → s.mer.decision = 0 → s.mer.commitFault = false → commitDone s = true →
      getF s F.IMG_STATUS_STATE 0 ≠ 3 →
      ∃ t, exec .commitWorkEnd s = .next t ∧ t.mer.working = false ∧ t.mer.closeDue = true ∧
        getF t F.MER_STEP_STEP 0 = (getF s F.MER_STEP_STEP 0 + 1) % 2 ^ 64) ∧
    (closeReady s = false ∨ allClosed s = false → exec .closeUpSend s = .next s) ∧
    (∀ p, closeReady s = true → allClosed s = true → s.act.parent = some p → s.mcc.stopStep = none →
      ∃ t v, exec .closeUpSend s = .next t ∧ t.mer.closeUp = some v ∧ t.mer.closeDue = false ∧ v.type = 2 ∧ v.ckpt = (closeTally s).ckpt ∧
        t.net.out = s.net.out ++ [.vote p.port p.mac v]) ∧
    (voteOk s 2 f = true → isChild s f.sender = true → sameClose s f = true → s.mer.closeDown = none → s.mer.closeUp = none →
      s.mer.closeUps.any (fun v => v.sender == f.sender) = false → 4 ≤ phase s → phase s ≠ 7 → closeReady s = false →
      exec (.closeUp f) s = .next { s with mer := { s.mer with closeUps := s.mer.closeUps ++ [f] } }) ∧
    (voteOk s 2 f = false → exec (.closeUp f) s = .next (dropVote s f)) ∧
    (voteOk s 2 f = true → isChild s f.sender = false → exec (.closeUp f) s = .next s) ∧
    (voteOk s 3 f = false → exec (.closeDown f) s = .next (dropDown s)) ∧
    (voteOk s 3 f = true → s.mer.closeUp.isSome → s.mer.closeDown = none → sameClose s f = true → ∃ t, exec (.closeDown f) s = .next t ∧
      (policyOf f.verdict ∉ [5, 6] → t.eph.nextMark = some f.mark ∧ t.mer.closeDown = some f ∧ t.mer.closeUps = [] ∧
        getF t F.MER_CKPT_STEP 0 = f.ckpt % 2 ^ 64) ∧
      (policyOf f.verdict = 5 → f.ckpt < 2 ^ 64 - 1 → phase t = 5 ∧ getF t F.MER_PHASE_GATE 0 = 2 ∧ t.mer.rolling = some f.ckpt)) ∧
    (voteOk s 3 f = true → (s.mer.closeUp = none ∨ s.mer.closeDown.isSome ∨ sameClose s f = false) → exec (.closeDown f) s = .next s) ∧
    (s.mer.rolling = none → exec (.rollbackComplete pages failed) s = .next s) ∧
    (∀ c, s.mer.rolling = some c → pagesToRead s c ≠ [] →
      (failed = true ∨ ∃ p ∈ pagesToRead s c, ∀ g ∈ pages, g.1 = p → g.2.length ≠ 4096) →
      ∃ u, exec (.rollbackComplete pages failed) s = .next (enterHold u) ∧ u.net.newer = none ∧ u.net.named = s.net.named ∧ storeKept s u) ∧
    (∀ c, s.mer.rolling = some c →
      (pagesToRead s c = [] ∨ failed = false ∧ ∀ p ∈ pagesToRead s c, ∃ g ∈ pages, g.1 = p ∧ g.2.length = 4096) → s.mer.decision ≠ 5 →
      ∃ t x, exec (.rollbackComplete pages failed) s = .next t ∧
        t.mer.rolling = none ∧ t.mer.intact = true ∧ getF t F.MER_PHASE_GATE 0 = 0 ∧ getF t F.MER_ATTEMPT_ATTEMPT 0 = 0 ∧
        t.net.named = some x ∧ x.step = c ∧ x.old = [] ∧ t.net.newer = none ∧ getF t F.MER_STEP_STEP 0 = fld x.record 0 8 % 2 ^ 64) ∧
    (s.tower.slews = [] ∨ s.eph.inSegment = true ∨ phase s = 3 → exec .slew s = .next s) ∧
    (∀ c bad r sp, s.tower.slews = (c, bad) :: r → s.eph.inSegment = false → phase s ≠ 3 → (getCol s c).spare = some sp →
      ∃ t, exec .slew s = .next t ∧ (c, bad) ∉ t.tower.slews ∧ getCol t c = ⟨movedRows (getCol s c).rows bad sp, none⟩) ∧
    (∀ c bad r, s.tower.slews = (c, bad) :: r → s.eph.inSegment = false → phase s ≠ 3 → (getCol s c).spare = none →
      ∃ t, exec .slew s = .next t ∧ (c, bad) ∉ t.tower.slews ∧ getCol t c = getCol s c ∧ storeKept s t)

/-! ## Pins, reset and bring-up (15, 20) -/

/-- R443, R499, R500, R565 to R570: without VAON all but flash, fuses and the model's own time is lost; RESET_N leaves the kept fields alone; Twilight begins when RESET_N
is high, the internal reset is over and VAON has been good for 2 ms; the button toggles locate or asks for a drain; lights and test access port answer. -/
def Obligations.PinsAndReset : Prop :=
  ∀ (latch tdi : Bool) (pins load : Nat) (s : State),
    let starts := s.boot.vaonAt + 2000000 ≤ elapsedNs s
    let live := s.boot.place ≠ .off ∧ s.boot.resetLow = none
    (∃ t, exec .vaonLoss s = .next t ∧ t.boot.place = .off ∧ t.sys.regs = [] ∧ t.store = State.reset.store ∧ t.net = State.reset.net ∧
      t.mcc = State.reset.mcc ∧ t.act = State.reset.act ∧ t.log.blocks = s.log.blocks ∧ t.log.fuses = s.log.fuses ∧ t.clk.mono = s.clk.mono) ∧
    (s.boot.place = .off → (∃ t, exec (.vaonUp latch) s = .next t ∧ t.boot.place = .dark ∧ t.boot.resetLow = some (elapsedNs s) ∧ t.thm.latch = latch ∧
      t.boot.vaonAt = elapsedNs s ∧ t.flt.hist = []) ∧ exec .resetNAssert s = .next s) ∧
    (s.boot.place ≠ .off → exec (.vaonUp latch) s = .next s) ∧
    (s.boot.resetLow.isSome → exec .resetNAssert s = .next s) ∧
    (live → ∃ t, exec .resetNAssert s = .next t ∧ t.boot.place = .dark ∧ t.boot.resetLow = some (elapsedNs s - 1000) ∧
      t.boot.resetEnd = some (elapsedNs s - 1000 + 10000) ∧ t.store = State.reset.store ∧ t.flt.hist = s.flt.hist ∧ t.log.blocks = s.log.blocks ∧
      ∀ (f : Field) (u : Nat), getF t f u = if keptFields.contains f.id then getF s f u else f.reset) ∧
    (s.boot.place ≠ .dark ∨ s.boot.resetLow = none → exec (.resetNRelease latch) s = .next s) ∧
    (s.boot.place = .dark → s.boot.resetLow.isSome → ∃ t, exec (.resetNRelease latch) s = .next t ∧ t.boot.resetLow = none ∧ t.thm.latch = latch ∧
      t.pin.driven = none ∧ (¬ starts ∨ s.boot.resetEnd.isSome → t.boot.place = .dark) ∧
      (starts → s.boot.resetEnd = none → t.boot.place = .up ∧ t.boot.t0 = elapsedNs s ∧ t.flt.coreUp = true ∧
        (s.thm.restarted = false → t.pwr.order = [6, 7, 8, 9, 10, 5, 4]))) ∧
    (s.boot.resetEnd = none → exec .internalResetEnd s = .next s) ∧
    (∀ n, s.boot.resetEnd = some n →
      (elapsedNs s < n → exec .internalResetEnd s = .next s) ∧
      (n ≤ elapsedNs s → ∃ t, exec .internalResetEnd s = .next t ∧ t.boot.resetEnd = none ∧
        (s.boot.place = .dark → s.boot.resetLow = none → starts → t.boot.place = .up) ∧
        (s.boot.resetLow.isSome → t.boot.place = s.boot.place))) ∧
    (∀ n, s.thm.coldSince = some n → s.thm.held = true → latched s = false → n + 10000000000 ≤ elapsedNs s → s.boot.place = .up →
      ∃ t, exec .thmRestart s = .next t ∧ t.thm.held = false ∧ t.thm.pin = false ∧ t.boot.place = .up ∧ t.boot.t0 = elapsedNs s ∧ t.thm.restarted = false) ∧
    (∀ n, s.thm.coldSince = some n → s.thm.held = true → latched s = false → n + 10000000000 ≤ elapsedNs s → s.boot.place = .dark →
      ∃ t, exec .thmRestart s = .next t ∧ t.thm.held = false ∧ t.thm.pin = false ∧ t.boot.place = .dark ∧ t.thm.restarted = true) ∧
    (s.thm.coldSince = none ∨ s.thm.held = false ∨ latched s = true → exec .thmRestart s = .next s) ∧
    (¬ live → exec .svcBtnShortPress s = .next s ∧ exec .svcBtnLongPress s = .next s) ∧
    (live → ∃ t, exec .svcBtnShortPress s = .next t ∧ getB t F.LED_CTL_LOCATE 0 = !getB s F.LED_CTL_LOCATE 0 ∧ { t with sys := s.sys } = s) ∧
    (live → s.boot.place = .up → getB s F.PIN_STATUS_DRAIN_REQ 0 = false →
      (phase s = 0 → devState s ∈ [4, 6, 7] → ∃ t, exec .svcBtnLongPress s = .next t ∧ devState t = 8 ∧ t.mer.remains = false ∧
        getB t F.PIN_STATUS_DRAIN_REQ 0 = true) ∧
      (phase s = 0 → devState s ∉ [4, 6, 7] → exec .svcBtnLongPress s = .next s) ∧
      (phase s ∉ [0, 6] → getF s F.MER_POLICY_DEPART 0 = 6 →
        exec .svcBtnLongPress s = .next { s with pin := { s.pin with blink := some (elapsedNs s) } }) ∧
      (phase s ∉ [0, 6, 7] → getF s F.MER_POLICY_DEPART 0 ≠ 6 → ∃ t, exec .svcBtnLongPress s = .next t ∧ t.mer.remains = false ∧
        phase t = phase s ∧ getB t F.PIN_STATUS_DRAIN_REQ 0 = true)) ∧
    (s.boot.place = .off ∨ elapsedNs s < s.pin.ledAt + 10000000 → exec .ledFrame s = .next s) ∧
    (s.boot.place ≠ .off → s.pin.ledAt + 10000000 ≤ elapsedNs s → ∃ t, exec .ledFrame s = .next t ∧ t.net.out = s.net.out ++ [.led t.pin.led] ∧
      t.pin.ledAt = elapsedNs s ∧ (s.boot.place = .dark → t.pin.led = (if faultLight s then 2 ^ 195 else 0) +
        (if getB s F.LED_CTL_LOCATE 0 && blinkOn s 250 then 2 ^ 196 else 0))) ∧
    (exec (.bypass tdi) s =
      .next { s with pin := { s.pin with bypass := tdi }, net := { s.net with out := s.net.out ++ [.tdo s.pin.bypass.toNat 1] } }) ∧
    (exec .idcode s = .next { s with net := { s.net with out := s.net.out ++ [.tdo 0x1B0432A3 32] } }) ∧
    (let u := { s with pin := { s.pin with boundary := load }, net := { s.net with out := s.net.out ++ [.tdo pins 0] } }
     exec (.samplePreload pins load) s = .next u ∧ (s.boot.resetLow = none → exec (.extest pins load) s = .next u) ∧
      (s.boot.resetLow.isSome → exec (.extest pins load) s = .next { u with pin := { u.pin with driven := some load } }))

/-- R443 to R445, R447, R449, R450, R452 to R455: a phase that lasts twice its maximum, a failed self-test, an invalid fuse map or a crossing out of range stops bring-up in
Parked; else Twilight leads to collimation, collimation to Idle, link collimation to first light, and that to Tracking. -/
def Obligations.BringUp : Prop :=
  ∀ (found : TwilightFound) (col : CollimationFound) (s : State),
    let dusk := s.boot.place = .up ∧ devState s = 2 ∧ s.pwr.order = [] ∧ s.boot.netboot = false
    let core := devState s = 3 ∧ s.boot.core = true ∧ s.pwr.order = [] ∧ allTrained s = true
    let link := devState s = 3 ∧ s.boot.core = false ∧ portsTrained s = true
    let u := loadFirmware (checkIdentity (resolveLog { s with boot := { s.boot with packages := found.packages } } found) found.identityOk)
    (phaseMax s = none → exec .bringupTimeout s = .next s) ∧
    (∀ m, phaseMax s = some m →
      (elapsedNs s < s.boot.phaseStart + 2 * m → exec .bringupTimeout s = .next s) ∧
      (s.boot.phaseStart + 2 * m ≤ elapsedNs s → ∃ t, exec .bringupTimeout s = .next t ∧ devState t = 8 ∧ t.clk.running = false ∧
        getB t F.BOOT_CAUSE_VALID 0 = true ∧ getF t F.BOOT_CAUSE_CODE 0 = C.BRINGUP_TIMEOUT.code)) ∧
    (¬ dusk → exec (.twilightEnd found) s = .next s) ∧
    (dusk → found.selfTestOk = false → s.boot.lightDone = false → ∃ t, exec (.twilightEnd found) s = .next t ∧ devState t = 8 ∧
      getF t F.BOOT_CAUSE_CODE 0 = C.SELFTEST_FAIL.code ∧ getF t F.PRT_STATUS_STATE 255 = 2) ∧
    (dusk → found.selfTestOk = true → fuseBad s = true → s.boot.lightDone = false → ∃ t, exec (.twilightEnd found) s = .next t ∧ devState t = 8 ∧
      getF t F.BOOT_CAUSE_CODE 0 = C.FUSE_INVALID.code ∧ getF t F.PRT_STATUS_STATE 255 = 2) ∧
    (dusk → found.selfTestOk = true → fuseBad s = false → u.thm.held = true ∨ (u.boot.netboot = false ∧ packagesBad u.boot.packages = true) →
      ∃ t, exec (.twilightEnd found) s = .next t ∧ devState t = 8 ∧ getF t F.PRT_STATUS_STATE 255 = 2) ∧
    (dusk → found.selfTestOk = true → fuseBad s = false → u.thm.held = false →
      (u.boot.netboot = true → exec (.twilightEnd found) s = .next (hostUp u)) ∧
      (u.boot.netboot = false → packagesBad u.boot.packages = false → ∃ t, exec (.twilightEnd found) s = .next t ∧ devState t = 3 ∧
        t.boot.core = true ∧ t.pwr.order = [12, 0, 1, 2, 3] ∧ getB t F.DEV_STATE_COLD 0 = startsCold u ∧ getF t F.PRT_STATUS_STATE 255 = 2 ∧
        (∀ c, c < 192 → getF t F.MCH_STATUS_STATE c = 1))) ∧
    (¬ core → exec (.coreCollimationEnd col) s = .next s) ∧
    (core → (∃ t, t < 4 ∧ crossingBad s col t = true) → ∃ t, exec (.coreCollimationEnd col) s = .next t ∧ devState t = 8) ∧
    (core → (∀ t, t < 4 → crossingBad s col t = false) → (∀ e ∈ col.offsets, -48 ≤ e.2 ∧ e.2 ≤ 48) → s.boot.fromSleep = false → calm s →
      ∃ t, exec (.coreCollimationEnd col) s = .next t ∧ devState t = 4 ∧ t.boot.core = false ∧ t.clk.running = true ∧
        ∀ w, w < 4 → getB t F.TWR_STATUS_PARTITION_UP w = true ∧ getF t F.TWR_STATUS_LAYER_RST w = 0 ∧ getB t F.TWR_STATUS_PLL_LOCK w = true) ∧
    (¬ link → exec .linkCollimationEnd s = .next s) ∧
    (link → ∃ t, exec .linkCollimationEnd s = .next t ∧ t.act.clockDue = none ∧ (calm s → devState t = 5 ∧ t.boot.phaseStart = elapsedNs s)) ∧
    (devState s ≠ 5 ∨ s.boot.lightDone = true ∨ lit s = false → exec .firstLightEnd s = .next s) ∧
    (devState s = 5 → s.boot.lightDone = false → lit s = true → ∃ t, exec .firstLightEnd s = .next t ∧ t.boot.lightDone = true ∧ t.boot.phaseStart = elapsedNs s ∧
      (lightImage s = none → devState t = 5 ∧ t.store = s.store)) ∧
    (devState s = 5 → s.boot.lightDone = true → getB s F.TIME_STATUS_ALIGNED 0 = true → routesCovered s = true → s.mer.remains = true →
      ∃ t, exec .trackingEntry s = .next t ∧ devState t = 6 ∧ getB t F.DEV_STATE_READY 0 = true ∧ { t with sys := s.sys } = s) ∧
    (devState s ≠ 5 ∨ s.boot.lightDone = false ∨ getB s F.TIME_STATUS_ALIGNED 0 = false ∨ routesCovered s = false ∨ s.mer.remains = false →
      exec .trackingEntry s = .next s)

/-- R386, R390, R409 to R411, R414 to R416, R433, R436: a spare or a new job takes the checkpoint that it read, or goes to HOLD without it; an image that fails its checks is
refused, one that passes is sealed; a commit ends with the image active and a new record; a delta ends with the digest of both. -/
def Obligations.ImagesAndLoads : Prop :=
  ∀ (pages : List (Nat × List Byte)) (failed : Bool) (s : State),
    let whole := failed = false ∧ wholeShard s pages = true
    let still := calm s ∧ s.mer.remains = true ∧ s.mcc.stopStep = none
    let ready := devState s = 6 ∧ phase s = 0 ∧ getF s F.IMG_STATUS_STATE 0 = 0 ∧ getB s F.IMG_STATUS_ACTIVE 0 = true
    (s.mcc.spare = none ∨ ¬ ready → exec (.spareJoin pages failed) s = .next s) ∧
    (∀ j, s.mcc.spare = some j → ready → ∃ t, exec (.spareJoin pages failed) s = .next t ∧ t.mcc.spare = none ∧ 0x44 ∉ t.mcc.work ∧
      (still → phase t = 6) ∧ (¬ whole → t.net.named = s.net.named) ∧
      (whole → ∃ x, t.net.named = some x ∧ x.step = j.ckptStep ∧ x.old = [] ∧ t.mer.intact = true ∧
        getF t F.MER_CKPT_STEP 0 = j.ckptStep % 2 ^ 64 ∧ getF t F.MER_STEP_STEP 0 = fld x.record 0 8 % 2 ^ 64)) ∧
    (s.mer.loading = none ∨ phase s ≠ 7 → exec (.ckptLoadDone pages failed) s = .next s) ∧
    (∀ c, s.mer.loading = some c → phase s = 7 → ∃ t, exec (.ckptLoadDone pages failed) s = .next t ∧ t.mer.loading = none ∧
      (¬ whole → still → phase t = 6) ∧
      (whole → t.mer.loaded = true ∧ getF t F.MER_PHASE_GATE 0 = 0 ∧ (calm s → phase t = 7) ∧ getF t F.MER_CKPT_STEP 0 = c % 2 ^ 64 ∧
        getF t F.MER_ATTEMPT_ATTEMPT 0 = 0)) ∧
    (getF s F.IMG_STATUS_STATE 0 ≠ 2 ∨ devState s < 4 ∨ s.flt.coreUp = false → exec .imgValidationDone s = .next s) ∧
    (getF s F.IMG_STATUS_STATE 0 = 2 → 4 ≤ devState s → s.flt.coreUp = true →
      (∀ r, validate s = some r → ∃ t, exec .imgValidationDone s = .next t ∧ getF t F.IMG_STATUS_STATE 0 = 5 ∧
        getF t F.IMG_REFUSAL_CODE 0 = r.code % 2 ^ 16 ∧ 0x21 ∉ t.mcc.work ∧ t.act = s.act ∧ t.store = s.store) ∧
      (validate s = none → (stagedImage s).kind = 0 → ∃ t, exec .imgValidationDone s = .next t ∧ getF t F.IMG_STATUS_STATE 0 = 3 ∧
        t.act.staged = some (stagedImage s) ∧ 0x21 ∉ t.mcc.work ∧ (s.act.image = none → getB t F.IMG_STATUS_FROZEN 0 = true) ∧ t.store = s.store)) ∧
    (committing s = none ∨ portsTrained s = false ∨ (s.act.live = false ∧ s.boot.lightDone = false) → exec .imgCommitDone s = .next s) ∧
    (∀ i, committing s = some i → portsTrained s = true → s.act.live = false → s.boot.lightDone = true →
      ∃ t, exec .imgCommitDone s = .next t ∧ getF t F.IMG_STATUS_STATE 0 = 0 ∧ getB t F.IMG_STATUS_ACTIVE 0 = true ∧
        getF t F.IMG_ACTIVE_ID_ID 0 = i.imageId % 2 ^ 32 ∧ getF t F.IMG_DELTAS_COUNT 0 = 0 ∧ t.act.staged = none ∧ t.act.digest = i.digest ∧
        0x22 ∉ t.mcc.work ∧ getF t F.MER_STEP_STEP 0 = s.act.firstStep % 2 ^ 64 ∧ getF t F.MER_ATTEMPT_ATTEMPT 0 = 0) ∧
    (deltaDue s = false → applying s = none → exec .deltaApplyEnd s = .next s) ∧
    (∀ d, deltaDue s = false → applying s = some d →
      (portsTrained s = false → exec .deltaApplyEnd s = .next s) ∧
      (portsTrained s = true → ∃ t, exec .deltaApplyEnd s = .next t ∧ getF t F.IMG_STATUS_STATE 0 = 0 ∧ t.act.staged = none ∧
        t.act.digest = sha384 (s.act.digest ++ d.digest) ∧ getF t F.IMG_ACTIVE_ID_ID 0 = d.imageId % 2 ^ 32 ∧ t.mer.loading = s.mer.loading))

/-! ## Power and temperature (16, 17) -/

/-- R461 to R464, R466 to R474, R477, R478: rails follow one another on power good; readings, quotas and requests move by the stated amounts; a long hold under a
power or thermal request gates its tiles; a wake starts within its rail's budget and ends after 2 or 8 µs; a failed trim regulator costs its tile. -/
def Obligations.RailsAndTiles : Prop :=
  ∀ (tile phys rail : Nat) (s : State),
    let x := getTileP s phys
    let p := physOf s tile
    let q := getTileP s p
    let low := fellBelow s tile (setPoint s p - 4) q.seenMin
    let slow := slowWake s phys
    let used := ((s.pwr.ramps.filter (fun r => r.phys / 144 == phys / 144)).map (fun r => charge r.step r.slow)).foldl (· + ·) 0
    let cap := limitOf s.act.image 4 2 3800
    let avg := getF s F.PWR_PKG_AVG 0
    let req := getF s F.PWR_STATUS_CAP_REQ 0
    (s.flt.coreUp = false → (∀ l b, exec (.pmbusPoll l b) s = .next s) ∧ exec .powerCapEval s = .next s) ∧
    (s.flt.coreUp = true → (∀ l, ∃ t, exec (.pmbusPoll l false) s = .next t ∧ t.pwr.misses = s.pwr.misses + 1 ∧ getB t F.PWR_STATUS_PMBUS_OK 0 = false) ∧
      ∀ v i, rail < 14 → ∃ t, exec (.pmbusPoll [(rail, v, i)] true) s = .next t ∧ t.pwr.misses = 0 ∧ getB t F.PWR_STATUS_PMBUS_OK 0 = true ∧
        getF t F.PWR_RAIL_SET_V rail = v % 2 ^ 10 ∧ t.store = s.store) ∧
    (∀ r l, s.pwr.order = r :: l → (r ≠ rail → exec (.railPowerGood rail) s = .next s) ∧
      (r = rail → r ∉ l → ∃ t, exec (.railPowerGood rail) s = .next t ∧ t.pwr.order = l ∧ (getRail t r).good = true ∧
        ∀ n m, l = n :: m → (getRail t n).on = true ∧ t.net.out = s.net.out ++ [.pmbus n (nominal n)])) ∧
    (s.pwr.order = [] → exec (.railPowerGood rail) s = .next s) ∧
    (railMayFail s rail = false → exec (.railFault rail) s = .next s) ∧
    (railMayFail s rail = true → ∃ t, exec (.railFault rail) s = .next t ∧ t.act.clockDue = none ∧
      (effClass s C.RAIL_FAULT ≤ 3 → (getRail t rail).good = false ∧ (getRail t rail).on = true)) ∧
    (devState s ≠ 6 ∨ q.state ≠ 2 → exec (.quotaEval tile) s = .next s) ∧
    (devState s = 6 → q.state = 2 → low = true → ∃ t, exec (.quotaEval tile) s = .next t ∧ (getTileP t p).quota = min 24 (q.quota + 1)) ∧
    (∀ n, devState s = 6 → q.state = 2 → low = false → q.settled = false → q.tracked = some n → elapsedNs s < n + 10000000000 →
      max q.lastEval n + 1000000000 ≤ elapsedNs s → ∃ t, exec (.quotaEval tile) s = .next t ∧ (getTileP t p).quota = max 6 (q.quota - 1)) ∧
    (holdSince s = none ∨ s.pwr.gated = true ∨ getF s F.PWR_CFG_GATE_AFTER 0 = 0 → exec .tileGate s = .next s) ∧
    (∀ n, holdSince s = some n → s.pwr.gated = false → getF s F.PWR_CFG_GATE_AFTER 0 ≠ 0 → n + 1000 * getF s F.PWR_CFG_GATE_AFTER 0 ≤ elapsedNs s →
      (getF s F.PAUSE_STATUS_POWER_REQ 0 ≠ 0 ∨ getF s F.PAUSE_STATUS_THERMAL_REQ 0 ≠ 0) → ∃ t, exec .tileGate s = .next t ∧ t.pwr.gated = true ∧
        (∀ l, l < 512 → gates s l = true → (getTileP t (physOf s l)).state = 1) ∧ t.store = s.store) ∧
    (∀ e, s.pwr.gated = false → s.pwr.queue.find? (fun e => e.1 / 144 == phys / 144) = some e →
      (e.1 ≠ phys ∨ wakeBudget s < used + charge (wakeStep s) slow → exec (.tileWakeStart phys) s = .next s) ∧
      (e.1 = phys → used + charge (wakeStep s) slow ≤ wakeBudget s → ∃ t, exec (.tileWakeStart phys) s = .next t ∧ (getTileP t phys).state = 3 ∧
        (getTileP t phys).wakeFrom = x.state ∧ t.pwr.queue = s.pwr.queue.filter (fun e => e.1 != phys) ∧
        t.pwr.ramps = s.pwr.ramps ++ [⟨phys, slow, elapsedNs s, wakeStep s⟩])) ∧
    (s.pwr.gated = false → s.pwr.queue.find? (fun e => e.1 / 144 == phys / 144) = none → exec (.tileWakeStart phys) s = .next s) ∧
    (∀ r, s.pwr.ramps.find? (fun r => r.phys == phys) = some r → s.pwr.gated = false →
      (elapsedNs s < r.start + (if r.slow then 8000 else 2000) → exec (.tileWakeDone phys true) s = .next s) ∧
      (r.start + (if r.slow then 8000 else 2000) ≤ elapsedNs s → ∃ t, exec (.tileWakeDone phys true) s = .next t ∧ (getTileP t phys).state = 2 ∧
        t.pwr.ramps = s.pwr.ramps.filter (fun r => r.phys != phys) ∧
        (x.wakeFrom = 0 → ∀ l, logicalOf s phys = some l → getArr t l = {} ∧ getLane t l = {}) ∧ (x.wakeFrom ≠ 0 → t.arr = s.arr ∧ t.lane = s.lane))) ∧
    (s.pwr.ramps.find? (fun r => r.phys == phys) = none → ∀ b, exec (.tileWakeDone phys b) s = .next s) ∧
    (s.flt.coreUp = true → s.pwr.capAt + 1000000 ≤ elapsedNs s →
      (cap < avg → ∃ t, exec .powerCapEval s = .next t ∧ getF t F.PWR_STATUS_CAP_REQ 0 = min 15 (req + 1) ∧ t.pwr.capLow = none) ∧
      (∀ n, avg * 100 < cap * 97 → avg ≤ cap → s.pwr.capLow = some n → n + 100000000 ≤ elapsedNs s → req < 16 →
        ∃ t, exec .powerCapEval s = .next t ∧ getF t F.PWR_STATUS_CAP_REQ 0 = req - 1)) ∧
    (elapsedNs s < s.pwr.capAt + 1000000 → exec .powerCapEval s = .next s) ∧
    (∀ l, ∃ t, exec (.railLimitEval l) s = .next t ∧ (∀ n c, l = [(n, c)] → n < 576 → effClass s C.RAIL_OVERCURRENT ≤ 3 → (getTileP t n).current = c) ∧
      ((∃ n, n < 4 ∧ 11500 < railSum ((l.filter (fun e => decide (e.1 < 576))).foldl putEstimate s) n) → t.pwr.hwDue = true)) ∧
    (∀ l v, (getB s F.PWR_STATUS_FCST 0 = false ∨ 5 ≤ l → exec (.fcstFrame l v) s = .next s) ∧
      (getB s F.PWR_STATUS_FCST 0 = true → l < 5 → ∃ w, w ≤ 255 ∧ w = min 255 (v / (if l = 4 then 4 else 5)) ∧ exec (.fcstFrame l v) s =
        .next { s with net := { s.net with out := s.net.out ++ [.fcst l (1 + 2 * w + 512 * parity8 w)] } })) ∧
    (∀ v, (x.state ≠ 2 ∨ setPoint s phys ≤ v + 20 → exec (.tileDroop phys v) s = .next s) ∧
      (x.state = 2 → v + 20 < setPoint s phys → ∃ t, exec (.tileDroop phys v) s = .next t ∧ (getTileP t phys).quota = min 24 (x.quota + 1) ∧
        (getTileP t phys).seenMin = v)) ∧
    (getB s F.FLT_SHUT_TILE phys = true → exec (.trimOpen phys) s = .next s ∧ exec (.trimShort phys) s = .next s ∧ exec (.trimOutOfReg phys) s = .next s) ∧
    (x.state < 2 → exec (.trimOpen phys) s = .next s ∧ exec (.trimOutOfReg phys) s = .next s) ∧
    (getB s F.FLT_SHUT_TILE phys = false → ∀ c ∈ ([.trimOpen phys, .trimShort phys, .trimOutOfReg phys] : List Instr), (2 ≤ x.state ∨ c = .trimShort phys) →
      ∃ t, exec c s = .next t ∧ getB t F.FLT_SHUT_TILE phys = true ∧ (getTileP t phys).state = 0)

/-- R483, R485, R488, R489, R492, R494, R498: a reading in range is taken with its offset, a second missed conversion and an impossible reading break the sensor; throttling
rises in each 1 ms over the threshold and falls after ten cool ones; the model's estimates go from the dome down; a trip parks the device. -/
def Obligations.Temperature : Prop :=
  ∀ (i : Nat) (s : State),
    let x := getSensor s i
    let n := sidereal s / 100000
    let req := getF s F.PAUSE_STATUS_THERMAL_REQ 0
    let there := s.boot.place ≠ .off ∧ i < 1152 ∧ x.broken = false
    (¬ there → ∀ r, exec (.sensorSample i r) s = .next s) ∧
    (sampleSlot s x = none → ∀ r, exec (.sensorSample i r) s = .next s) ∧
    (∀ k, there → sampleSlot s x = some k →
      (x.misses = 0 → exec (.sensorSample i none) s = .next (setSensor s i { x with misses := 1, sampled := some k })) ∧
      (1 ≤ x.misses → ∃ t, exec (.sensorSample i none) s = .next t ∧ (getSensor t i).broken = true ∧ getF t F.THM_SENSOR_STATE i = 2 ∧
        (i < 576 → getB t F.FLT_SHUT_TILE i = true)) ∧
      (∀ v, (v + x.offset < -160 ∨ 1200 < v + x.offset ∨ ∃ o l, x.reads = o :: l ∧ (80 < v + x.offset - o.2 ∨ 80 < o.2 - (v + x.offset))) →
        ∃ t, exec (.sensorSample i (some v)) s = .next t ∧ (getSensor t i).broken = true ∧ getB t F.THM_STATUS_BROKEN 0 = true) ∧
      (∀ v, -160 ≤ v + x.offset → v + x.offset ≤ 1200 → (∀ o l, x.reads = o :: l → v + x.offset - o.2 ≤ 80 ∧ o.2 - (v + x.offset) ≤ 80) →
        ∃ t, exec (.sensorSample i (some v)) s = .next t ∧ (getSensor t i).reads = ((k, v + x.offset) :: x.reads).take 34 ∧ (getSensor t i).misses = 0 ∧
          (getSensor t i).broken = false ∧ getF t F.THM_SENSOR_TEMP i = (BitVec.ofInt 12 (v + x.offset)).toNat)) ∧
    (s.boot.place = .off ∨ n ≤ s.thm.interval → exec .thermalReqInterval s = .next s) ∧
    (s.boot.place ≠ .off → s.thm.interval < n →
      (s.thm.excess = true ∨ anyOver s = true → ∃ t, exec .thermalReqInterval s = .next t ∧ t.thm.interval = n ∧ t.thm.excess = false ∧ t.thm.coolSince = none ∧
        (req < 15 → getF t F.PAUSE_STATUS_THERMAL_REQ 0 = req + 1) ∧ (req = 15 → getF t F.PAUSE_STATUS_THERMAL_REQ 0 = 15)) ∧
      (∀ k, s.thm.excess = false → anyOver s = false → s.thm.warm = false → allCool s = true → s.thm.coolSince = some k → k + 10 ≤ n → req < 16 →
        ∃ t, exec .thermalReqInterval s = .next t ∧ getF t F.PAUSE_STATUS_THERMAL_REQ 0 = req - 1 ∧ t.thm.coolSince = some n ∧ t.store = s.store) ∧
      (s.thm.excess = false → anyOver s = false → s.thm.warm = false → allCool s = true → s.thm.coolSince = none → ∃ t,
        exec .thermalReqInterval s = .next t ∧ getF t F.PAUSE_STATUS_THERMAL_REQ 0 = req ∧ t.thm.coolSince = some (n - 1) ∧ t.store = s.store) ∧
      (s.thm.excess = false → anyOver s = false → s.thm.warm = true ∨ allCool s = false → ∃ t, exec .thermalReqInterval s = .next t ∧
        getF t F.PAUSE_STATUS_THERMAL_REQ 0 = req ∧ t.thm.coolSince = none ∧ t.store = s.store)) ∧
    (∀ below fit, (s.flt.coreUp = false ∨ sharesOk below 4 (stackMw s) = false → exec (.layerModelEval below fit) s = .next s) ∧
      (s.flt.coreUp = true → sharesOk below 4 (stackMw s) = true → ∃ t, exec (.layerModelEval below fit) s = .next t ∧
        getB t F.THM_STATUS_FALLBACK_ONLY 0 = false ∧ ∀ w, w < 4 →
          (∀ l, l < 7 → (getLayer t w l).r = (let r := fit.getD (7 * w + l) 0; if 2975 ≤ r ∧ r ≤ 4025 then r else (getLayer s w l).r)) ∧
          (∀ top, layerMean s w 7 = some top →
            (getLayer t w 6).est = top + ((below.getD (7 * w + 6) 0 * (getLayer t w 6).r / 1000 : Nat) : Int)))) ∧
    (∀ split, (s.boot.place = .off ∨ sharesOk split 1 (stackMw s / 4) = false → exec (.fallbackEval split) s = .next s) ∧
      (s.boot.place ≠ .off → sharesOk split 1 (stackMw s / 4) = true → ∃ t, exec (.fallbackEval split) s = .next t ∧ ∀ w, w < 4 →
        ∀ top, layerMean s w 7 = some top → (getLayer t w 6).fallback = top + ((split.getD 6 0 * 3500 / 1000 : Nat) : Int))) ∧
    (∀ b, (s.thm.held = true ∨ s.boot.place = .off ∨ 1152 ≤ i ∨ tripReached s i b = false → exec (.thmTrip i b) s = .next s) ∧
      (s.thm.held = false → s.boot.place ≠ .off → i < 1152 → tripReached s i b = true → ∃ t, exec (.thmTrip i b) s = .next t ∧ t.thm.held = true ∧
        t.thm.pin = true ∧ getB t F.THM_TRIP_VALID 0 = true ∧ getF t F.THM_TRIPS_COUNT 0 = min (getF s F.THM_TRIPS_COUNT 0 + 1) (2 ^ 32 - 1) ∧
        (s.boot.place = .up → effClass s C.THM_TRIP = 5 → s.flt.selfTick ≠ some (sidereal s) → devState t = 8 ∧ t.clk.running = false)))

/-! ## The collector and the logbook (18, 19) -/

/-- R10, R455, R511, R513 to R517, R528, R544 to R547: the watchdog, stops and restarts of the core, ERR_N, the collector's own fault and a lost clock; the rollback
counter, the commits of the device's records, compaction, the change log and COLD_NEXT. -/
def Obligations.CollectorAndLogbook : Prop :=
  ∀ (v : W32) (o tower : Nat) (ok parity : Bool) (s : State),
    let recent := s.flt.stops.filter (fun t => decide (elapsedNs s < t + 3600000000000))
    let stopped := s.boot.place = .up ∧ s.flt.coreRestart = none ∧ getB s F.FLT_MGC_FAILED 0 = false ∧ s.flt.fedAt + 500000000 ≤ elapsedNs s
    let parked := devState s == 8
    (v.toNat % 65536 = 0x5A7C → exec (.watchdogFeed v) s = .next { s with flt := { s.flt with fedAt := elapsedNs s } }) ∧
    (v.toNat % 65536 ≠ 0x5A7C → exec (.watchdogFeed v) s = .next s) ∧
    (s.boot.place ≠ .up ∨ s.flt.coreUp = false → exec .managementCoreStops s = .next s) ∧
    (s.boot.place = .up → s.flt.coreUp = true → ∃ t, exec .managementCoreStops s = .next t ∧ t.flt = { s.flt with coreUp := false } ∧
      t.eph = s.eph ∧ t.mer = s.mer ∧ t.lane = s.lane ∧ t.deep = s.deep ∧ t.store = s.store ∧ t.net = s.net) ∧
    (¬ stopped → exec .mgcStopped s = .next s) ∧
    (stopped → recent.length < 2 → ∃ t, exec .mgcStopped s = .next t ∧ t.flt.coreUp = false ∧ t.flt.coreRestart = some (elapsedNs s) ∧
      t.mcc.session = none ∧ t.mcc.inbox = [] ∧ t.flt.stops = elapsedNs s :: recent ∧
      getF t F.FLT_MGC_RESTARTS 0 = min (getF s F.FLT_MGC_RESTARTS 0 + 1) 255) ∧
    (stopped → 2 ≤ recent.length → ∃ t, exec .mgcStopped s = .next t ∧ t.flt.coreUp = false ∧ t.flt.coreRestart = none ∧
      getB t F.FLT_MGC_FAILED 0 = true ∧ t.mcc.session = none) ∧
    (s.flt.coreRestart = none → exec .mgcRestartDone s = .next s) ∧
    (s.flt.coreRestart.isSome → ∃ t, exec .mgcRestartDone s = .next t ∧ t.flt.coreUp = true ∧ t.flt.coreRestart = none ∧
      t.flt.fedAt = elapsedNs s ∧ ∀ x, s.log.next = some x → t.log.running = some x ∧ t.log.next = none ∧ t.log.before = s.log.running) ∧
    (s.flt.errnEnd = none → exec .errnTimerEnd s = .next s) ∧
    (∀ n, s.flt.errnEnd = some n →
      (elapsedNs s < n → exec .errnTimerEnd s = .next s) ∧
      (n ≤ elapsedNs s → ∃ t, exec .errnTimerEnd s = .next t ∧ t.flt.errnEnd = none ∧ getB t F.FLT_STATUS_ERRN_TIMER 0 = false ∧
        getB t F.FLT_STATUS_ERRN 0 = (getB s F.FLT_CTL_ERRN_HOLD 0 || parked))) ∧
    (∃ t, exec (.errnHoldWrite v) s = .next t ∧ getB t F.FLT_CTL_ERRN_HOLD 0 = v.toNat.testBit 0 ∧
      getB t F.FLT_STATUS_ERRN 0 = (s.flt.errnEnd.isSome || v.toNat.testBit 0 || parked) ∧ { t with sys := s.sys } = s) ∧
    (s.boot.place = .off → exec (.collectorSelf parity) s = .next s) ∧
    (s.boot.place ≠ .off → ∃ t, exec (.collectorSelf parity) s = .next t ∧ getB t F.FLT_SELF_VALID 0 = true ∧
      getB t (if parity then F.FLT_SELF_PARITY else F.FLT_SELF_COMPARE) 0 = true ∧ t.flt.hist = s.flt.hist ∧ t.store = s.store ∧
      t.pwr.rails = s.pwr.rails ∧ (s.boot.place = .up → devState t = 8 ∧ t.clk.running = false) ∧
      ∀ c u, record t c u = t) ∧
    (s.boot.place ≠ .up → exec (.refclkLost tower) s = .next s) ∧
    (s.boot.place = .up → s.flt.selfTick ≠ some (sidereal s) → effClass s C.REFCLK_LOST = 5 → ∃ t, exec (.refclkLost tower) s = .next t ∧ devState t = 8 ∧
      getB t F.FLT_STATUS_ERRN 0 = true ∧ t.flt.errnEnd = some (elapsedNs s + 1000000)) ∧
    (s.log.running = none → exec .rollbackAdvanced s = .next s) ∧
    (∀ x, s.log.running = some x →
      (x.burn = false ∨ x.svn ≤ s.log.fuses.rollback ∨ elapsedNs s < s.log.runSince + 86400000000000 → exec .rollbackAdvanced s = .next s) ∧
      (x.burn = true → s.log.fuses.rollback < x.svn → s.log.runSince + 86400000000000 ≤ elapsedNs s → ∃ t, exec .rollbackAdvanced s = .next t ∧
        t.log.fuses = { s.log.fuses with rollback := x.svn })) ∧
    (s.flt.coreUp = false ∨ logWrites s = false ∨ elapsedNs s < s.log.lastCommit + 10000000000 → exec (.logCommit ok) s = .next s) ∧
    (s.flt.coreUp = true → logWrites s = true → s.log.lastCommit + 10000000000 ≤ elapsedNs s → ∃ t, exec (.logCommit ok) s = .next t ∧
      (ok = true → t.log.lastCommit = elapsedNs s ∧ t.flt.toLog = []) ∧ (ok = false → getB t F.LOG_STATUS_WRITABLE 0 = false ∧ t.log.compact = none)) ∧
    (logWrites s = false ∨ s.log.compact.isSome → exec .logCompaction s = .next s) ∧
    (logWrites s = true → s.log.compact = none → 3 * s.log.size ≤ 4 * s.log.blocks.length → ∃ t, exec .logCompaction s = .next t ∧
      getB t F.LOG_STATUS_COMPACTING 0 = true ∧ t.log = { s.log with compact := some (elapsedNs s) }) ∧
    (s.log.compact = none ∨ logWrites s = false ∨ pendingOf s 1 ≠ [] → exec .logCompactionEnd s = .next s) ∧
    (s.log.compact.isSome → logWrites s = true → pendingOf s 1 = [] → ∃ t, exec .logCompactionEnd s = .next t ∧ t.log.compact = none ∧
      getB t F.LOG_STATUS_COMPACTING 0 = false ∧ ∀ b ∈ t.log.blocks, s.log.gen < b.gen) ∧
    (s.flt.coreUp = false ∨ s.log.changes = [] → exec (.changeFlush ok) s = .next s) ∧
    (s.flt.coreUp = true → s.log.changes ≠ [] → ∃ t, exec (.changeFlush ok) s = .next t ∧ (ok = false → getB t F.LOG_STATUS_WRITABLE 0 = false) ∧
      (ok = true → logWrites s = true → t.log.changes = [] ∧ t.log.lost = 0)) ∧
    (∃ t, exec (.coldNextWrite v o) s = .next t ∧ getB t F.BOOT_CTL_COLD_NEXT 0 = v.toNat.testBit 0 ∧ t.store = s.store)

/-! ## The control channel (14) -/

namespace Sys2Proof.Claims

/-- The commands of Table: MCC opcodes with their codes. -/
def mccRow (p : (MccReq → Instr) × Nat) : Prop :=
  p ∈ ([(.hello, 0x00), (.kex, 0x01), (.auth, 0x02), (.close, 0x03), (.ping, 0x04), (.attest, 0x08), (.identity, 0x09), (.imgPart, 0x20),
   (.imgValidate, 0x21), (.imgCommit, 0x22), (.imgDiscard, 0x23), (.imgStatus, 0x24), (.bulkConnect, 0x25), (.imgWindow, 0x26),
   (.jobStart, 0x40), (.jobResume, 0x41), (.jobStop, 0x42), (.jobStatus, 0x43), (.spareTake, 0x44), (.drain, 0x45), (.power, 0x46),
   (.pause, 0x47), (.resultRead, 0x60), (.resultWindow, 0x61), (.slotsList, 0x62), (.regRead, 0x68), (.eventsRead, 0x69),
   (.logRead, 0x80), (.fwRecord, 0x81), (.fwCommit, 0x82), (.changeRead, 0x83), (.dbgHalt, 0xA0), (.dbgStep, 0xA1),
   (.dbgResume, 0xA2), (.dbgRead, 0xA3), (.dbgWrite, 0xA4), (.dbgWindow, 0xA5), (.regWrite, 0xA6), (.partitionReset, 0xC0),
   (.layerReset, 0xC1), (.shutter, 0xC2), (.reopen, 0xC3), (.lamp, 0xC4), (.lampResult, 0xC5), (.locate, 0xC6)] :
    List ((MccReq → Instr) × Nat))

/-- The commands whose request payload has one length (Table: MCC opcodes). -/
def sizedRow (p : (MccReq → Instr) × Nat × Nat) : Prop :=
  p ∈ ([(.close, 0x03, 0), (.ping, 0x04, 0), (.attest, 0x08, 32), (.identity, 0x09, 0), (.imgValidate, 0x21, 0), (.imgCommit, 0x22, 0),
   (.imgDiscard, 0x23, 0), (.imgStatus, 0x24, 0), (.bulkConnect, 0x25, 20), (.imgWindow, 0x26, 0), (.jobStart, 0x40, 32),
   (.jobResume, 0x41, 0), (.jobStop, 0x42, 8), (.jobStatus, 0x43, 0), (.spareTake, 0x44, 16), (.drain, 0x45, 0), (.power, 0x46, 1),
   (.pause, 0x47, 1), (.resultRead, 0x60, 16), (.resultWindow, 0x61, 0), (.slotsList, 0x62, 0), (.eventsRead, 0x69, 0),
   (.logRead, 0x80, 12), (.fwCommit, 0x82, 0), (.changeRead, 0x83, 8), (.dbgHalt, 0xA0, 3), (.dbgStep, 0xA1, 3),
   (.dbgResume, 0xA2, 3), (.dbgRead, 0xA3, 6), (.dbgWrite, 0xA4, 10), (.dbgWindow, 0xA5, 2), (.regWrite, 0xA6, 16),
   (.partitionReset, 0xC0, 1), (.layerReset, 0xC1, 2), (.shutter, 0xC2, 3), (.reopen, 0xC3, 3), (.lamp, 0xC4, 53), (.lampResult, 0xC5, 1),
   (.locate, 0xC6, 1)] : List ((MccReq → Instr) × Nat × Nat))

/-- The state in which a request runs: it has left those that have arrived. -/
def taken (s : State) (op : Nat) (req : MccReq) : State := { s with mcc := { s.mcc with inbox := s.mcc.inbox.erase (op, req) } }

/-- A request has arrived and the management core serves it, outside netboot. -/
def arrived (s : State) (op : Nat) (req : MccReq) : Prop :=
  s.mcc.inbox.contains (op, req) = true ∧ s.flt.coreUp = true ∧ s.boot.netboot = false

/-- A new request of the session that nothing turns away (R427, R430, R431, R535). -/
def admitted (s : State) (op : Nat) (req : MccReq) (x : Session) : Prop :=
  arrived s op req ∧ s.mcc.session = some x ∧ x.id = req.session ∧ x.kept.find? (fun k => k.seq == req.seq) = none ∧
    (∀ n, x.top = some n → n < req.seq) ∧ turnedAway s x op req = none

/-- The command leaves a state of its own effect, answered with a status and a payload. -/
def answers (c : Instr) (op : Nat) (req : MccReq) (s t : State) (st : Nat) (b : List Byte) : Prop :=
  exec c s = .next (runKept t op req (fun v => (v, st, b)))

/-- The same outside a session (R424). -/
def answersBare (c : Instr) (op : Nat) (req : MccReq) (s t : State) (st : Nat) (b : List Byte) : Prop :=
  exec c s = .next (runBare t op req (fun v => (v, st, b)))

/-- The words of registers one after another. -/
def regsAnswered (c : Instr) (op : Nat) (req : MccReq) (s u : State) (as : List Nat) : Prop :=
  answers c op req s (readRegs u as).1 0 (readRegs u as).2 ∧ (readRegs u as).2.length = 4 * as.length

end Sys2Proof.Claims

/-- R427: in a session a request is executed only with a SEQUENCE above every one executed; the last 64 responses are kept, a repeat of a kept one is sent again and
executes nothing, and a lower one that is not kept is answered STALE. A request that has not arrived is no event; outside the session, in netboot, without the
management core, or turned away, it has none of its own effect. -/
def Obligations.ControlChannel : Prop :=
  ∀ (req : MccReq) (x : Session) (s : State),
    (∀ p, mccRow p →
      let u := taken s p.2 req
      (s.mcc.inbox.contains (p.2, req) = false → exec (p.1 req) s = .next s) ∧
      (s.mcc.inbox.contains (p.2, req) = true → s.flt.coreUp = false → exec (p.1 req) s = .next u) ∧
      (s.mcc.inbox.contains (p.2, req) = true → s.flt.coreUp = true → s.boot.netboot = true → (netbootOps.contains p.2 = false ∨ req.session ≠ 0) →
        exec (p.1 req) s = .next (reject u p.2 req stParked)) ∧
      (2 < p.2 → arrived s p.2 req → (s.mcc.session = none ∨ ∃ y, s.mcc.session = some y ∧ y.id ≠ req.session) →
        exec (p.1 req) s = .next (reject u p.2 req (if s.mcc.endedIds.contains req.session then stGone else stNoSession))) ∧
      (∀ k, 2 < p.2 → arrived s p.2 req → s.mcc.session = some x → x.id = req.session → x.kept.find? (fun k => k.seq == req.seq) = some k →
        exec (p.1 req) s = .next (sendFrames (incF u F.MCC_DUP_COUNT 0 1) k.frames)) ∧
      (∀ n, 2 < p.2 → arrived s p.2 req → s.mcc.session = some x → x.id = req.session → x.kept.find? (fun k => k.seq == req.seq) = none →
        x.top = some n → req.seq ≤ n → exec (p.1 req) s = .next (reject (incF u F.MCC_STALE_COUNT 0 1) p.2 req stStale)) ∧
      (∀ st, 2 < p.2 → arrived s p.2 req → s.mcc.session = some x → x.id = req.session → x.kept.find? (fun k => k.seq == req.seq) = none →
        (∀ n, x.top = some n → n < req.seq) → turnedAway s x p.2 req = some st → answers (p.1 req) p.2 req s u st [])) ∧
    (∀ p, sizedRow p → admitted s p.2.1 req x → req.payload.length ≠ p.2.2 →
      answers (p.1 req) p.2.1 req s (taken s p.2.1 req) stBadLength []) ∧
    (∀ (op st : Nat) (b : List Byte), s.mcc.session = some x → x.id = req.session →
      let t := runKept s op req (fun v => (v, st, b))
      t.net.out = s.net.out ++ (response op req.session req.seq st b).map (fun f => .mcc f) ∧ t.store = s.store ∧ t.mer = s.mer ∧
      (st ∉ [stBadOpcode, stBadLength, stBadParam] → getF t F.MCC_CMDS_COUNT 0 = min (getF s F.MCC_CMDS_COUNT 0 + 1) (2 ^ 32 - 1) ∧
        t.mcc = { s.mcc with session := some { x with top := some req.seq
                                                      kept := (⟨req.seq, response op req.session req.seq st b⟩ :: x.kept).take 64 } }) ∧
      (st ∈ [stBadOpcode, stBadLength, stBadParam] → t.mcc = s.mcc ∧ t.sys = s.sys)) ∧
    (∀ st, turnedAway s x 0xA0 req = some st → devState s ≠ 8 → inBench s = false → st = stNotBench)

/-- R421 to R426, R429, R538: a datagram of the right form whose fragments are whole joins the requests that have arrived; setup is HELLO, KEX and AUTH; a session closes;
PING gives the time, ATTEST a report over the nonce, IDENTITY the identity registers. The nonce and the session identifier are free values (assumption 2). -/
def Obligations.SessionCommands : Prop :=
  ∀ (d : List Byte) (sec : Bool) (req : MccReq) (x : Session) (s : State),
    let op := fld d 1 1
    let ses := fld d 4 4
    let seq := fld d 8 8
    let up := s.boot.place = .up ∧ s.flt.coreUp = true ∧ portUp s 255 = true
    let clean := up ∧ frameOk d = true ∧ frameTaken s sec op = true ∧ s.mcc.fresh = none ∧ bit (fld d 2 1) 0 = false ∧
      s.mcc.frags.all (fun f => !(f.opcode == op && f.session == ses && f.seq == seq)) = true
    let u0 := taken s 0 req
    let u1 := taken s 1 req
    let u2 := taken s 2 req
    (¬ up → exec (.mccFrame sec d) s = .next s) ∧
    (up → frameOk d = false → exec (.mccFrame sec d) s = .next (incF s F.MCC_DROP_COUNT 0 1)) ∧
    (up → frameOk d = true → frameTaken s sec op = false → exec (.mccFrame sec d) s = .next (incF s F.MCC_DROP_COUNT 0 1)) ∧
    (clean → fld d 22 2 = 32768 → op ∈ opcodes → exec (.mccFrame sec d) s =
      .next { s with mcc := { s.mcc with inbox := s.mcc.inbox ++ [(op, ⟨ses, seq, d.drop 32⟩)] } }) ∧
    (clean → fld d 22 2 < 16 → exec (.mccFrame sec d) s = .next { s with mcc := { s.mcc with
      frags := s.mcc.frags ++ [⟨op, ses, seq, elapsedNs s, [(fld d 22 2, d.drop 32)], none⟩] } }) ∧
    (exec .mccFragmentTimeout s =
      .next { s with mcc := { s.mcc with frags := s.mcc.frags.filter (fun f => decide (elapsedNs s < f.start + 100000000)) } }) ∧
    (s.mcc.fresh = none → exec .sessionMkaTimeout s = .next s) ∧
    (∀ y, s.mcc.fresh = some y →
      (elapsedNs s < y.authAt + 2000000000 → exec .sessionMkaTimeout s = .next s) ∧
      (y.authAt + 2000000000 ≤ elapsedNs s → ∃ t, exec .sessionMkaTimeout s = .next t ∧ t.mcc = { s.mcc with fresh := none } ∧
        getB t F.MCC_STATUS_SESSION 0 = s.mcc.session.isSome)) ∧
    (arrived s 0 req → req.payload = [] → ∃ v, answersBare (.hello req) 0 req s v 0 (helloBody u0) ∧
      v.mcc = { u0.mcc with setup := some ⟨helloBody u0, none⟩, fresh := none } ∧ (effClass s C.CERT_MISSING ≤ 3 → v.store = s.store)) ∧
    (arrived s 1 req → req.payload.length = 1216 → s.mcc.setup = none → answersBare (.kex req) 1 req s u1 stNoSession []) ∧
    (∀ y, arrived s 1 req → req.payload.length = 1216 → s.mcc.setup = some y → ∃ ct t sh,
      t = sha384 (y.hello ++ req.payload ++ ct) ∧ ct.length = 1088 ∧
      answersBare (.kex req) 1 req s { takeFree u1 with mcc := { u1.mcc with setup := some { y with kex := some (t, sh) } } } 0
        (ct ++ identitySig u1 1 t ++ identitySig u1 2 t)) ∧
    (arrived s 2 req → s.mcc.setup.bind (·.kex) = none → answersBare (.auth req) 2 req s u2 stNoSession []) ∧
    (∀ t k, arrived s 2 req → s.mcc.setup.bind (·.kex) = some (t, k) →
      (authNeeded s = true → authOk s req.payload t = false → ∃ v, answersBare (.auth req) 2 req s v stAuthFailed [] ∧ v.mcc = u2.mcc ∧
        getF v F.MCC_AUTHFAIL_COUNT 0 = min (getF s F.MCC_AUTHFAIL_COUNT 0 + 1) (2 ^ 32 - 1)) ∧
      ((authNeeded s = false ∨ authOk s req.payload t = true) → ∃ v y, answersBare (.auth req) 2 req s v 0 (leBytes y.id 4) ∧
        v.mcc = { u2.mcc with setup := none, fresh := some y } ∧ 0 < y.id ∧ y.id < 2 ^ 32 ∧ y.kept = [] ∧ y.top = none)) ∧
    (admitted s 3 req x → req.payload = [] → ∃ v, answers (.close req) 3 req s v 0 [] ∧ v.mcc.session = none ∧ v.mcc.staging = none ∧
      v.mcc.results = none ∧ v.mcc.debug = none ∧ v.mcc.bulk = none ∧ x.id ∈ v.mcc.endedIds ∧ v.store = s.store) ∧
    (admitted s 4 req x → req.payload = [] → answers (.ping req) 4 req s (taken s 4 req) 0 (leBytes (nowNs s) 8)) ∧
    (admitted s 8 req x → req.payload.length = 32 → ∃ h, (h.drop 16).take 32 = req.payload ∧
      answers (.attest req) 8 req s (taken s 8 req) 0 (h ++ identityEntry s 1 (sha384 h) ++ identityEntry s 2 (sha384 h))) ∧
    (admitted s 9 req x → req.payload = [] → regsAnswered (.identity req) 9 req s (taken s 9 req) (regRun regBase 6 ++ [regBase + 0x7000]))

/-- R407 to R411, R429, R432, R439, R529, R530: parts of an image, its validation, commit, discard and status; the bulk connection and its windows, whose addresses and keys
are free values (assumption 2); firmware records and their commit. -/
def Obligations.ImageAndFirmwareCommands : Prop :=
  ∀ (req : MccReq) (x : Session) (addr key len : Nat) (data : List Byte) (s : State),
    let p := req.payload
    let off := fld p 0 8
    let st := getF s F.IMG_STATUS_STATE 0
    let u (op : Nat) : State := taken s op req
    let part := admitted s 0x20 req x ∧ 16 ≤ p.length ∧ p.length ≤ 8960 ∧ zr p 12 4 = true
    (part → st ∈ [2, 3, 4] → answers (.imgPart req) 0x20 req s (u 0x20) stWrongState []) ∧
    (part → (st = 1 ∨ st = 5) → (off ≠ 0 ∨ fld p 8 4 = s.act.stagedId) → off + (p.length - 16) ≤ min (2 ^ 34) (stageRoom s) →
      ∃ v, answers (.imgPart req) 0x20 req s v 0 [] ∧ v = placePart (u 0x20) off (p.drop 16) ∧ (128 ≤ off → v.sys = s.sys) ∧
        (16 < p.length → off / 4096 ∈ v.act.granules)) ∧
    (part → st = 0 → off = 0 → 48 ≤ p.length → p.length - 16 ≤ min (2 ^ 34) (stageRoom s) →
      (lengthFits s (fld p 40 8) = false → ∃ v, answers (.imgPart req) 0x20 req s v stRefused (refusal 0x0D03 24) ∧
        getF v F.IMG_REFUSAL_CODE 0 = 0x0D03 ∧ getF v F.IMG_STATUS_STATE 0 = 0 ∧ v.store = s.store) ∧
      (lengthFits s (fld p 40 8) = true → ∃ v, answers (.imgPart req) 0x20 req s v 0 [] ∧ getF v F.IMG_STATUS_STATE 0 = 1 ∧
        v.act.stagedId = fld p 8 4 ∧ 0 ∈ v.act.granules)) ∧
    (admitted s 0x21 req x → p = [] →
      (s.mcc.work.contains 0x21 = true → answers (.imgValidate req) 0x21 req s (u 0x21) stBusy []) ∧
      (s.mcc.work.contains 0x21 = false → st ∉ [1, 5] → answers (.imgValidate req) 0x21 req s (u 0x21) stWrongState []) ∧
      (s.mcc.work.contains 0x21 = false → st ∈ [1, 5] → ∃ v, answers (.imgValidate req) 0x21 req s v stAccepted [] ∧
        getF v F.IMG_STATUS_STATE 0 = 2 ∧ v.mcc.work = s.mcc.work ++ [0x21] ∧ v.store = s.store)) ∧
    (admitted s 0x22 req x → p = [] → s.mcc.work.contains 0x22 = false →
      (phase s ≠ 0 → answers (.imgCommit req) 0x22 req s (u 0x22) stJobActive []) ∧
      (phase s = 0 → sealedFull s = none → answers (.imgCommit req) 0x22 req s (u 0x22) stWrongState []) ∧
      (∀ i, phase s = 0 → sealedFull s = some i → devState s ∈ [4, 6] → ∃ v, answers (.imgCommit req) 0x22 req s v stAccepted [] ∧
        0x22 ∈ v.mcc.work ∧ (devState s = 4 → devState v = 3 ∧ v.boot.lightDone = false))) ∧
    (admitted s 0x23 req x → p = [] → (st ∈ [2, 4] → answers (.imgDiscard req) 0x23 req s (u 0x23) stWrongState []) ∧
      (st ∉ [2, 4] → ∃ v, answers (.imgDiscard req) 0x23 req s v 0 [] ∧ getF v F.IMG_STATUS_STATE 0 = 0 ∧ v.act.staged = none ∧
        v.act.image = s.act.image ∧ v.store = s.store)) ∧
    (admitted s 0x24 req x → p = [] → regsAnswered (.imgStatus req) 0x24 req s (u 0x24) (regRun (regBase + 0x6000) 21)) ∧
    (admitted s 0x25 req x → p.length = 20 → ∃ v q, q < 2 ^ 24 ∧ answers (.bulkConnect req) 0x25 req s v 0 (leBytes q 4) ∧
      v.mcc.bulk = some ⟨fld p 0 4, p.drop 4, q⟩ ∧ getB v F.MCC_STATUS_BULK 0 = true) ∧
    (admitted s 0x26 req x → p = [] → ∃ v a k, a < 2 ^ 48 ∧ k < 2 ^ 32 ∧ answers (.imgWindow req) 0x26 req s v 0 (windowBody a k (stagingLen s)) ∧
      v.mcc.staging = some (a, k) ∧ v.store = s.store) ∧
    (admitted s 0x61 req x → p = [] → ∃ v a k, a < 2 ^ 48 ∧ k < 2 ^ 32 ∧ answers (.resultWindow req) 0x61 req s v 0 (windowBody a k (storageLen s)) ∧
      v.mcc.results = some (a, k) ∧ v.store = s.store) ∧
    (admitted s 0xA5 req x → p.length = 2 → (512 ≤ fld p 0 2 → answers (.dbgWindow req) 0xA5 req s (u 0xA5) stBadParam []) ∧
      (fld p 0 2 < 512 → ∃ v a k, a < 2 ^ 48 ∧ k < 2 ^ 32 ∧ answers (.dbgWindow req) 0xA5 req s v 0 (windowBody a k 0xE00000) ∧
        v.mcc.debug = some (fld p 0 2, a, k) ∧ v.store = s.store)) ∧
    (bulkUp s = false ∨ s.mcc.staging = none → exec (.bulkWrite addr key data) s = .next (rdma s none)) ∧
    (∀ w, bulkUp s = true → s.mcc.staging = some w →
      (w.2 ≠ key ∨ addr < w.1 ∨ w.1 + stagingLen s < addr + data.length → exec (.bulkWrite addr key data) s = .next (rdma s none)) ∧
      (w.2 = key → w.1 < addr → addr + data.length ≤ w.1 + stagingLen s → st = 1 →
        exec (.bulkWrite addr key data) s = .next (rdma (placePart s (addr - w.1) data) (some [])))) ∧
    (bulkUp s = false ∨ (s.mcc.results = none ∧ s.mcc.debug = none) → exec (.bulkRead addr key len) s = .next (rdma s none)) ∧
    (∀ w, bulkUp s = true → s.mcc.results = some w → w.2 = key → w.1 ≤ addr → addr + len ≤ w.1 + storageLen s →
      let r := storageBytes s (addr - w.1) len 257
      ∃ t o, exec (.bulkRead addr key len) s = .next t ∧ t.net.out = o ++ [.rdma (some r.2.1)] ∧
        (r.2.2 = false → r.1 = s → s.store.repeatDue = [] → o = s.net.out ∧ t.sys = s.sys ∧ t.store = s.store) ∧
        (r.2.2 = true → getB t F.PRT_CAPTURE_VALID 255 = true)) ∧
    (let k := max (4096 * getF s F.RES_PAGES_PAGES 0) 1
     ∀ m, 0 < len → off % k + len ≤ k → (mget s.mcc.slots (off / k) {}).state ≠ 2 →
      storageBytes s off len (m + 2) = (s, List.replicate len 0, false)) ∧
    (∀ w d, bulkUp s = true → s.mcc.results = none → s.mcc.debug = some (d, w) → inBench s = true → w.2 = key → w.1 ≤ addr →
      addr + len ≤ w.1 + 0xE00000 → let r := focalBytes s d (addr - w.1) len
      ∃ t o, exec (.bulkRead addr key len) s = .next t ∧ t.net.out = o ++ [.rdma (some r.2.1)] ∧
        (r.2.2 = true → getB t F.PRT_CAPTURE_VALID 255 = true)) ∧
    (admitted s 0x81 req x → 8 ≤ p.length → p.length ≤ 65488 →
      (serviceTypes.contains (fld p 0 2) = false → answers (.fwRecord req) 0x81 req s (u 0x81) stBadParam []) ∧
      (zr p 2 2 = true → serviceTypes.contains (fld p 0 2) = true → logWrites s = false →
        answers (.fwRecord req) 0x81 req s (u 0x81) stInternal []) ∧
      (zr p 2 2 = true → serviceTypes.contains (fld p 0 2) = true → logWrites s = true → ∃ v, answers (.fwRecord req) 0x81 req s v 0 [] ∧
        v.log.seq = s.log.seq + 1 ∧ v.store = s.store ∧ ∃ b ∈ v.log.blocks, ⟨fld p 0 2, 2, s.log.seq, fld p 4 4, p.drop 8, false⟩ ∈ b.recs)) ∧
    (admitted s 0x82 req x → p = [] →
      (s.log.next.isSome → (pendingSet s).isSome → answers (.fwCommit req) 0x82 req s (u 0x82) stBusy []) ∧
      ((s.log.next = none ∨ pendingSet s = none) → (∃ r ∈ servicePending s, serviceOk s r = false) →
        ∃ v, answers (.fwCommit req) 0x82 req s v stAccepted [] ∧ v.log.next = s.log.next ∧ v.log.running = s.log.running ∧ v.log.netRecs = []) ∧
      (∀ r, s.log.next = none → pendingSet s = some r → (∀ r ∈ servicePending s, serviceOk s r = true ∧ r.type ≠ tOwner) → phase s ∉ [0, 6] →
        ∃ v, answers (.fwCommit req) 0x82 req s v stAccepted [] ∧ v.log.next = some (fwSetOf r.key r.body) ∧ v.log.running = s.log.running))

/-- R128, R370, R390, R433 to R436, R438, R443: a job starts, resumes and stops; a spare takes its role; the device drains, changes state and pauses; results are read
from sealed slots only. -/
def Obligations.JobCommands : Prop :=
  ∀ (req : MccReq) (x : Session) (s : State),
    let p := req.payload
    let u (op : Nat) : State := taken s op req
    let n := fld p 0 8
    (admitted s 0x40 req x → p.length = 32 →
      (phase s ≠ 0 → answers (.jobStart req) 0x40 req s (u 0x40) stJobActive []) ∧
      (phase s = 0 → jobReady s = false → answers (.jobStart req) 0x40 req s (u 0x40) stWrongState []) ∧
      (phase s = 0 → jobReady s = true → jobParamsOk s p = false → answers (.jobStart req) 0x40 req s (u 0x40) stBadParam []) ∧
      (phase s = 0 → jobReady s = true → jobParamsOk s p = true → ∃ v, answers (.jobStart req) 0x40 req s v stAccepted [] ∧ phase v = 7 ∧
        v.eph.nextMark = some n ∧ getF v F.MER_ATTEMPT_ATTEMPT 0 = 0 ∧ getF v F.RES_PAGES_PAGES 0 = fld p 16 1 ∧ v.mcc.slots = [] ∧
        v.mcc.work = s.mcc.work ++ [0x40] ∧ v.store = s.store ∧
        (fld p 8 4 = 1 → v.mer.loading = some (fld p 24 8) ∧ getF v F.MER_PHASE_GATE 0 = 2) ∧ (fld p 8 4 = 0 → v.mer.loading = none))) ∧
    (admitted s 0x41 req x → p = [] →
      (phase s ≠ 6 → answers (.jobResume req) 0x41 req s (u 0x41) stNoJob []) ∧
      (phase s = 6 → s.mer.resume = true → answers (.jobResume req) 0x41 req s (u 0x41) stBusy []) ∧
      (phase s = 6 → s.mer.resume = false → ∃ v, answers (.jobResume req) 0x41 req s v stAccepted [] ∧ v.mer.resume = true ∧
        v.mer.closeDue = true ∧ v.mer.closeUp = none ∧ v.mer.closeDown = none ∧ (∀ t ∈ retained s, ∃ e ∈ v.pwr.queue, e.1 = t) ∧ v.store = s.store)) ∧
    (admitted s 0x42 req x → p.length = 8 →
      (phase s = 0 → answers (.jobStop req) 0x42 req s (u 0x42) stNoJob []) ∧
      (phase s ∈ [6, 7] → ∃ v, answers (.jobStop req) 0x42 req s v 0 [] ∧ phase v = 0 ∧ v.mcc.job = none ∧ v.eph.nextMark = none) ∧
      (phase s ∉ [0, 6, 7] → answers (.jobStop req) 0x42 req s { u 0x42 with mcc := { (u 0x42).mcc with stopStep := some n } } 0 [])) ∧
    (admitted s 0x43 req x → p = [] → regsAnswered (.jobStatus req) 0x43 req s (u 0x43) (regRun (regBase + 0x700000) 24)) ∧
    (admitted s 0x44 req x → p.length = 16 →
      (zr p 2 6 = false → answers (.spareTake req) 0x44 req s (u 0x44) stBadParam []) ∧
      (zr p 2 6 = true → phase s ≠ 0 → answers (.spareTake req) 0x44 req s (u 0x44) stJobActive []) ∧
      (zr p 2 6 = true → phase s = 0 → s.mcc.spare.isSome → answers (.spareTake req) 0x44 req s (u 0x44) stBusy []) ∧
      (zr p 2 6 = true → phase s = 0 → s.mcc.spare = none → devState s ∉ [4, 6, 7] → answers (.spareTake req) 0x44 req s (u 0x44) stWrongState []) ∧
      (∀ i, zr p 2 6 = true → phase s = 0 → s.mcc.spare = none → devState s = 7 → sealedAs s (fld p 0 2) = some i → ∃ v,
        answers (.spareTake req) 0x44 req s v stAccepted [] ∧ v.mcc.spare = some ⟨0, true, fld p 8 8⟩ ∧ 0x44 ∈ v.mcc.work ∧ devState v = 3 ∧
          v.boot.fromSleep = true ∧ getB v F.DEV_STATE_COLD 0 = false)) ∧
    (admitted s 0x45 req x → p = [] → ∃ v, answers (.drain req) 0x45 req s v 0 [] ∧ v.mer.remains = false ∧
      (phase s ∈ [0, 6, 7] → devState v = 8 ∧ v.clk.running = false) ∧ (phase s ∉ [0, 6, 7] → v.sys = s.sys ∧ v.clk = s.clk)) ∧
    (admitted s 0x46 req x → p.length = 1 →
      (1 < fld p 0 1 → answers (.power req) 0x46 req s (u 0x46) stBadParam []) ∧
      (fld p 0 1 ≤ 1 → phase s ≠ 0 → answers (.power req) 0x46 req s (u 0x46) stJobActive []) ∧
      (fld p 0 1 ≤ 1 → phase s = 0 → (getF s F.IMG_STATUS_STATE 0 = 4 ∨ devState s = 2) → devState s ∉ [3, 5] →
        answers (.power req) 0x46 req s (u 0x46) stWrongState []) ∧
      (fld p 0 1 ≤ 1 → phase s = 0 → devState s ∈ [3, 5] → answers (.power req) 0x46 req s (u 0x46) 
        (if s.boot.fromSleep = true ∨ (devState s = 5 ∧ fld p 0 1 = 1) then stBusy else stWrongState) []) ∧
      (phase s = 0 → getF s F.IMG_STATUS_STATE 0 ≠ 4 → fld p 0 1 = 1 → devState s ∈ [4, 6] → ∃ v, answers (.power req) 0x46 req s v stAccepted [] ∧
        devState v = 7 ∧ v.clk.running = false ∧ getB v F.DEV_STATE_READY 0 = false ∧ v.act.image = s.act.image) ∧
      (phase s = 0 → getF s F.IMG_STATUS_STATE 0 ≠ 4 → fld p 0 1 = 0 → devState s = 7 → ∃ v, answers (.power req) 0x46 req s v stAccepted [] ∧
        devState v = 3 ∧ v.boot.core = true ∧ v.boot.fromSleep = true) ∧
      (phase s = 0 → getF s F.IMG_STATUS_STATE 0 ≠ 4 → fld p 0 1 = 0 → devState s = 6 → ∃ v, answers (.power req) 0x46 req s v stAccepted [] ∧
        devState v = 4 ∧ getB v F.DEV_STATE_READY 0 = false ∧ (∀ e ∈ v.pwr.tiles, e.2.state = 0) ∧ v.store = s.store)) ∧
    (admitted s 0x47 req x → p.length = 1 → (15 < fld p 0 1 → answers (.pause req) 0x47 req s (u 0x47) stBadParam []) ∧
      (fld p 0 1 ≤ 15 → ∃ v, answers (.pause req) 0x47 req s v 0 [] ∧ getF v F.PAUSE_STATUS_FW_REQ 0 = fld p 0 1 ∧
        getF v F.PAUSE_STATUS_DUTY 0 = getF s F.PAUSE_STATUS_DUTY 0 ∧ v.eph = s.eph)) ∧
    (admitted s 0x60 req x → p.length = 16 → fld p 12 4 ≤ 8192 →
      ((slotOf s n).state = 2 → (slotOf s n).step = n →
        (4096 * getF s F.RES_PAGES_PAGES 0 < fld p 8 4 + fld p 12 4 → answers (.resultRead req) 0x60 req s (u 0x60) stBadParam []) ∧
        (fld p 8 4 + fld p 12 4 ≤ 4096 * getF s F.RES_PAGES_PAGES 0 → ∃ v r,
          answers (.resultRead req) 0x60 req s v 0 (slotHeader s (slotOf s n) ++ r.2.1) ∧
          r = engineGet (u 0x60) (4096 * (getF s F.RES_STORE_PAGE 0 + n % 256 * getF s F.RES_PAGES_PAGES 0) + fld p 8 4) (fld p 12 4) ∧
          (r.2.2.any id = false → v = r.1) ∧ (r.2.2.any id = true → v = poisonLeaves r.1 255 0))) ∧
      ((slotOf s n).state = 1 → (slotOf s n).step = n → answers (.resultRead req) 0x60 req s (u 0x60) stPending []) ∧
      ((slotOf s n).step ≠ n → answers (.resultRead req) 0x60 req s (u 0x60) (if stepNow s ≤ n then stNotYet else stResultGone) [])) ∧
    (admitted s 0x60 req x → p.length = 16 → 8192 < fld p 12 4 → answers (.resultRead req) 0x60 req s (u 0x60) stBadParam []) ∧
    (admitted s 0x62 req x → p = [] → ∃ b, answers (.slotsList req) 0x62 req s (u 0x62) 0 b ∧
      b = (List.range 256).flatMap (fun k => slotEntry (mget s.mcc.slots k {})) ∧ b.length = 4096)

/-- R34, R178 to R181, R261, R263, R264, R429, R430, R437, R512, R518, R547, R569: registers, events and the logbook are read; debug commands need no key of the host; resets,
shutters, reopenings, lamps and locate act on the unit that is named, and a unit that is not there is BAD_PARAM. -/
def Obligations.ServiceCommands : Prop :=
  ∀ (req : MccReq) (x : Session) (s : State),
    let p := req.payload
    let u (op : Nat) : State := taken s op req
    let t := fld p 0 2
    let g := fld p 2 1
    let b := fld p 0 1
    let i := fld p 1 2
    (admitted s 0x68 req x → p.length % 8 = 0 → p.length ≤ 2048 →
      regsAnswered (.regRead req) 0x68 req s (u 0x68) ((List.range (p.length / 8)).map (fun i => fld p (8 * i) 8))) ∧
    (admitted s 0x68 req x → (p.length % 8 ≠ 0 ∨ 2048 < p.length) → answers (.regRead req) 0x68 req s (u 0x68) stBadLength []) ∧
    (admitted s 0x69 req x → p = [] → regsAnswered (.eventsRead req) 0x69 req s (u 0x69) eventRegs ∧ eventRegs.length = 262) ∧
    (admitted s 0x80 req x → p.length = 12 →
      (getB s F.LOG_STATUS_PRESENT 0 = false → answers (.logRead req) 0x80 req s (u 0x80) stInternal []) ∧
      (getB s F.LOG_STATUS_PRESENT 0 = true → fld p 0 8 + fld p 8 4 ≤ 65536 * s.log.size → fld p 8 4 ≤ 143360 →
        answers (.logRead req) 0x80 req s (u 0x80) 0 (flashBytes s (fld p 0 8) (fld p 8 4))) ∧
      (getB s F.LOG_STATUS_PRESENT 0 = true → 65536 * s.log.size < fld p 0 8 + fld p 8 4 → answers (.logRead req) 0x80 req s (u 0x80) stBadParam [])) ∧
    (admitted s 0x83 req x → p.length = 8 → s.log.changes = [] → s.log.lost = 0 → answers (.changeRead req) 0x83 req s (u 0x83) 0
      (fitRecs 143360 ((journal s).filter (fun r => r.type == tChange && decide (fld p 0 8 ≤ r.seq))))) ∧
    (∀ r ∈ ([(.dbgHalt, 0xA0), (.dbgStep, 0xA1), (.dbgResume, 0xA2)] : List ((MccReq → Instr) × Nat)), admitted s r.2 req x → p.length = 3 →
      (512 ≤ t ∨ 32 ≤ g → answers (r.1 req) r.2 req s (u r.2) stBadParam []) ∧
      (t < 512 → g < 32 → getGroup s t g = none → answers (r.1 req) r.2 req s (u r.2) 0 [])) ∧
    (∀ q, admitted s 0xA0 req x → p.length = 3 → t < 512 → g < 32 → getGroup s t g = some q → haltedAt s = none → ∃ v,
      answers (.dbgHalt req) 0xA0 req s v 0 [] ∧ getGroup v t g = some { q with halted := true } ∧ v.store = s.store) ∧
    (∀ q, admitted s 0xA2 req x → p.length = 3 → t < 512 → g < 32 → getGroup s t g = some q → q.halted = true → ∃ v,
      answers (.dbgResume req) 0xA2 req s v 0 [] ∧ getGroup v t g = some { q with halted := false } ∧ v.store = s.store) ∧
    (∀ q j, admitted s 0xA1 req x → p.length = 3 → t < 512 → g < 32 → getGroup s t g = some q → q.halted = true → q.wait = .none →
      s.eph.debugHalt = true → decodeLane t g (fetchLane (u 0xA1) t q.pc) = some j → instrHold j (u 0xA1) q = none → ∃ v,
        answers (.dbgStep req) 0xA1 req s v 0 [] ∧ v.store = (laneBody j (incF (u 0xA1) F.LANE_ISSUE_COUNT t 1) q).store) ∧
    (admitted s 0xA3 req x → p.length = 6 → (512 ≤ t → answers (.dbgRead req) 0xA3 req s (u 0xA3) stBadParam []) ∧
      (t < 512 → let w := busWrite (u 0xA3) (dbgSelAddr t) (fld p 2 4) 3
        answers (.dbgRead req) 0xA3 req s w 0 (leBytes (dbgValue w t).1 4 ++ leBytes (dbgValue w t).2.toNat 4) ∧
          (haltedGroup w t = none → answers (.dbgRead req) 0xA3 req s w 0 (List.replicate 8 0)))) ∧
    (admitted s 0xA4 req x → p.length = 10 → (512 ≤ t → answers (.dbgWrite req) 0xA4 req s (u 0xA4) stBadParam []) ∧
      (t < 512 → let w := busWrite (u 0xA4) (dbgSelAddr t) (fld p 2 4) 3
        (haltedGroup w t = none → answers (.dbgWrite req) 0xA4 req s w 0 []) ∧
        ∃ v, answers (.dbgWrite req) 0xA4 req s v 0 [] ∧ v.store = w.store ∧ v.sys = w.sys)) ∧
    (admitted s 0xA6 req x → p.length = 16 → zr p 12 4 = true →
      (regAt (fld p 0 8) = none → answers (.regWrite req) 0xA6 req s (u 0xA6) stBadParam []) ∧
      (∀ r, regAt (fld p 0 8) = some r → ∃ v, answers (.regWrite req) 0xA6 req s v 0 [] ∧
        v = busWrite (u 0xA6) (fld p 0 8) (if frozen s then fld p 8 4 else keepRws s r (fld p 8 4)) 3)) ∧
    (admitted s 0xC0 req x → p.length = 1 → (4 ≤ b → answers (.partitionReset req) 0xC0 req s (u 0xC0) stBadParam []) ∧
      (b < 4 → partitionDown s b = true → answers (.partitionReset req) 0xC0 req s (u 0xC0) stBusy []) ∧
      (b < 4 → partitionDown s b = false → phase s = 0 → ∃ v, answers (.partitionReset req) 0xC0 req s v stAccepted [] ∧ partitionDown v b = true ∧
        getF v F.TWR_STATUS_LAYER_RST b = 255)) ∧
    (admitted s 0xC1 req x → p.length = 2 → (4 ≤ b ∨ 8 ≤ fld p 1 1 → answers (.layerReset req) 0xC1 req s (u 0xC1) stBadParam []) ∧
      (b < 4 → fld p 1 1 < 8 → inReset s b (fld p 1 1) = true → answers (.layerReset req) 0xC1 req s (u 0xC1) stBusy []) ∧
      (b < 4 → fld p 1 1 < 8 → inReset s b (fld p 1 1) = false → phase s = 0 → ∃ v, answers (.layerReset req) 0xC1 req s v stAccepted [] ∧
        inReset v b (fld p 1 1) = true)) ∧
    (admitted s 0xC2 req x → p.length = 3 → (kindUnits b ≤ i → answers (.shutter req) 0xC2 req s (u 0xC2) stBadParam []) ∧
      (b = 0 → i < 512 → ∃ v, answers (.shutter req) 0xC2 req s v stAccepted [] ∧ getB v F.FLT_SHUT_TILE (physOf s i) = true) ∧
      (b = 1 → i < 192 → ∃ v, answers (.shutter req) 0xC2 req s v stAccepted [] ∧ getB v F.SLC_STATUS_SHUTTERED i = true) ∧
      (b = 3 → i < 192 → getB s F.FLT_SHUT_PORT i = false → ∃ v, answers (.shutter req) 0xC2 req s v stAccepted [] ∧
        (phase s ∈ [0, 6] → getF v F.PRT_STATUS_STATE i = 5) ∧ (phase s ∉ [0, 6] → (getPort v i).shutterDue = true ∧ v.sys = s.sys))) ∧
    (admitted s 0xC3 req x → p.length = 3 → (b < 2 ∨ kindUnits b ≤ i → answers (.reopen req) 0xC3 req s (u 0xC3) stBadParam []) ∧
      (b = 3 → i < 192 → getB s F.FLT_SHUT_PORT i = true → ∃ v, answers (.reopen req) 0xC3 req s v 0 [] ∧ getB v F.FLT_SHUT_PORT i = false ∧
        getF v F.PRT_STATUS_STATE i = if getB s F.PRT_CFG_ENABLE i then 1 else 0)) ∧
    (admitted s 0xC4 req x → p.length = 53 → (192 ≤ b → answers (.lamp req) 0xC4 req s (u 0xC4) stBadParam []) ∧
      (b < 192 → (getChan s b).lamp = none → ∃ v st, answers (.lamp req) 0xC4 req s v st [] ∧ (lampSettings (writeLampRegs (u 0xC4) b p) b = true → st = stAccepted) ∧
        (lampSettings (writeLampRegs (u 0xC4) b p) b = false → st = stBadParam))) ∧
    (admitted s 0xC5 req x → p.length = 1 → (192 ≤ b → answers (.lampResult req) 0xC5 req s (u 0xC5) stBadParam []) ∧
      (b < 192 → regsAnswered (.lampResult req) 0xC5 req s (u 0xC5) (regRun (regBase + 0x2000000 + 0x10000 * b + 0x118) 8))) ∧
    (admitted s 0xC6 req x → p.length = 1 → (1 < b → answers (.locate req) 0xC6 req s (u 0xC6) stBadParam []) ∧
      (b ≤ 1 → ∃ v, answers (.locate req) 0xC6 req s v 0 [] ∧ getF v F.LED_CTL_LOCATE 0 = b ∧ { v with sys := s.sys } = u 0xC6))

/-! ## The whole block -/

/-- A step with a command at the front of the queue is that command's effect with the rest of the queue. -/
def Obligations.StepFront : Prop :=
  ∀ (c : Instr) (l : List Instr) (s : State), s.pending = c :: l → step s = exec c { s with pending := l }

namespace Sys2Proof.Claims

/-- The state after one more dome cycle of time, the sidereal ticks of congestion counted. -/
def aged (s : State) : State :=
  let c := countCongestion s ((s.clk.mono + domeUnits s) / 2170 - s.clk.mono / 2170)
  { c with clk := { c.clk with mono := c.clk.mono + domeUnits s, dev := c.clk.dev + domeUnits s } }

/-- No shutter is due, no spine segment has too many bad bursts, and no read waits for the finder. -/
def unhurried (s : State) : Prop :=
  s.store.repeatDue = [] ∧ checkSegments (aged s) = aged s ∧ ∀ x ∈ s.eph.xfers, x.unread = false

end Sys2Proof.Claims

/-- The model's choice (assumption 1): with no command waiting a step passes one dome cycle of time. Where no shutter, spine segment or held read acts in it, held
cycles, lane cycles, the segment's cycles and stalled cycles count as R127, R130, R133 and R152 give, and nothing stored changes. -/
def Obligations.EmptyQueueTicks : Prop :=
  ∀ (s : State), s.pending = [] → ∃ t, step s = .next t ∧ (unhurried s → t.pending = [] ∧ t.store = s.store ∧ t.mer = s.mer ∧ t.net = s.net ∧
    t.clk.mono = s.clk.mono + domeUnits s ∧ t.clk.dev = s.clk.dev + domeUnits s ∧
    (s.clk.running = false → t.clk.cyc = s.clk.cyc ∧ t.eph = s.eph ∧ t.lane = s.lane) ∧
    (s.clk.running = true → t.clk.cyc = s.clk.cyc + 1 ∧
      (paused s = true → t.clk.held = s.clk.held + 1 ∧ t.clk.laneCyc = s.clk.laneCyc ∧ segCycle t = segCycle s) ∧
      (paused s = false → t.clk.held = s.clk.held ∧ t.clk.laneCyc = s.clk.laneCyc + 1) ∧
      (paused s = false → stalled s = false → s.eph.inSegment = true → segCycle t = (segCycle s + 1) % 2 ^ 32 ∧ t.clk.stalled = s.clk.stalled) ∧
      (paused s = false → stalled s = true → t.clk.stalled = s.clk.stalled + 1 ∧ segCycle t = segCycle s ∧
        getF t F.STALL_CYCLES_COUNT 0 = (getF s F.STALL_CYCLES_COUNT 0 + 1) % 2 ^ 64)))

/-- After reset the registers hold the values of the Reset columns, no command waits, no event is recorded and nothing is stored; the tables are in their one form. -/
def Obligations.ResetState : Prop :=
  Tidy [] State.reset ∧ State.reset.flt.hist = [] ∧ State.reset.store.mem = [] ∧ phase State.reset = 0 ∧
  ∀ (u : Nat), ∀ p ∈ [(F.GLB_PART_PART, 0x432), (F.GLB_STEPPING_STEPPING, 0xB0), (F.GLB_MODES_BENCH, 0), (F.ARR_CFG_FAULT_LIMIT, 4),
    (F.STALL_LIMIT_LIMIT, 0x1388), (F.LANE_CFG_BAR_LOG2, 0x16), (F.SLC_CFG_PIN_CAP, 4), (F.SLC_CFG_THRASH_LIMIT, 0xC0),
    (F.SLC_CFG_STREAK_WINDOW, 0x20), (F.BND_CTL_LREF, 0x190), (F.SCRUB_CFG_THRESH, 2), (F.SCRUB_CFG_SRAM_PERIOD, 0x3C),
    (F.SCRUB_CFG_DRAM_PERIOD, 0x18), (F.SCRUB_CFG_ENABLE, 1), (F.MER_POLICY_LATE, 0), (F.MER_POLICY_NONFINITE, 2), (F.MER_POLICY_POISON, 3),
    (F.MER_POLICY_SHUTTER, 3), (F.MER_POLICY_FAULT, 3), (F.MER_POLICY_DAMAGE, 4), (F.MER_POLICY_DEPART, 5), (F.MER_POLICY_REPLAY_LIMIT, 3),
    (F.MER_LSCFG_LS_GROWTH, 0x7D0), (F.MER_TIMEOUT_VOTE_TIMEOUT, 0x3E8), (F.MER_TIMEOUT_VOTE_RESEND, 0x14), (F.MER_CKPT_STEP, 2 ^ 64 - 1),
    (F.THM_CFG_THR_DOME, 0x5F), (F.THM_CFG_THR_LOGIC, 0x5A), (F.THM_CFG_THR_SRAM, 0x55), (F.DEV_STATE_STATE, 2), (F.DEV_STATE_READY, 0)],
    getF State.reset p.1 u = p.2

/-- Every step keeps the one form of the state's tables: the bytes of memory, their side bits, page codes and marks strictly rising with no entry that an absent one
would equal, the register fields strictly rising, at most 64 events in the history ring (R512); and a command takes itself alone from the queue. -/
def Obligations.StepKeepsTidy : Prop :=
  ∀ (s t : State), Tidy s.pending s → step s = .next t → Tidy s.pending.tail t
end

