-- ==== Sys2Proof/Laws/Map.lean ====
section
/-!
SUPPORT. The laws of the sparse tables: a read after a write, and the canonical form that every write keeps.
-/
namespace Sys2Proof.Machine

section
variable {κ α : Type} [DecidableEq κ]

@[simp] theorem mget_nil (k : κ) (d : α) : mget ([] : List (κ × α)) k d = d := rfl

theorem mget_merase_same (m : List (κ × α)) (k : κ) (d : α) : mget (merase m k) k d = d := by
  induction m with
  | nil => rfl
  | cons e r ih =>
    simp only [merase, ne_eq, decide_not] at ih ⊢
    by_cases h : e.1 = k <;> simp [h, mget, ih]

theorem mget_merase_other (m : List (κ × α)) {k j : κ} (h : j ≠ k) (d : α) : mget (merase m k) j d = mget m j d := by
  induction m with
  | nil => rfl
  | cons e r ih =>
    simp only [merase, ne_eq, decide_not] at ih ⊢
    by_cases hk : e.1 = k
    · have : e.1 ≠ j := fun x => h (x.symm.trans hk)
      simp [hk, mget, ih, Ne.symm h]
    · by_cases hj : e.1 = j <;> simp [hk, hj, mget, ih, h]

theorem mget_minsert_same (lt : κ → κ → Bool) (m : List (κ × α)) (k : κ) (v d : α) (h : ∀ e ∈ m, e.1 ≠ k) :
    mget (minsert lt m k v) k d = v := by
  induction m with
  | nil => simp [minsert, mget]
  | cons e r ih =>
    unfold minsert
    have he := h e (by simp)
    have hr := ih (fun x hx => h x (by simp [hx]))
    split <;> simp [mget, he, hr]

theorem mget_minsert_other (lt : κ → κ → Bool) (m : List (κ × α)) {k j : κ} (hj : j ≠ k) (v d : α) :
    mget (minsert lt m k v) j d = mget m j d := by
  induction m with
  | nil => simp [minsert, mget, Ne.symm hj]
  | cons e r ih =>
    unfold minsert
    split <;> simp [mget, ih, Ne.symm hj]

theorem merase_minsert (lt : κ → κ → Bool) (m : List (κ × α)) (k : κ) (v : α) : merase (minsert lt m k v) k = merase m k := by
  unfold merase
  induction m with
  | nil => simp [minsert]
  | cons e r ih =>
    unfold minsert
    split
    · simp
    · simp only [List.filter_cons]; rw [ih]

theorem merase_merase (m : List (κ × α)) (k : κ) : merase (merase m k) k = merase m k := by
  unfold merase; simp [List.filter_filter]

variable [DecidableEq α]

/-- A key just written holds the value written. -/
@[simp] theorem mget_mput_same (lt : κ → κ → Bool) (m : List (κ × α)) (k : κ) (v d : α) :
    mget (mput lt m k v d) k d = v := by
  unfold mput
  split
  · rename_i h
    rw [mget_merase_same, h]
  · apply mget_minsert_same
    intro e he
    simpa using (List.mem_filter.mp he).2

/-- A write leaves every other key alone. -/
theorem mget_mput_other (lt : κ → κ → Bool) (m : List (κ × α)) {k j : κ} (h : j ≠ k) (v d c : α) :
    mget (mput lt m k v d) j c = mget m j c := by
  unfold mput
  split
  · exact mget_merase_other m h c
  · rw [mget_minsert_other lt _ h, mget_merase_other m h]

/-- A read of a table after one write. -/
theorem mget_mput (lt : κ → κ → Bool) (m : List (κ × α)) (k j : κ) (v d : α) :
    mget (mput lt m k v d) j d = if j = k then v else mget m j d := by
  split
  · subst j; simp
  · exact mget_mput_other lt m ‹_› v d d

/-- Of two writes of one key the second stays. -/
@[simp] theorem mput_mput_same (lt : κ → κ → Bool) (m : List (κ × α)) (k : κ) (v w d : α) :
    mput lt (mput lt m k v d) k w d = mput lt m k w d := by
  have h : merase (mput lt m k v d) k = merase m k := by
    unfold mput
    split
    · exact merase_merase m k
    · rw [merase_minsert, merase_merase]
  unfold mput at h ⊢
  rw [h]

end

/-! ## Strictly rising keys -/

/-- The orders of the tables are strict and total. -/
structure Orders {κ : Type} (lt : κ → κ → Bool) : Prop where
  trans : ∀ a b c, lt a b = true → lt b c = true → lt a c = true
  total : ∀ a b, a ≠ b → lt a b = false → lt b a = true

theorem natLt_orders : Orders natLt where
  trans a b c := by simp only [natLt, decide_eq_true_eq]; omega
  total a b := by simp only [natLt, decide_eq_true_eq, decide_eq_false_iff_not]; omega

theorem pairLt_orders : Orders pairLt where
  trans a b c := by
    simp only [pairLt, Bool.or_eq_true, Bool.and_eq_true, decide_eq_true_eq]; omega
  total a b := by
    obtain ⟨a1, a2⟩ := a; obtain ⟨b1, b2⟩ := b
    simp only [pairLt, Bool.or_eq_true, Bool.and_eq_true, decide_eq_true_eq, Bool.or_eq_false_iff, Bool.and_eq_false_iff,
      decide_eq_false_iff_not, ne_eq, Prod.mk.injEq]
    omega

section
variable {κ α : Type}

theorem ascending_filter {lt : κ → κ → Bool} {m : List (κ × α)} (p : κ × α → Bool) (h : Ascending lt m) :
    Ascending lt (m.filter p) := List.Pairwise.filter p h

theorem mem_minsert {lt : κ → κ → Bool} {m : List (κ × α)} {k : κ} {v : α} {e : κ × α} (h : e ∈ minsert lt m k v) :
    e = (k, v) ∨ e ∈ m := by
  induction m with
  | nil => simpa [minsert] using h
  | cons f r ih =>
    unfold minsert at h
    split at h
    · simpa using h
    · rcases List.mem_cons.mp h with rfl | h
      · simp
      · rcases ih h with h | h <;> simp [h]

theorem ascending_minsert {lt : κ → κ → Bool} (o : Orders lt) {m : List (κ × α)} {k : κ} (v : α)
    (hk : ∀ e ∈ m, e.1 ≠ k) (h : Ascending lt m) : Ascending lt (minsert lt m k v) := by
  unfold Ascending at *
  induction m with
  | nil => simp [minsert]
  | cons e r ih =>
    rw [List.pairwise_cons] at h
    unfold minsert
    split
    · rename_i hlt
      refine List.pairwise_cons.mpr ⟨?_, List.pairwise_cons.mpr h⟩
      intro f hf
      rcases List.mem_cons.mp hf with rfl | hf
      · exact hlt
      · exact o.trans _ _ _ hlt (h.1 f hf)
    · rename_i hlt
      refine List.pairwise_cons.mpr ⟨?_, ih (fun x hx => hk x (by simp [hx])) h.2⟩
      intro f hf
      rcases mem_minsert hf with rfl | hf
      · exact o.total _ _ (Ne.symm (hk e (by simp))) (by simpa using hlt)
      · exact h.1 f hf

variable [DecidableEq κ] [DecidableEq α]

theorem ascending_mput {lt : κ → κ → Bool} (o : Orders lt) {m : List (κ × α)} (k : κ) (v d : α) (h : Ascending lt m) :
    Ascending lt (mput lt m k v d) := by
  unfold mput
  split
  · exact ascending_filter _ h
  · refine ascending_minsert o v ?_ (ascending_filter _ h)
    intro e he
    simpa using (List.mem_filter.mp he).2

omit [DecidableEq κ] in
/-- The canonical form: strictly rising keys and no default listed. -/
theorem mwf_iff {lt : κ → κ → Bool} (o : Orders lt) (m : List (κ × α)) (d : α) :
    mwf lt m d = true ↔ Ascending lt m ∧ ∀ e ∈ m, e.2 ≠ d := by
  unfold Ascending
  induction m with
  | nil => simp [mwf]
  | cons e r ih =>
    cases r with
    | nil => simp [mwf]
    | cons f r =>
      unfold mwf
      rw [Bool.and_eq_true, Bool.and_eq_true, ih, List.pairwise_cons (a := e)]
      simp only [decide_eq_true_eq, List.mem_cons, forall_eq_or_imp]
      constructor
      · rintro ⟨⟨h1, h2⟩, h3, h4⟩
        refine ⟨⟨⟨h2, ?_⟩, h3⟩, h1, h4⟩
        intro x hx
        exact o.trans _ _ _ h2 ((List.pairwise_cons.mp h3).1 x hx)
      · rintro ⟨⟨⟨h2, _⟩, h3⟩, h1, h4⟩
        exact ⟨⟨h1, h2⟩, h3, h4⟩

/-- A write keeps the canonical form. -/
theorem mwf_mput {lt : κ → κ → Bool} (o : Orders lt) {m : List (κ × α)} (k : κ) (v d : α) (h : mwf lt m d = true) :
    mwf lt (mput lt m k v d) d = true := by
  rw [mwf_iff o] at *
  refine ⟨ascending_mput o k v d h.1, ?_⟩
  unfold mput
  split
  · exact fun e he => h.2 e (List.mem_filter.mp he).1
  · rename_i hv
    intro e he
    rcases mem_minsert he with rfl | he
    · exact hv
    · exact h.2 e (List.mem_filter.mp he).1

omit [DecidableEq κ] in
/-- Leaving entries out keeps the canonical form. -/
theorem mwf_filter {lt : κ → κ → Bool} (o : Orders lt) {m : List (κ × α)} (p : κ × α → Bool) {d : α}
    (h : mwf lt m d = true) : mwf lt (m.filter p) d = true := by
  rw [mwf_iff o] at *
  exact ⟨ascending_filter p h.1, fun e he => h.2 e (List.mem_filter.mp he).1⟩

end

/-! ## Bytes of memory -/

@[simp] theorem memGet_memPut_same (m : List Host.Cell) (a : Nat) (v : Byte) : memGet (memPut m a v) a = v := by
  simp [memGet, memPut]

theorem memGet_memPut_other (m : List Host.Cell) {a b : Nat} (h : b ≠ a) (v : Byte) :
    memGet (memPut m a v) b = memGet m b := mget_mput_other _ _ h _ _ _

theorem memPut_wf {m : List Host.Cell} (a : Nat) (v : Byte) (h : Memory.wf m = true) : Memory.wf (memPut m a v) = true :=
  mwf_mput natLt_orders a v _ h

/-- A write of bytes leaves every byte outside them alone. -/
theorem memGet_memWrite_other (m : List Host.Cell) (a b : Nat) (bs : List Byte) (h : b < a ∨ a + bs.length ≤ b) :
    memGet (memWrite m a bs) b = memGet m b := by
  induction bs generalizing m a with
  | nil => rfl
  | cons x r ih =>
    rw [memWrite, ih _ _ (by simp at h; omega), memGet_memPut_other _ (by simp at h; omega)]

/-- Bytes read where bytes were just written. -/
theorem memGet_memWrite_same (m : List Host.Cell) (a i : Nat) (bs : List Byte) (h : i < bs.length) :
    memGet (memWrite m a bs) (a + i) = bs[i] := by
  induction bs generalizing m a i with
  | nil => simp at h
  | cons x r ih =>
    cases i with
    | zero => rw [memWrite, memGet_memWrite_other _ _ _ _ (by omega)]; simp
    | succ i =>
      have := ih (memPut m a x) (a + 1) i (by simpa using h)
      rw [memWrite, show a + (i + 1) = a + 1 + i by omega, this]; simp

theorem memWrite_wf {m : List Host.Cell} (a : Nat) (bs : List Byte) (h : Memory.wf m = true) :
    Memory.wf (memWrite m a bs) = true := by
  induction bs generalizing m a with
  | nil => exact h
  | cons x r ih => exact ih _ (memPut_wf a x h)

theorem memWriteMask_wf {m : List Host.Cell} (a : Nat) (bs : List (Byte × Bool)) (h : Memory.wf m = true) :
    Memory.wf (memWriteMask m a bs) = true := by
  induction bs generalizing m a with
  | nil => exact h
  | cons x r ih =>
    obtain ⟨b, k⟩ := x
    unfold memWriteMask
    split
    · exact ih _ (memPut_wf a b h)
    · exact ih _ h

theorem memFilter_wf {m : List Host.Cell} (p : Host.Cell → Bool) (h : Memory.wf m = true) : Memory.wf (m.filter p) = true :=
  mwf_filter natLt_orders p h

end Sys2Proof.Machine
end

