-- ==== Sys2Proof/Laws/State.lean ====
section
/-!
SUPPORT. The named updates of the state: of each, that every part of the state it does not write stays, and that what it
wrote is read back. True by the form of the updates, so that a proof need not unfold one.
-/
namespace Sys2Proof.Machine

/-! ## The parts that an update leaves alone -/

section
variable (s : State) (f : Field) (u v : Nat)
@[simp] theorem setF_pending : (setF s f u v).pending = s.pending := rfl
@[simp] theorem setF_clk : (setF s f u v).clk = s.clk := rfl
@[simp] theorem setF_store : (setF s f u v).store = s.store := rfl
@[simp] theorem setF_tower : (setF s f u v).tower = s.tower := rfl
@[simp] theorem setF_arr : (setF s f u v).arr = s.arr := rfl
@[simp] theorem setF_eph : (setF s f u v).eph = s.eph := rfl
@[simp] theorem setF_lane : (setF s f u v).lane = s.lane := rfl
@[simp] theorem setF_deep : (setF s f u v).deep = s.deep := rfl
@[simp] theorem setF_flt : (setF s f u v).flt = s.flt := rfl
@[simp] theorem setF_mer : (setF s f u v).mer = s.mer := rfl
@[simp] theorem setF_act : (setF s f u v).act = s.act := rfl
@[simp] theorem setF_net : (setF s f u v).net = s.net := rfl
@[simp] theorem setF_mcc : (setF s f u v).mcc = s.mcc := rfl
@[simp] theorem setF_boot : (setF s f u v).boot = s.boot := rfl
@[simp] theorem setF_pwr : (setF s f u v).pwr = s.pwr := rfl
@[simp] theorem setF_thm : (setF s f u v).thm = s.thm := rfl
@[simp] theorem setF_log : (setF s f u v).log = s.log := rfl
@[simp] theorem setF_pin : (setF s f u v).pin = s.pin := rfl
end

section
variable (s : State) (f : Field) (u : Nat) (b : Bool)
@[simp] theorem setB_pending : (setB s f u b).pending = s.pending := rfl
@[simp] theorem setB_clk : (setB s f u b).clk = s.clk := rfl
@[simp] theorem setB_store : (setB s f u b).store = s.store := rfl
@[simp] theorem setB_tower : (setB s f u b).tower = s.tower := rfl
@[simp] theorem setB_arr : (setB s f u b).arr = s.arr := rfl
@[simp] theorem setB_eph : (setB s f u b).eph = s.eph := rfl
@[simp] theorem setB_lane : (setB s f u b).lane = s.lane := rfl
@[simp] theorem setB_deep : (setB s f u b).deep = s.deep := rfl
@[simp] theorem setB_flt : (setB s f u b).flt = s.flt := rfl
@[simp] theorem setB_mer : (setB s f u b).mer = s.mer := rfl
@[simp] theorem setB_act : (setB s f u b).act = s.act := rfl
@[simp] theorem setB_net : (setB s f u b).net = s.net := rfl
@[simp] theorem setB_mcc : (setB s f u b).mcc = s.mcc := rfl
@[simp] theorem setB_boot : (setB s f u b).boot = s.boot := rfl
@[simp] theorem setB_pwr : (setB s f u b).pwr = s.pwr := rfl
@[simp] theorem setB_thm : (setB s f u b).thm = s.thm := rfl
@[simp] theorem setB_log : (setB s f u b).log = s.log := rfl
@[simp] theorem setB_pin : (setB s f u b).pin = s.pin := rfl
end

section
variable (s : State) (f : Field) (u n : Nat)
@[simp] theorem incF_pending : (incF s f u n).pending = s.pending := rfl
@[simp] theorem incF_clk : (incF s f u n).clk = s.clk := rfl
@[simp] theorem incF_store : (incF s f u n).store = s.store := rfl
@[simp] theorem incF_tower : (incF s f u n).tower = s.tower := rfl
@[simp] theorem incF_arr : (incF s f u n).arr = s.arr := rfl
@[simp] theorem incF_eph : (incF s f u n).eph = s.eph := rfl
@[simp] theorem incF_lane : (incF s f u n).lane = s.lane := rfl
@[simp] theorem incF_deep : (incF s f u n).deep = s.deep := rfl
@[simp] theorem incF_flt : (incF s f u n).flt = s.flt := rfl
@[simp] theorem incF_mer : (incF s f u n).mer = s.mer := rfl
@[simp] theorem incF_act : (incF s f u n).act = s.act := rfl
@[simp] theorem incF_net : (incF s f u n).net = s.net := rfl
@[simp] theorem incF_mcc : (incF s f u n).mcc = s.mcc := rfl
@[simp] theorem incF_boot : (incF s f u n).boot = s.boot := rfl
@[simp] theorem incF_pwr : (incF s f u n).pwr = s.pwr := rfl
@[simp] theorem incF_thm : (incF s f u n).thm = s.thm := rfl
@[simp] theorem incF_log : (incF s f u n).log = s.log := rfl
@[simp] theorem incF_pin : (incF s f u n).pin = s.pin := rfl
end

section
variable (s : State) (f : Field)
@[simp] theorem clearField_pending : (clearField s f).pending = s.pending := rfl
@[simp] theorem clearField_clk : (clearField s f).clk = s.clk := rfl
@[simp] theorem clearField_store : (clearField s f).store = s.store := rfl
@[simp] theorem clearField_tower : (clearField s f).tower = s.tower := rfl
@[simp] theorem clearField_arr : (clearField s f).arr = s.arr := rfl
@[simp] theorem clearField_eph : (clearField s f).eph = s.eph := rfl
@[simp] theorem clearField_lane : (clearField s f).lane = s.lane := rfl
@[simp] theorem clearField_deep : (clearField s f).deep = s.deep := rfl
@[simp] theorem clearField_flt : (clearField s f).flt = s.flt := rfl
@[simp] theorem clearField_mer : (clearField s f).mer = s.mer := rfl
@[simp] theorem clearField_act : (clearField s f).act = s.act := rfl
@[simp] theorem clearField_net : (clearField s f).net = s.net := rfl
@[simp] theorem clearField_mcc : (clearField s f).mcc = s.mcc := rfl
@[simp] theorem clearField_boot : (clearField s f).boot = s.boot := rfl
@[simp] theorem clearField_pwr : (clearField s f).pwr = s.pwr := rfl
@[simp] theorem clearField_thm : (clearField s f).thm = s.thm := rfl
@[simp] theorem clearField_log : (clearField s f).log = s.log := rfl
@[simp] theorem clearField_pin : (clearField s f).pin = s.pin := rfl
end

section
variable (s : State)
@[simp] theorem takeFree_pending : (takeFree s).pending = s.pending := rfl
@[simp] theorem takeFree_clk : (takeFree s).clk = s.clk := rfl
@[simp] theorem takeFree_store : (takeFree s).store = s.store := rfl
@[simp] theorem takeFree_tower : (takeFree s).tower = s.tower := rfl
@[simp] theorem takeFree_arr : (takeFree s).arr = s.arr := rfl
@[simp] theorem takeFree_eph : (takeFree s).eph = s.eph := rfl
@[simp] theorem takeFree_lane : (takeFree s).lane = s.lane := rfl
@[simp] theorem takeFree_deep : (takeFree s).deep = s.deep := rfl
@[simp] theorem takeFree_flt : (takeFree s).flt = s.flt := rfl
@[simp] theorem takeFree_mer : (takeFree s).mer = s.mer := rfl
@[simp] theorem takeFree_act : (takeFree s).act = s.act := rfl
@[simp] theorem takeFree_net : (takeFree s).net = s.net := rfl
@[simp] theorem takeFree_mcc : (takeFree s).mcc = s.mcc := rfl
@[simp] theorem takeFree_boot : (takeFree s).boot = s.boot := rfl
@[simp] theorem takeFree_pwr : (takeFree s).pwr = s.pwr := rfl
@[simp] theorem takeFree_thm : (takeFree s).thm = s.thm := rfl
@[simp] theorem takeFree_log : (takeFree s).log = s.log := rfl
@[simp] theorem takeFree_pin : (takeFree s).pin = s.pin := rfl
end

section
variable (s : State)
@[simp] theorem clearIntact_pending : (clearIntact s).pending = s.pending := rfl
@[simp] theorem clearIntact_clk : (clearIntact s).clk = s.clk := rfl
@[simp] theorem clearIntact_sys : (clearIntact s).sys = s.sys := rfl
@[simp] theorem clearIntact_store : (clearIntact s).store = s.store := rfl
@[simp] theorem clearIntact_tower : (clearIntact s).tower = s.tower := rfl
@[simp] theorem clearIntact_arr : (clearIntact s).arr = s.arr := rfl
@[simp] theorem clearIntact_eph : (clearIntact s).eph = s.eph := rfl
@[simp] theorem clearIntact_lane : (clearIntact s).lane = s.lane := rfl
@[simp] theorem clearIntact_deep : (clearIntact s).deep = s.deep := rfl
@[simp] theorem clearIntact_flt : (clearIntact s).flt = s.flt := rfl
@[simp] theorem clearIntact_act : (clearIntact s).act = s.act := rfl
@[simp] theorem clearIntact_net : (clearIntact s).net = s.net := rfl
@[simp] theorem clearIntact_mcc : (clearIntact s).mcc = s.mcc := rfl
@[simp] theorem clearIntact_boot : (clearIntact s).boot = s.boot := rfl
@[simp] theorem clearIntact_pwr : (clearIntact s).pwr = s.pwr := rfl
@[simp] theorem clearIntact_thm : (clearIntact s).thm = s.thm := rfl
@[simp] theorem clearIntact_log : (clearIntact s).log = s.log := rfl
@[simp] theorem clearIntact_pin : (clearIntact s).pin = s.pin := rfl
end

section
variable (s : State)
@[simp] theorem clearRemains_pending : (clearRemains s).pending = s.pending := rfl
@[simp] theorem clearRemains_clk : (clearRemains s).clk = s.clk := rfl
@[simp] theorem clearRemains_sys : (clearRemains s).sys = s.sys := rfl
@[simp] theorem clearRemains_store : (clearRemains s).store = s.store := rfl
@[simp] theorem clearRemains_tower : (clearRemains s).tower = s.tower := rfl
@[simp] theorem clearRemains_arr : (clearRemains s).arr = s.arr := rfl
@[simp] theorem clearRemains_eph : (clearRemains s).eph = s.eph := rfl
@[simp] theorem clearRemains_lane : (clearRemains s).lane = s.lane := rfl
@[simp] theorem clearRemains_deep : (clearRemains s).deep = s.deep := rfl
@[simp] theorem clearRemains_flt : (clearRemains s).flt = s.flt := rfl
@[simp] theorem clearRemains_act : (clearRemains s).act = s.act := rfl
@[simp] theorem clearRemains_net : (clearRemains s).net = s.net := rfl
@[simp] theorem clearRemains_mcc : (clearRemains s).mcc = s.mcc := rfl
@[simp] theorem clearRemains_boot : (clearRemains s).boot = s.boot := rfl
@[simp] theorem clearRemains_pwr : (clearRemains s).pwr = s.pwr := rfl
@[simp] theorem clearRemains_thm : (clearRemains s).thm = s.thm := rfl
@[simp] theorem clearRemains_log : (clearRemains s).log = s.log := rfl
@[simp] theorem clearRemains_pin : (clearRemains s).pin = s.pin := rfl
end

section
variable (s : State) (t : Nat) (x : EphSt)
@[simp] theorem setEph_pending : (setEph s t x).pending = s.pending := rfl
@[simp] theorem setEph_clk : (setEph s t x).clk = s.clk := rfl
@[simp] theorem setEph_sys : (setEph s t x).sys = s.sys := rfl
@[simp] theorem setEph_store : (setEph s t x).store = s.store := rfl
@[simp] theorem setEph_tower : (setEph s t x).tower = s.tower := rfl
@[simp] theorem setEph_arr : (setEph s t x).arr = s.arr := rfl
@[simp] theorem setEph_lane : (setEph s t x).lane = s.lane := rfl
@[simp] theorem setEph_deep : (setEph s t x).deep = s.deep := rfl
@[simp] theorem setEph_flt : (setEph s t x).flt = s.flt := rfl
@[simp] theorem setEph_mer : (setEph s t x).mer = s.mer := rfl
@[simp] theorem setEph_act : (setEph s t x).act = s.act := rfl
@[simp] theorem setEph_net : (setEph s t x).net = s.net := rfl
@[simp] theorem setEph_mcc : (setEph s t x).mcc = s.mcc := rfl
@[simp] theorem setEph_boot : (setEph s t x).boot = s.boot := rfl
@[simp] theorem setEph_pwr : (setEph s t x).pwr = s.pwr := rfl
@[simp] theorem setEph_thm : (setEph s t x).thm = s.thm := rfl
@[simp] theorem setEph_log : (setEph s t x).log = s.log := rfl
@[simp] theorem setEph_pin : (setEph s t x).pin = s.pin := rfl
end

section
variable (s : State) (t : Nat) (x : ArrSt)
@[simp] theorem setArr_pending : (setArr s t x).pending = s.pending := rfl
@[simp] theorem setArr_clk : (setArr s t x).clk = s.clk := rfl
@[simp] theorem setArr_sys : (setArr s t x).sys = s.sys := rfl
@[simp] theorem setArr_store : (setArr s t x).store = s.store := rfl
@[simp] theorem setArr_tower : (setArr s t x).tower = s.tower := rfl
@[simp] theorem setArr_eph : (setArr s t x).eph = s.eph := rfl
@[simp] theorem setArr_lane : (setArr s t x).lane = s.lane := rfl
@[simp] theorem setArr_deep : (setArr s t x).deep = s.deep := rfl
@[simp] theorem setArr_flt : (setArr s t x).flt = s.flt := rfl
@[simp] theorem setArr_mer : (setArr s t x).mer = s.mer := rfl
@[simp] theorem setArr_act : (setArr s t x).act = s.act := rfl
@[simp] theorem setArr_net : (setArr s t x).net = s.net := rfl
@[simp] theorem setArr_mcc : (setArr s t x).mcc = s.mcc := rfl
@[simp] theorem setArr_boot : (setArr s t x).boot = s.boot := rfl
@[simp] theorem setArr_pwr : (setArr s t x).pwr = s.pwr := rfl
@[simp] theorem setArr_thm : (setArr s t x).thm = s.thm := rfl
@[simp] theorem setArr_log : (setArr s t x).log = s.log := rfl
@[simp] theorem setArr_pin : (setArr s t x).pin = s.pin := rfl
end

section
variable (s : State) (t : Nat) (x : LaneSt)
@[simp] theorem setLane_pending : (setLane s t x).pending = s.pending := rfl
@[simp] theorem setLane_clk : (setLane s t x).clk = s.clk := rfl
@[simp] theorem setLane_sys : (setLane s t x).sys = s.sys := rfl
@[simp] theorem setLane_store : (setLane s t x).store = s.store := rfl
@[simp] theorem setLane_tower : (setLane s t x).tower = s.tower := rfl
@[simp] theorem setLane_arr : (setLane s t x).arr = s.arr := rfl
@[simp] theorem setLane_eph : (setLane s t x).eph = s.eph := rfl
@[simp] theorem setLane_deep : (setLane s t x).deep = s.deep := rfl
@[simp] theorem setLane_flt : (setLane s t x).flt = s.flt := rfl
@[simp] theorem setLane_mer : (setLane s t x).mer = s.mer := rfl
@[simp] theorem setLane_act : (setLane s t x).act = s.act := rfl
@[simp] theorem setLane_net : (setLane s t x).net = s.net := rfl
@[simp] theorem setLane_mcc : (setLane s t x).mcc = s.mcc := rfl
@[simp] theorem setLane_boot : (setLane s t x).boot = s.boot := rfl
@[simp] theorem setLane_pwr : (setLane s t x).pwr = s.pwr := rfl
@[simp] theorem setLane_thm : (setLane s t x).thm = s.thm := rfl
@[simp] theorem setLane_log : (setLane s t x).log = s.log := rfl
@[simp] theorem setLane_pin : (setLane s t x).pin = s.pin := rfl
end

section
variable (s : State) (t i : Nat) (x : Option Group)
@[simp] theorem putGroup_pending : (putGroup s t i x).pending = s.pending := rfl
@[simp] theorem putGroup_clk : (putGroup s t i x).clk = s.clk := rfl
@[simp] theorem putGroup_sys : (putGroup s t i x).sys = s.sys := rfl
@[simp] theorem putGroup_store : (putGroup s t i x).store = s.store := rfl
@[simp] theorem putGroup_tower : (putGroup s t i x).tower = s.tower := rfl
@[simp] theorem putGroup_arr : (putGroup s t i x).arr = s.arr := rfl
@[simp] theorem putGroup_eph : (putGroup s t i x).eph = s.eph := rfl
@[simp] theorem putGroup_deep : (putGroup s t i x).deep = s.deep := rfl
@[simp] theorem putGroup_flt : (putGroup s t i x).flt = s.flt := rfl
@[simp] theorem putGroup_mer : (putGroup s t i x).mer = s.mer := rfl
@[simp] theorem putGroup_act : (putGroup s t i x).act = s.act := rfl
@[simp] theorem putGroup_net : (putGroup s t i x).net = s.net := rfl
@[simp] theorem putGroup_mcc : (putGroup s t i x).mcc = s.mcc := rfl
@[simp] theorem putGroup_boot : (putGroup s t i x).boot = s.boot := rfl
@[simp] theorem putGroup_pwr : (putGroup s t i x).pwr = s.pwr := rfl
@[simp] theorem putGroup_thm : (putGroup s t i x).thm = s.thm := rfl
@[simp] theorem putGroup_log : (putGroup s t i x).log = s.log := rfl
@[simp] theorem putGroup_pin : (putGroup s t i x).pin = s.pin := rfl
end

section
variable (s : State) (t : Nat) (x : Task)
@[simp] theorem putTask_pending : (putTask s t x).pending = s.pending := rfl
@[simp] theorem putTask_clk : (putTask s t x).clk = s.clk := rfl
@[simp] theorem putTask_sys : (putTask s t x).sys = s.sys := rfl
@[simp] theorem putTask_store : (putTask s t x).store = s.store := rfl
@[simp] theorem putTask_tower : (putTask s t x).tower = s.tower := rfl
@[simp] theorem putTask_arr : (putTask s t x).arr = s.arr := rfl
@[simp] theorem putTask_eph : (putTask s t x).eph = s.eph := rfl
@[simp] theorem putTask_deep : (putTask s t x).deep = s.deep := rfl
@[simp] theorem putTask_flt : (putTask s t x).flt = s.flt := rfl
@[simp] theorem putTask_mer : (putTask s t x).mer = s.mer := rfl
@[simp] theorem putTask_act : (putTask s t x).act = s.act := rfl
@[simp] theorem putTask_net : (putTask s t x).net = s.net := rfl
@[simp] theorem putTask_mcc : (putTask s t x).mcc = s.mcc := rfl
@[simp] theorem putTask_boot : (putTask s t x).boot = s.boot := rfl
@[simp] theorem putTask_pwr : (putTask s t x).pwr = s.pwr := rfl
@[simp] theorem putTask_thm : (putTask s t x).thm = s.thm := rfl
@[simp] theorem putTask_log : (putTask s t x).log = s.log := rfl
@[simp] theorem putTask_pin : (putTask s t x).pin = s.pin := rfl
end

section
variable (s : State) (i : Nat) (x : SliceSt)
@[simp] theorem setSlice_pending : (setSlice s i x).pending = s.pending := rfl
@[simp] theorem setSlice_clk : (setSlice s i x).clk = s.clk := rfl
@[simp] theorem setSlice_sys : (setSlice s i x).sys = s.sys := rfl
@[simp] theorem setSlice_store : (setSlice s i x).store = s.store := rfl
@[simp] theorem setSlice_tower : (setSlice s i x).tower = s.tower := rfl
@[simp] theorem setSlice_arr : (setSlice s i x).arr = s.arr := rfl
@[simp] theorem setSlice_eph : (setSlice s i x).eph = s.eph := rfl
@[simp] theorem setSlice_lane : (setSlice s i x).lane = s.lane := rfl
@[simp] theorem setSlice_flt : (setSlice s i x).flt = s.flt := rfl
@[simp] theorem setSlice_mer : (setSlice s i x).mer = s.mer := rfl
@[simp] theorem setSlice_act : (setSlice s i x).act = s.act := rfl
@[simp] theorem setSlice_net : (setSlice s i x).net = s.net := rfl
@[simp] theorem setSlice_mcc : (setSlice s i x).mcc = s.mcc := rfl
@[simp] theorem setSlice_boot : (setSlice s i x).boot = s.boot := rfl
@[simp] theorem setSlice_pwr : (setSlice s i x).pwr = s.pwr := rfl
@[simp] theorem setSlice_thm : (setSlice s i x).thm = s.thm := rfl
@[simp] theorem setSlice_log : (setSlice s i x).log = s.log := rfl
@[simp] theorem setSlice_pin : (setSlice s i x).pin = s.pin := rfl
end

section
variable (s : State) (c : Nat) (x : ChanSt)
@[simp] theorem setChan_pending : (setChan s c x).pending = s.pending := rfl
@[simp] theorem setChan_clk : (setChan s c x).clk = s.clk := rfl
@[simp] theorem setChan_sys : (setChan s c x).sys = s.sys := rfl
@[simp] theorem setChan_store : (setChan s c x).store = s.store := rfl
@[simp] theorem setChan_tower : (setChan s c x).tower = s.tower := rfl
@[simp] theorem setChan_arr : (setChan s c x).arr = s.arr := rfl
@[simp] theorem setChan_eph : (setChan s c x).eph = s.eph := rfl
@[simp] theorem setChan_lane : (setChan s c x).lane = s.lane := rfl
@[simp] theorem setChan_flt : (setChan s c x).flt = s.flt := rfl
@[simp] theorem setChan_mer : (setChan s c x).mer = s.mer := rfl
@[simp] theorem setChan_act : (setChan s c x).act = s.act := rfl
@[simp] theorem setChan_net : (setChan s c x).net = s.net := rfl
@[simp] theorem setChan_mcc : (setChan s c x).mcc = s.mcc := rfl
@[simp] theorem setChan_boot : (setChan s c x).boot = s.boot := rfl
@[simp] theorem setChan_pwr : (setChan s c x).pwr = s.pwr := rfl
@[simp] theorem setChan_thm : (setChan s c x).thm = s.thm := rfl
@[simp] theorem setChan_log : (setChan s c x).log = s.log := rfl
@[simp] theorem setChan_pin : (setChan s c x).pin = s.pin := rfl
end

section
variable (s : State) (i k : Nat) (x : List CLine)
@[simp] theorem setSet_pending : (setSet s i k x).pending = s.pending := rfl
@[simp] theorem setSet_clk : (setSet s i k x).clk = s.clk := rfl
@[simp] theorem setSet_sys : (setSet s i k x).sys = s.sys := rfl
@[simp] theorem setSet_store : (setSet s i k x).store = s.store := rfl
@[simp] theorem setSet_tower : (setSet s i k x).tower = s.tower := rfl
@[simp] theorem setSet_arr : (setSet s i k x).arr = s.arr := rfl
@[simp] theorem setSet_eph : (setSet s i k x).eph = s.eph := rfl
@[simp] theorem setSet_lane : (setSet s i k x).lane = s.lane := rfl
@[simp] theorem setSet_flt : (setSet s i k x).flt = s.flt := rfl
@[simp] theorem setSet_mer : (setSet s i k x).mer = s.mer := rfl
@[simp] theorem setSet_act : (setSet s i k x).act = s.act := rfl
@[simp] theorem setSet_net : (setSet s i k x).net = s.net := rfl
@[simp] theorem setSet_mcc : (setSet s i k x).mcc = s.mcc := rfl
@[simp] theorem setSet_boot : (setSet s i k x).boot = s.boot := rfl
@[simp] theorem setSet_pwr : (setSet s i k x).pwr = s.pwr := rfl
@[simp] theorem setSet_thm : (setSet s i k x).thm = s.thm := rfl
@[simp] theorem setSet_log : (setSet s i k x).log = s.log := rfl
@[simp] theorem setSet_pin : (setSet s i k x).pin = s.pin := rfl
end

section
variable (s : State) (p : Nat) (x : PhysTile)
@[simp] theorem setPhys_pending : (setPhys s p x).pending = s.pending := rfl
@[simp] theorem setPhys_clk : (setPhys s p x).clk = s.clk := rfl
@[simp] theorem setPhys_sys : (setPhys s p x).sys = s.sys := rfl
@[simp] theorem setPhys_store : (setPhys s p x).store = s.store := rfl
@[simp] theorem setPhys_arr : (setPhys s p x).arr = s.arr := rfl
@[simp] theorem setPhys_eph : (setPhys s p x).eph = s.eph := rfl
@[simp] theorem setPhys_lane : (setPhys s p x).lane = s.lane := rfl
@[simp] theorem setPhys_deep : (setPhys s p x).deep = s.deep := rfl
@[simp] theorem setPhys_flt : (setPhys s p x).flt = s.flt := rfl
@[simp] theorem setPhys_mer : (setPhys s p x).mer = s.mer := rfl
@[simp] theorem setPhys_act : (setPhys s p x).act = s.act := rfl
@[simp] theorem setPhys_net : (setPhys s p x).net = s.net := rfl
@[simp] theorem setPhys_mcc : (setPhys s p x).mcc = s.mcc := rfl
@[simp] theorem setPhys_boot : (setPhys s p x).boot = s.boot := rfl
@[simp] theorem setPhys_pwr : (setPhys s p x).pwr = s.pwr := rfl
@[simp] theorem setPhys_thm : (setPhys s p x).thm = s.thm := rfl
@[simp] theorem setPhys_log : (setPhys s p x).log = s.log := rfl
@[simp] theorem setPhys_pin : (setPhys s p x).pin = s.pin := rfl
end

section
variable (s : State) (t l : Nat) (x : PllPair)
@[simp] theorem setPll_pending : (setPll s t l x).pending = s.pending := rfl
@[simp] theorem setPll_clk : (setPll s t l x).clk = s.clk := rfl
@[simp] theorem setPll_sys : (setPll s t l x).sys = s.sys := rfl
@[simp] theorem setPll_store : (setPll s t l x).store = s.store := rfl
@[simp] theorem setPll_arr : (setPll s t l x).arr = s.arr := rfl
@[simp] theorem setPll_eph : (setPll s t l x).eph = s.eph := rfl
@[simp] theorem setPll_lane : (setPll s t l x).lane = s.lane := rfl
@[simp] theorem setPll_deep : (setPll s t l x).deep = s.deep := rfl
@[simp] theorem setPll_flt : (setPll s t l x).flt = s.flt := rfl
@[simp] theorem setPll_mer : (setPll s t l x).mer = s.mer := rfl
@[simp] theorem setPll_act : (setPll s t l x).act = s.act := rfl
@[simp] theorem setPll_net : (setPll s t l x).net = s.net := rfl
@[simp] theorem setPll_mcc : (setPll s t l x).mcc = s.mcc := rfl
@[simp] theorem setPll_boot : (setPll s t l x).boot = s.boot := rfl
@[simp] theorem setPll_pwr : (setPll s t l x).pwr = s.pwr := rfl
@[simp] theorem setPll_thm : (setPll s t l x).thm = s.thm := rfl
@[simp] theorem setPll_log : (setPll s t l x).log = s.log := rfl
@[simp] theorem setPll_pin : (setPll s t l x).pin = s.pin := rfl
end

section
variable (s : State) (t : Nat) (e : SpineEnd) (x : SpineSeg)
@[simp] theorem setSeg_pending : (setSeg s t e x).pending = s.pending := rfl
@[simp] theorem setSeg_clk : (setSeg s t e x).clk = s.clk := rfl
@[simp] theorem setSeg_sys : (setSeg s t e x).sys = s.sys := rfl
@[simp] theorem setSeg_store : (setSeg s t e x).store = s.store := rfl
@[simp] theorem setSeg_arr : (setSeg s t e x).arr = s.arr := rfl
@[simp] theorem setSeg_eph : (setSeg s t e x).eph = s.eph := rfl
@[simp] theorem setSeg_lane : (setSeg s t e x).lane = s.lane := rfl
@[simp] theorem setSeg_deep : (setSeg s t e x).deep = s.deep := rfl
@[simp] theorem setSeg_flt : (setSeg s t e x).flt = s.flt := rfl
@[simp] theorem setSeg_mer : (setSeg s t e x).mer = s.mer := rfl
@[simp] theorem setSeg_act : (setSeg s t e x).act = s.act := rfl
@[simp] theorem setSeg_net : (setSeg s t e x).net = s.net := rfl
@[simp] theorem setSeg_mcc : (setSeg s t e x).mcc = s.mcc := rfl
@[simp] theorem setSeg_boot : (setSeg s t e x).boot = s.boot := rfl
@[simp] theorem setSeg_pwr : (setSeg s t e x).pwr = s.pwr := rfl
@[simp] theorem setSeg_thm : (setSeg s t e x).thm = s.thm := rfl
@[simp] theorem setSeg_log : (setSeg s t e x).log = s.log := rfl
@[simp] theorem setSeg_pin : (setSeg s t e x).pin = s.pin := rfl
end

section
variable (s : State) (p : Nat) (x : PortSt)
@[simp] theorem setPort_pending : (setPort s p x).pending = s.pending := rfl
@[simp] theorem setPort_clk : (setPort s p x).clk = s.clk := rfl
@[simp] theorem setPort_sys : (setPort s p x).sys = s.sys := rfl
@[simp] theorem setPort_store : (setPort s p x).store = s.store := rfl
@[simp] theorem setPort_tower : (setPort s p x).tower = s.tower := rfl
@[simp] theorem setPort_arr : (setPort s p x).arr = s.arr := rfl
@[simp] theorem setPort_eph : (setPort s p x).eph = s.eph := rfl
@[simp] theorem setPort_lane : (setPort s p x).lane = s.lane := rfl
@[simp] theorem setPort_deep : (setPort s p x).deep = s.deep := rfl
@[simp] theorem setPort_flt : (setPort s p x).flt = s.flt := rfl
@[simp] theorem setPort_mer : (setPort s p x).mer = s.mer := rfl
@[simp] theorem setPort_act : (setPort s p x).act = s.act := rfl
@[simp] theorem setPort_mcc : (setPort s p x).mcc = s.mcc := rfl
@[simp] theorem setPort_boot : (setPort s p x).boot = s.boot := rfl
@[simp] theorem setPort_pwr : (setPort s p x).pwr = s.pwr := rfl
@[simp] theorem setPort_thm : (setPort s p x).thm = s.thm := rfl
@[simp] theorem setPort_log : (setPort s p x).log = s.log := rfl
@[simp] theorem setPort_pin : (setPort s p x).pin = s.pin := rfl
end

section
variable (s : State) (i : Nat) (x : Sensor)
@[simp] theorem setSensor_pending : (setSensor s i x).pending = s.pending := rfl
@[simp] theorem setSensor_clk : (setSensor s i x).clk = s.clk := rfl
@[simp] theorem setSensor_sys : (setSensor s i x).sys = s.sys := rfl
@[simp] theorem setSensor_store : (setSensor s i x).store = s.store := rfl
@[simp] theorem setSensor_tower : (setSensor s i x).tower = s.tower := rfl
@[simp] theorem setSensor_arr : (setSensor s i x).arr = s.arr := rfl
@[simp] theorem setSensor_eph : (setSensor s i x).eph = s.eph := rfl
@[simp] theorem setSensor_lane : (setSensor s i x).lane = s.lane := rfl
@[simp] theorem setSensor_deep : (setSensor s i x).deep = s.deep := rfl
@[simp] theorem setSensor_flt : (setSensor s i x).flt = s.flt := rfl
@[simp] theorem setSensor_mer : (setSensor s i x).mer = s.mer := rfl
@[simp] theorem setSensor_act : (setSensor s i x).act = s.act := rfl
@[simp] theorem setSensor_net : (setSensor s i x).net = s.net := rfl
@[simp] theorem setSensor_mcc : (setSensor s i x).mcc = s.mcc := rfl
@[simp] theorem setSensor_boot : (setSensor s i x).boot = s.boot := rfl
@[simp] theorem setSensor_pwr : (setSensor s i x).pwr = s.pwr := rfl
@[simp] theorem setSensor_log : (setSensor s i x).log = s.log := rfl
@[simp] theorem setSensor_pin : (setSensor s i x).pin = s.pin := rfl
end

section
variable (s : State) (t l : Nat) (x : LayerT)
@[simp] theorem setLayer_pending : (setLayer s t l x).pending = s.pending := rfl
@[simp] theorem setLayer_clk : (setLayer s t l x).clk = s.clk := rfl
@[simp] theorem setLayer_sys : (setLayer s t l x).sys = s.sys := rfl
@[simp] theorem setLayer_store : (setLayer s t l x).store = s.store := rfl
@[simp] theorem setLayer_tower : (setLayer s t l x).tower = s.tower := rfl
@[simp] theorem setLayer_arr : (setLayer s t l x).arr = s.arr := rfl
@[simp] theorem setLayer_eph : (setLayer s t l x).eph = s.eph := rfl
@[simp] theorem setLayer_lane : (setLayer s t l x).lane = s.lane := rfl
@[simp] theorem setLayer_deep : (setLayer s t l x).deep = s.deep := rfl
@[simp] theorem setLayer_flt : (setLayer s t l x).flt = s.flt := rfl
@[simp] theorem setLayer_mer : (setLayer s t l x).mer = s.mer := rfl
@[simp] theorem setLayer_act : (setLayer s t l x).act = s.act := rfl
@[simp] theorem setLayer_net : (setLayer s t l x).net = s.net := rfl
@[simp] theorem setLayer_mcc : (setLayer s t l x).mcc = s.mcc := rfl
@[simp] theorem setLayer_boot : (setLayer s t l x).boot = s.boot := rfl
@[simp] theorem setLayer_pwr : (setLayer s t l x).pwr = s.pwr := rfl
@[simp] theorem setLayer_log : (setLayer s t l x).log = s.log := rfl
@[simp] theorem setLayer_pin : (setLayer s t l x).pin = s.pin := rfl
end

section
variable (s : State) (r : Nat) (x : Rail)
@[simp] theorem setRail_pending : (setRail s r x).pending = s.pending := rfl
@[simp] theorem setRail_clk : (setRail s r x).clk = s.clk := rfl
@[simp] theorem setRail_sys : (setRail s r x).sys = s.sys := rfl
@[simp] theorem setRail_store : (setRail s r x).store = s.store := rfl
@[simp] theorem setRail_tower : (setRail s r x).tower = s.tower := rfl
@[simp] theorem setRail_arr : (setRail s r x).arr = s.arr := rfl
@[simp] theorem setRail_eph : (setRail s r x).eph = s.eph := rfl
@[simp] theorem setRail_lane : (setRail s r x).lane = s.lane := rfl
@[simp] theorem setRail_deep : (setRail s r x).deep = s.deep := rfl
@[simp] theorem setRail_flt : (setRail s r x).flt = s.flt := rfl
@[simp] theorem setRail_mer : (setRail s r x).mer = s.mer := rfl
@[simp] theorem setRail_act : (setRail s r x).act = s.act := rfl
@[simp] theorem setRail_net : (setRail s r x).net = s.net := rfl
@[simp] theorem setRail_mcc : (setRail s r x).mcc = s.mcc := rfl
@[simp] theorem setRail_boot : (setRail s r x).boot = s.boot := rfl
@[simp] theorem setRail_thm : (setRail s r x).thm = s.thm := rfl
@[simp] theorem setRail_log : (setRail s r x).log = s.log := rfl
@[simp] theorem setRail_pin : (setRail s r x).pin = s.pin := rfl
end

section
variable (s : State) (x : Xfer)
@[simp] theorem putX_pending : (putX s x).pending = s.pending := rfl
@[simp] theorem putX_clk : (putX s x).clk = s.clk := rfl
@[simp] theorem putX_sys : (putX s x).sys = s.sys := rfl
@[simp] theorem putX_store : (putX s x).store = s.store := rfl
@[simp] theorem putX_tower : (putX s x).tower = s.tower := rfl
@[simp] theorem putX_arr : (putX s x).arr = s.arr := rfl
@[simp] theorem putX_lane : (putX s x).lane = s.lane := rfl
@[simp] theorem putX_deep : (putX s x).deep = s.deep := rfl
@[simp] theorem putX_flt : (putX s x).flt = s.flt := rfl
@[simp] theorem putX_mer : (putX s x).mer = s.mer := rfl
@[simp] theorem putX_act : (putX s x).act = s.act := rfl
@[simp] theorem putX_net : (putX s x).net = s.net := rfl
@[simp] theorem putX_mcc : (putX s x).mcc = s.mcc := rfl
@[simp] theorem putX_boot : (putX s x).boot = s.boot := rfl
@[simp] theorem putX_pwr : (putX s x).pwr = s.pwr := rfl
@[simp] theorem putX_thm : (putX s x).thm = s.thm := rfl
@[simp] theorem putX_log : (putX s x).log = s.log := rfl
@[simp] theorem putX_pin : (putX s x).pin = s.pin := rfl
end

/-! ## Register fields -/

/-- A field just written holds the value, cut to its width. -/
@[simp] theorem getF_setF_same (s : State) (f : Field) (u v : Nat) : getF (setF s f u v) f u = v % 2 ^ f.width := by
  simp [getF, setF]

/-- A field written leaves every other field, and the field in every other unit, alone. -/
theorem getF_setF_other (s : State) (f g : Field) (u w v : Nat) (h : g.id ≠ f.id ∨ w ≠ u) :
    getF (setF s f u v) g w = getF s g w := by
  have hk : (g.id, w) ≠ (f.id, u) := by
    simp only [ne_eq, Prod.mk.injEq, not_and]
    rcases h with h | h
    · exact fun x => absurd x h
    · exact fun _ => h
  exact mget_mput_other _ _ hk _ _ _

@[simp] theorem getB_setB_same (s : State) (f : Field) (u : Nat) (b : Bool) (h : 0 < f.width) : getB (setB s f u b) f u = b := by
  have h2 : 2 ≤ 2 ^ f.width := by
    calc 2 = 2 ^ 1 := rfl
      _ ≤ 2 ^ f.width := Nat.pow_le_pow_right (by decide) h
  unfold getB setB
  rw [getF_setF_same]
  cases b
  · simp
  · rw [Nat.mod_eq_of_lt (by simp; omega)]; rfl

theorem getF_setB_other (s : State) (f g : Field) (u w : Nat) (b : Bool) (h : g.id ≠ f.id ∨ w ≠ u) :
    getF (setB s f u b) g w = getF s g w := getF_setF_other s f g u w _ h

theorem getF_incF_other (s : State) (f g : Field) (u w n : Nat) (h : g.id ≠ f.id ∨ w ≠ u) :
    getF (incF s f u n) g w = getF s g w := getF_setF_other s f g u w _ h

/-- A counter raised holds the sum, or its largest value. -/
@[simp] theorem getF_incF_same (s : State) (f : Field) (u n : Nat) :
    getF (incF s f u n) f u = min (getF s f u + n) (2 ^ f.width - 1) := by
  unfold incF
  rw [getF_setF_same, Nat.mod_eq_of_lt]
  have := Nat.two_pow_pos f.width
  omega

/-! ## Register fields under the other updates -/

theorem getF_congr {s t : State} (h : t.sys.regs = s.sys.regs) (f : Field) (u : Nat) : getF t f u = getF s f u := by
  unfold getF; rw [h]

@[simp] theorem getF_clearIntact (s : State) (f : Field) (w : Nat) : getF (clearIntact s) f w = getF s f w := rfl
@[simp] theorem getF_clearRemains (s : State) (f : Field) (w : Nat) : getF (clearRemains s) f w = getF s f w := rfl
@[simp] theorem getF_setEph (s : State) (t : Nat) (x : EphSt) (f : Field) (w : Nat) : getF (setEph s t x) f w = getF s f w := rfl
@[simp] theorem getF_setArr (s : State) (t : Nat) (x : ArrSt) (f : Field) (w : Nat) : getF (setArr s t x) f w = getF s f w := rfl
@[simp] theorem getF_setLane (s : State) (t : Nat) (x : LaneSt) (f : Field) (w : Nat) : getF (setLane s t x) f w = getF s f w := rfl
@[simp] theorem getF_putGroup (s : State) (t i : Nat) (x : Option Group) (f : Field) (w : Nat) : getF (putGroup s t i x) f w = getF s f w := rfl
@[simp] theorem getF_putTask (s : State) (t : Nat) (x : Task) (f : Field) (w : Nat) : getF (putTask s t x) f w = getF s f w := rfl
@[simp] theorem getF_setSlice (s : State) (i : Nat) (x : SliceSt) (f : Field) (w : Nat) : getF (setSlice s i x) f w = getF s f w := rfl
@[simp] theorem getF_setChan (s : State) (c : Nat) (x : ChanSt) (f : Field) (w : Nat) : getF (setChan s c x) f w = getF s f w := rfl
@[simp] theorem getF_setSet (s : State) (i k : Nat) (x : List CLine) (f : Field) (w : Nat) : getF (setSet s i k x) f w = getF s f w := rfl
@[simp] theorem getF_setPhys (s : State) (p : Nat) (x : PhysTile) (f : Field) (w : Nat) : getF (setPhys s p x) f w = getF s f w := rfl
@[simp] theorem getF_setPll (s : State) (t l : Nat) (x : PllPair) (f : Field) (w : Nat) : getF (setPll s t l x) f w = getF s f w := rfl
@[simp] theorem getF_setSeg (s : State) (t : Nat) (e : SpineEnd) (x : SpineSeg) (f : Field) (w : Nat) : getF (setSeg s t e x) f w = getF s f w := rfl
@[simp] theorem getF_setPort (s : State) (p : Nat) (x : PortSt) (f : Field) (w : Nat) : getF (setPort s p x) f w = getF s f w := rfl
@[simp] theorem getF_setSensor (s : State) (i : Nat) (x : Sensor) (f : Field) (w : Nat) : getF (setSensor s i x) f w = getF s f w := rfl
@[simp] theorem getF_setLayer (s : State) (t l : Nat) (x : LayerT) (f : Field) (w : Nat) : getF (setLayer s t l x) f w = getF s f w := rfl
@[simp] theorem getF_setRail (s : State) (r : Nat) (x : Rail) (f : Field) (w : Nat) : getF (setRail s r x) f w = getF s f w := rfl
@[simp] theorem getF_putX (s : State) (x : Xfer) (f : Field) (w : Nat) : getF (putX s x) f w = getF s f w := rfl
@[simp] theorem getF_takeFree (s : State) (f : Field) (w : Nat) : getF (takeFree s) f w = getF s f w := rfl

/-! ## Units of state read back -/

@[simp] theorem getEph_setEph (s : State) (t : Nat) (x : EphSt) : getEph (setEph s t x) t = x := by
  simp [getEph, setEph]
theorem getEph_setEph_other (s : State) {t u : Nat} (x : EphSt) (h : u ≠ t) : getEph (setEph s t x) u = getEph s u :=
  mget_mput_other _ _ h _ _ _
@[simp] theorem setEph_setEph (s : State) (t : Nat) (x y : EphSt) : setEph (setEph s t x) t y = setEph s t y := by
  simp [setEph]
@[simp] theorem getArr_setArr (s : State) (t : Nat) (x : ArrSt) : getArr (setArr s t x) t = x := by
  simp [getArr, setArr]
theorem getArr_setArr_other (s : State) {t u : Nat} (x : ArrSt) (h : u ≠ t) : getArr (setArr s t x) u = getArr s u :=
  mget_mput_other _ _ h _ _ _
@[simp] theorem setArr_setArr (s : State) (t : Nat) (x y : ArrSt) : setArr (setArr s t x) t y = setArr s t y := by
  simp [setArr]
@[simp] theorem getLane_setLane (s : State) (t : Nat) (x : LaneSt) : getLane (setLane s t x) t = x := by
  simp [getLane, setLane]
theorem getLane_setLane_other (s : State) {t u : Nat} (x : LaneSt) (h : u ≠ t) : getLane (setLane s t x) u = getLane s u :=
  mget_mput_other _ _ h _ _ _
@[simp] theorem setLane_setLane (s : State) (t : Nat) (x y : LaneSt) : setLane (setLane s t x) t y = setLane s t y := by
  simp [setLane]
@[simp] theorem getSlice_setSlice (s : State) (t : Nat) (x : SliceSt) : getSlice (setSlice s t x) t = x := by
  simp [getSlice, setSlice]
theorem getSlice_setSlice_other (s : State) {t u : Nat} (x : SliceSt) (h : u ≠ t) : getSlice (setSlice s t x) u = getSlice s u :=
  mget_mput_other _ _ h _ _ _
@[simp] theorem setSlice_setSlice (s : State) (t : Nat) (x y : SliceSt) : setSlice (setSlice s t x) t y = setSlice s t y := by
  simp [setSlice]
@[simp] theorem getChan_setChan (s : State) (t : Nat) (x : ChanSt) : getChan (setChan s t x) t = x := by
  simp [getChan, setChan]
theorem getChan_setChan_other (s : State) {t u : Nat} (x : ChanSt) (h : u ≠ t) : getChan (setChan s t x) u = getChan s u :=
  mget_mput_other _ _ h _ _ _
@[simp] theorem setChan_setChan (s : State) (t : Nat) (x y : ChanSt) : setChan (setChan s t x) t y = setChan s t y := by
  simp [setChan]
@[simp] theorem getPhys_setPhys (s : State) (t : Nat) (x : PhysTile) : getPhys (setPhys s t x) t = x := by
  simp [getPhys, setPhys]
theorem getPhys_setPhys_other (s : State) {t u : Nat} (x : PhysTile) (h : u ≠ t) : getPhys (setPhys s t x) u = getPhys s u :=
  mget_mput_other _ _ h _ _ _
@[simp] theorem setPhys_setPhys (s : State) (t : Nat) (x y : PhysTile) : setPhys (setPhys s t x) t y = setPhys s t y := by
  simp [setPhys]
@[simp] theorem getPort_setPort (s : State) (t : Nat) (x : PortSt) : getPort (setPort s t x) t = x := by
  simp [getPort, setPort]
theorem getPort_setPort_other (s : State) {t u : Nat} (x : PortSt) (h : u ≠ t) : getPort (setPort s t x) u = getPort s u :=
  mget_mput_other _ _ h _ _ _
@[simp] theorem setPort_setPort (s : State) (t : Nat) (x y : PortSt) : setPort (setPort s t x) t y = setPort s t y := by
  simp [setPort]
@[simp] theorem getSensor_setSensor (s : State) (t : Nat) (x : Sensor) : getSensor (setSensor s t x) t = x := by
  simp [getSensor, setSensor]
theorem getSensor_setSensor_other (s : State) {t u : Nat} (x : Sensor) (h : u ≠ t) : getSensor (setSensor s t x) u = getSensor s u :=
  mget_mput_other _ _ h _ _ _
@[simp] theorem setSensor_setSensor (s : State) (t : Nat) (x y : Sensor) : setSensor (setSensor s t x) t y = setSensor s t y := by
  simp [setSensor]
@[simp] theorem getRail_setRail (s : State) (t : Nat) (x : Rail) : getRail (setRail s t x) t = x := by
  simp [getRail, setRail]
theorem getRail_setRail_other (s : State) {t u : Nat} (x : Rail) (h : u ≠ t) : getRail (setRail s t x) u = getRail s u :=
  mget_mput_other _ _ h _ _ _
@[simp] theorem setRail_setRail (s : State) (t : Nat) (x y : Rail) : setRail (setRail s t x) t y = setRail s t y := by
  simp [setRail]

end Sys2Proof.Machine
end

