-- ==== Sys2Proof/Laws/Lane.lean ====
section
/-!
SUPPORT. What the shared operations on a group do: registers read after writes, a vector result written in the active
lanes, and the issue of an instruction.
-/
namespace Sys2Proof.Machine

theorem vGet_vPut (g : Group) (d k : Nat) (x : LaneVal) (r l : Nat) :
    vGet (vPut g d k x) r l = if r = d ∧ l = k then x else vGet g r l := by
  simp [vGet, vPut, mget_mput]

@[simp] theorem vPut_vreg_off (g : Group) (d k : Nat) (x : LaneVal) (v : PMap LaneVal) :
    { vPut g d k x with vreg := v } = { g with vreg := v } := rfl

@[simp] theorem vPut_mask (g : Group) (d k : Nat) (x : LaneVal) : (vPut g d k x).mask = g.mask := rfl

theorem sGet_sPut (g : Group) (d : Nat) (x : ScalVal) (r : Nat) :
    sGet (sPut g d x) r = if r = d then x else sGet g r := by
  simp [sGet, sPut, mget_mput]

theorem mem_activeLanes (g : Group) (l : Nat) : l ∈ activeLanes g ↔ l < 32 ∧ inMask g.mask l = true := by
  simp [activeLanes, lanes]

/-- The group of a slot just written. -/
@[simp] theorem getGroup_putGroup_same (s : State) (t i : Nat) (g : Option Group) : getGroup (putGroup s t i g) t i = g := by
  simp [getGroup, putGroup]

/-- A group written leaves the other slots of its tile alone. -/
theorem getGroup_putGroup_other (s : State) (t : Nat) {i j : Nat} (h : j ≠ i) (g : Option Group) :
    getGroup (putGroup s t i g) t j = getGroup s t j := by
  simp [getGroup, putGroup, mget_mput_other _ _ h]

/-- Of two writes of one group the second stays. -/
@[simp] theorem putGroup_putGroup (s : State) (t i : Nat) (g h : Option Group) :
    putGroup (putGroup s t i g) t i h = putGroup s t i h := by
  simp [putGroup]

theorem longest_mem {l : List (Nat × Group)} {e : Nat × Group} (h : longest l = some e) : e ∈ l := by
  induction l generalizing e with
  | nil => cases h
  | cons a r ih =>
    unfold longest at h
    split at h
    · cases h; simp
    · rename_i x hx
      split at h
      · cases h; simp [ih hx]
      · cases h; simp

theorem mem_residents {s : State} {t i : Nat} {g : Group} (h : (i, g) ∈ residents s t) : getGroup s t i = some g := by
  simp only [residents, List.mem_filterMap, Option.map_eq_some_iff] at h
  obtain ⟨j, _, g', hg, he⟩ := h
  cases he
  exact hg

/-- Filling the active set changes of a group nothing but whether it is active, and of one that waits nothing. -/
theorem getGroup_refill (n : Nat) (s : State) (t i : Nat) :
    ∃ b, getGroup (refill s t n) t i = (getGroup s t i).map (fun g => { g with active := g.active || (b && g.wait == .none) }) := by
  have same : ∀ o : Option Group, o = o.map (fun g => { g with active := g.active || (false && g.wait == .none) }) := by
    intro o; cases o <;> simp
  induction n generalizing s with
  | zero => exact ⟨false, same _⟩
  | succ n ih =>
    unfold refill
    dsimp only
    split
    · exact ⟨false, same _⟩
    · split
      · exact ⟨false, same _⟩
      · rename_i j g hj
        have hm := longest_mem hj
        simp only [List.mem_filter, Bool.and_eq_true] at hm
        have hg := mem_residents hm.1
        obtain ⟨b, hb⟩ := ih (putGroup s t j (some { g with active := true }))
        by_cases hij : i = j
        · subst hij
          refine ⟨true, hb.trans ?_⟩
          simp only [getGroup_putGroup_same, hg, Option.map_some]
          simp [hm.2.2]
        · exact ⟨b, by rw [hb, getGroup_putGroup_other _ _ hij]⟩

/-- A group that leaves the active set to wait stays out of it. -/
theorem getGroup_leaveActive (s : State) (t i : Nat) (g : Group) (w : GroupWait) :
    ∃ b, getGroup (leaveActive s t i g w) t i =
      some { g with active := b && w == .none, wait := w, since := s.clk.laneCyc } := by
  obtain ⟨b, hb⟩ := getGroup_refill 4 (putGroup s t i (some { g with active := false, wait := w, since := s.clk.laneCyc })) t i
  exact ⟨b, by unfold leaveActive; rw [hb]; simp⟩

/-- A vector result: the active lanes of the destination hold the function's values, every other lane what it held. -/
theorem vGet_vMap (g : Group) (d : Nat) (fn : Nat → LaneVal) (r l : Nat) :
    vGet (vMap g d fn) r l = if r = d ∧ l < 32 ∧ inMask g.mask l = true then fn l else vGet g r l := by
  have h : ∀ (ls : List Nat) (h : Group), vGet (ls.foldl (fun acc k => vPut acc d k (fn k)) h) r l =
      if r = d ∧ l ∈ ls then fn l else vGet h r l := by
    intro ls
    induction ls with
    | nil => simp
    | cons k ks ih =>
      intro h
      rw [List.foldl_cons, ih, vGet_vPut]
      by_cases hr : r = d <;> by_cases hk : l = k <;> by_cases hm : l ∈ ks <;> simp [hr, hk, hm]
  unfold vMap
  rw [h]
  simp only [mem_activeLanes]

theorem vMap_rest (g : Group) (d : Nat) (fn : Nat → LaneVal) : { vMap g d fn with vreg := g.vreg } = g := by
  have h : ∀ (ls : List Nat) (h : Group) (v : PMap LaneVal),
      { ls.foldl (fun acc k => vPut acc d k (fn k)) h with vreg := v } = { h with vreg := v } := by
    intro ls
    induction ls with
    | nil => intros; rfl
    | cons k ks ih => intro h v; rw [List.foldl_cons, ih]; rfl
  exact h _ _ _

/-- A vector operation's group. -/
theorem vecDone_vMap (g : Group) (d : Nat) (fn : Nat → LaneVal) : VecDone g (advance (vMap g d fn)) d fn where
  lanes := vGet_vMap g d fn
  rest := by
    have h := vMap_rest g d fn
    have : ({ advance (vMap g d fn) with vreg := g.vreg } : Group) =
        { ({ vMap g d fn with vreg := g.vreg } : Group) with pc := (vMap g d fn).pc + 8 } := rfl
    rw [this, h]
    have h2 : ({ vMap g d fn with vreg := g.vreg } : Group).pc = g.pc := by rw [h]
    have h3 : (vMap g d fn).pc = g.pc := h2
    rw [h3]

/-- A scalar operation's group. -/
theorem scalDone_sPut (g : Group) (d : Nat) (x : ScalVal) : ScalDone g (advance (sPut g d x)) d x :=
  ⟨sGet_sPut g d x, rfl⟩

/-- An instruction that issues acts on the state in which its issue is noted. -/
theorem laneRun_eq {i : Instr} {s : State} {t slot : Nat} {g : Group} (act : State → Group → State) (h : Issues i s t slot g) :
    laneRun i t slot s act = act (noted i s t slot g) g := by
  unfold laneRun; rw [h.runs]; dsimp only; rw [h.free]; dsimp only; rw [if_pos h.ok]; rfl

/-- A held instruction leaves the state to its hold. -/
theorem laneRun_held {i : Instr} {s v : State} {t slot : Nat} {g : Group} (act : State → Group → State)
    (h : runnable s t slot = some g) (hh : issueHold i s g = some v) : laneRun i t slot s act = v := by
  unfold laneRun; rw [h]; dsimp only; rw [hh]

/-- An instruction that the issue rules do not let issue changes nothing. -/
theorem laneRun_late {i : Instr} {s : State} {t slot : Nat} {g : Group} (act : State → Group → State)
    (h : runnable s t slot = some g) (hh : issueHold i s g = none) (hk : issueOk s t slot g (issueOf i) = false) :
    laneRun i t slot s act = s := by
  unfold laneRun; rw [h]; dsimp only; rw [hh]; simp [hk]

/-- A vector operation of an accepted form with a vector destination. -/
theorem vecOp_eq {s : State} {t slot : Nat} {g : Group} {f : RForm} (fn : Nat → LaneVal → LaneVal → LaneVal → LaneVal)
    (hb : rBad f = false) (hd : f.dS = false) :
    vecOp s t slot g f fn = keepGroup s t slot (advance (vMap g f.d.toNat (fun l =>
      fn l (operand g f.a f.aS l) (operand g f.b f.bS l) (operand g f.c f.cS l)))) := by
  unfold vecOp; simp [hb, hd]

end Sys2Proof.Machine
end

