-- ==== Sys2Proof/WellFormed.lean ====
section
/-!
DEFINITION. Which commands are well formed: the units they name exist, and what the tables of the spec bound is in bounds.
-/
namespace Sys2Proof

/-- A port of the device, or 255 for the host port (R312). -/
def portIndex (p : Nat) : Bool := decide (p < 192) || p == 255

/-- A dot of a vertical port, a slice or a channel as an arbiter's target. -/
def targetIndex : ReqTarget → Bool
  | .slice s => decide (s < 192)
  | .chan c => decide (c < 192)

/-- A store that a patrol visits. -/
def patrolIndex : PatrolStore → Bool
  | .focal t => decide (t < 512)
  | .slice s => decide (s < 192)
  | .chan c => decide (c < 192)

/-- The fields of a request fit their places in the header (R421, R422). -/
def MccReq.wf (r : MccReq) : Bool :=
  decide (r.session < 2 ^ 32) && decide (r.seq < 2 ^ 64) && decide (r.payload.length ≤ 16 * 8960)

/-- The fields of a vote frame fit their places (Table: Vote frame). -/
def VoteFrame.wf (v : VoteFrame) : Bool :=
  decide (v.version < 2 ^ 8) && decide (v.type < 2 ^ 8) && decide (v.level < 2 ^ 8) && decide (v.flags < 2 ^ 8) &&
    decide (v.job < 2 ^ 32) && decide (v.step < 2 ^ 64) && decide (v.attempt < 2 ^ 16) && decide (v.sender < 2 ^ 16) &&
    decide (v.verdict < 2 ^ 32) && decide (v.covered < 2 ^ 32) && decide (v.missing < 2 ^ 16) &&
    decide (v.firstMissing < 2 ^ 16) && decide (v.mark < 2 ^ 64) && decide (v.ckpt < 2 ^ 64) && decide (v.crc < 2 ^ 32)

/-- The fields of a block frame fit their places (Table: Block header). -/
def BlockFrame.wf (b : BlockFrame) : Bool :=
  decide (b.version < 2 ^ 8) && decide (b.type < 2 ^ 8) && decide (b.stream < 2 ^ 16) && decide (b.seq < 2 ^ 32) &&
    decide (b.step < 2 ^ 64) && decide (b.src < 2 ^ 16) && decide (b.dst < 2 ^ 16) && decide (b.length < 2 ^ 16) &&
    decide (b.attempt < 2 ^ 8) && decide (b.flags < 2 ^ 8) && decide (b.aux < 2 ^ 32) && decide (b.poison < 2 ^ 128) &&
    decide (b.hchk < 2 ^ 16) && decide (b.crc < 2 ^ 32) && decide (b.payload.length ≤ 4096)

/-- The check of each command. -/
def Instr.wf : Instr → Bool
  | .registerWrite _ _ _ => true
  | .pairLoRead _ => true
  | .captureRearm _ _ => true
  | .minRecorderRearm _ _ => true
  | .spineBurstArrive tile _ _ _ _ => decide (tile < 512)
  | .resentBurstArrive tile _ _ _ => decide (tile < 512)
  | .spineBurstDeliver tile _ => decide (tile < 512)
  | .agingEval phys _ => decide (phys < 576)
  | .layerPllSwitch tower layer => decide (tower < 4) && decide (layer < 8)
  | .layerPllLost tower layer => decide (tower < 4) && decide (layer < 8)
  | .layerReq tower _ _ => decide (tower < 4)
  | .partitionReq tower _ _ => decide (tower < 4)
  | .layerResetDone tower layer => decide (tower < 4) && decide (layer < 8)
  | .partitionResetDone tower => decide (tower < 4)
  | .pauseFrameBoundary => true
  | .pauseSlotBegin => true
  | .pauseSlotEnd => true
  | .epochMark => true
  | .bundleFetch tile => decide (tile < 512)
  | .bundleRefetch tile => decide (tile < 512)
  | .arraySlot tile => decide (tile < 512)
  | .heldArrayIssue tile => decide (tile < 512)
  | .gather tile => decide (tile < 512)
  | .segEnd tile => decide (tile < 512)
  | .load tile => decide (tile < 512)
  | .store tile => decide (tile < 512)
  | .coadd tile => decide (tile < 512)
  | .mesh tile => decide (tile < 512)
  | .turn tile => decide (tile < 512)
  | .send tile => decide (tile < 512)
  | .expect tile => decide (tile < 512)
  | .coll tile => decide (tile < 512)
  | .launch tile => decide (tile < 512)
  | .join tile => decide (tile < 512)
  | .meshLand _ => true
  | .moverLand _ => true
  | .moverAccepted _ => true
  | .sendCopyEnd _ => true
  | .heldSendCopy _ => true
  | .heldLandingRelease _ => true
  | .slackOverrun _ => true
  | .stallTimeout => true
  | .voteEntry => true
  | .arrayPassComplete tile => decide (tile < 512)
  | .accumDrainComplete tile => decide (tile < 512)
  | .arrayOpComplete tile => decide (tile < 512)
  | .arrayFaultDetect tile _ => decide (tile < 512)
  | .arrayRerunStart tile => decide (tile < 512)
  | .faultWindowEnd tile => decide (tile < 512)
  | .taskResident tile => decide (tile < 512)
  | .taskEnd tile _ => decide (tile < 512)
  | .globalLoadReturn tile slot => decide (tile < 512) && decide (slot < 32)
  | .globalStoreAccepted tile slot => decide (tile < 512) && decide (slot < 32)
  | .lockStall tile slot => decide (tile < 512) && decide (slot < 32)
  | .barrierTimeout tile slot => decide (tile < 512) && decide (slot < 32)
  | .namedBarrierComplete id => decide (id < 64)
  | .arrayOwnershipGrant tile => decide (tile < 512)
  | .lregParity tile slot lane => decide (tile < 512) && decide (slot < 32) && decide (lane < 32)
  | .nop tile slot _ => decide (tile < 512) && decide (slot < 32)
  | .exit tile slot _ => decide (tile < 512) && decide (slot < 32)
  | .bra tile slot _ => decide (tile < 512) && decide (slot < 32)
  | .brs tile slot _ => decide (tile < 512) && decide (slot < 32)
  | .yield tile slot _ => decide (tile < 512) && decide (slot < 32)
  | .rdsr tile slot _ => decide (tile < 512) && decide (slot < 32)
  | .push tile slot _ => decide (tile < 512) && decide (slot < 32)
  | .brk tile slot _ => decide (tile < 512) && decide (slot < 32)
  | .rcv tile slot _ => decide (tile < 512) && decide (slot < 32)
  | .pop tile slot _ => decide (tile < 512) && decide (slot < 32)
  | .any tile slot _ => decide (tile < 512) && decide (slot < 32)
  | .all tile slot _ => decide (tile < 512) && decide (slot < 32)
  | .mask tile slot _ => decide (tile < 512) && decide (slot < 32)
  | .take tile slot _ => decide (tile < 512) && decide (slot < 32)
  | .give tile slot _ => decide (tile < 512) && decide (slot < 32)
  | .barg tile slot _ => decide (tile < 512) && decide (slot < 32)
  | .bart tile slot _ => decide (tile < 512) && decide (slot < 32)
  | .barn tile slot _ => decide (tile < 512) && decide (slot < 32)
  | .macq tile slot _ => decide (tile < 512) && decide (slot < 32)
  | .mrel tile slot _ => decide (tile < 512) && decide (slot < 32)
  | .mwld tile slot _ => decide (tile < 512) && decide (slot < 32)
  | .mwsw tile slot _ => decide (tile < 512) && decide (slot < 32)
  | .mma tile slot _ => decide (tile < 512) && decide (slot < 32)
  | .mma4 tile slot _ => decide (tile < 512) && decide (slot < 32)
  | .ld tile slot _ => decide (tile < 512) && decide (slot < 32)
  | .st tile slot _ => decide (tile < 512) && decide (slot < 32)
  | .lds tile slot _ => decide (tile < 512) && decide (slot < 32)
  | .sts tile slot _ => decide (tile < 512) && decide (slot < 32)
  | .aadd tile slot _ => decide (tile < 512) && decide (slot < 32)
  | .amax tile slot _ => decide (tile < 512) && decide (slot < 32)
  | .acas tile slot _ => decide (tile < 512) && decide (slot < 32)
  | .fenceRelease tile slot _ => decide (tile < 512) && decide (slot < 32)
  | .fenceAcquire tile slot _ => decide (tile < 512) && decide (slot < 32)
  | .fenceFull tile slot _ => decide (tile < 512) && decide (slot < 32)
  | .pref tile slot _ => decide (tile < 512) && decide (slot < 32)
  | .fadd tile slot _ => decide (tile < 512) && decide (slot < 32)
  | .fsub tile slot _ => decide (tile < 512) && decide (slot < 32)
  | .fmul tile slot _ => decide (tile < 512) && decide (slot < 32)
  | .ffma tile slot _ => decide (tile < 512) && decide (slot < 32)
  | .fmin tile slot _ => decide (tile < 512) && decide (slot < 32)
  | .fmax tile slot _ => decide (tile < 512) && decide (slot < 32)
  | .fcmp tile slot _ => decide (tile < 512) && decide (slot < 32)
  | .frcp tile slot _ => decide (tile < 512) && decide (slot < 32)
  | .frsq tile slot _ => decide (tile < 512) && decide (slot < 32)
  | .fexp2 tile slot _ => decide (tile < 512) && decide (slot < 32)
  | .flog2 tile slot _ => decide (tile < 512) && decide (slot < 32)
  | .fdiv tile slot _ => decide (tile < 512) && decide (slot < 32)
  | .cvtf tile slot _ => decide (tile < 512) && decide (slot < 32)
  | .cvtn tile slot _ => decide (tile < 512) && decide (slot < 32)
  | .i2f tile slot _ => decide (tile < 512) && decide (slot < 32)
  | .f2i tile slot _ => decide (tile < 512) && decide (slot < 32)
  | .iadd tile slot _ => decide (tile < 512) && decide (slot < 32)
  | .isub tile slot _ => decide (tile < 512) && decide (slot < 32)
  | .imul tile slot _ => decide (tile < 512) && decide (slot < 32)
  | .imad tile slot _ => decide (tile < 512) && decide (slot < 32)
  | .and tile slot _ => decide (tile < 512) && decide (slot < 32)
  | .or tile slot _ => decide (tile < 512) && decide (slot < 32)
  | .xor tile slot _ => decide (tile < 512) && decide (slot < 32)
  | .shl tile slot _ => decide (tile < 512) && decide (slot < 32)
  | .shr tile slot _ => decide (tile < 512) && decide (slot < 32)
  | .sar tile slot _ => decide (tile < 512) && decide (slot < 32)
  | .imin tile slot _ => decide (tile < 512) && decide (slot < 32)
  | .imax tile slot _ => decide (tile < 512) && decide (slot < 32)
  | .icmp tile slot _ => decide (tile < 512) && decide (slot < 32)
  | .sel tile slot _ => decide (tile < 512) && decide (slot < 32)
  | .mov tile slot _ => decide (tile < 512) && decide (slot < 32)
  | .movi tile slot _ => decide (tile < 512) && decide (slot < 32)
  | .shfl tile slot _ => decide (tile < 512) && decide (slot < 32)
  | .sadd tile slot _ => decide (tile < 512) && decide (slot < 32)
  | .ssub tile slot _ => decide (tile < 512) && decide (slot < 32)
  | .smul tile slot _ => decide (tile < 512) && decide (slot < 32)
  | .sand tile slot _ => decide (tile < 512) && decide (slot < 32)
  | .sor tile slot _ => decide (tile < 512) && decide (slot < 32)
  | .sxor tile slot _ => decide (tile < 512) && decide (slot < 32)
  | .sshl tile slot _ => decide (tile < 512) && decide (slot < 32)
  | .sshr tile slot _ => decide (tile < 512) && decide (slot < 32)
  | .ssar tile slot _ => decide (tile < 512) && decide (slot < 32)
  | .smin tile slot _ => decide (tile < 512) && decide (slot < 32)
  | .smax tile slot _ => decide (tile < 512) && decide (slot < 32)
  | .scmp tile slot _ => decide (tile < 512) && decide (slot < 32)
  | .smov tile slot _ => decide (tile < 512) && decide (slot < 32)
  | .smovi tile slot _ => decide (tile < 512) && decide (slot < 32)
  | .reservedInstruction tile slot _ => decide (tile < 512) && decide (slot < 32)
  | .dbgCtlHalt tile _ _ => decide (tile < 512)
  | .dbgCtlStep tile _ _ => decide (tile < 512)
  | .dbgCtlResume tile _ _ => decide (tile < 512)
  | .debugHaltEnter => true
  | .dbgDataWrite tile _ _ => decide (tile < 512)
  | .sliceAccess slice => decide (slice < 192)
  | .sliceMissFill slice => decide (slice < 192)
  | .coaddFragment slice => decide (slice < 192)
  | .overflowCoaddComplete slice => decide (slice < 192)
  | .thrashWindowEnd slice => decide (slice < 192)
  | .streakStreamEnd slice => decide (slice < 192)
  | .updateEntryDone _ => true
  | .tagLost slice set way => decide (slice < 192) && decide (set < 32768) && decide (way < 16)
  | .sliceFold slice => decide (slice < 192)
  | .perBankRefresh chan => decide (chan < 192)
  | .pkgTempPoll pkg _ _ => decide (pkg < 24)
  | .channelTrained chan _ _ _ => decide (chan < 192)
  | .chTimeout chan => decide (chan < 192)
  | .spreadCopyDone chan => decide (chan < 192)
  | .lampStart chan _ _ => decide (chan < 192)
  | .lampStop chan _ _ => decide (chan < 192)
  | .lampDone chan _ => decide (chan < 192)
  | .arbiterGrant target => targetIndex target
  | .heldRequestIssue cls _ band => decide (cls < 6) && decide (band < 8)
  | .etaHint target => targetIndex target
  | .transactionResend cls _ band => decide (cls < 6) && decide (band < 8)
  | .lockedSequenceBreak target => targetIndex target
  | .guaranteeScaled => true
  | .pageRecoveryDone _ => true
  | .patrolVisit x => patrolIndex x
  | .writeRaw _ _ => true
  | .readRaw _ _ => true
  | .readDecode _ _ => true
  | .recoverPage _ _ => true
  | .frameReceive port _ => portIndex port
  | .blockReceive port blk => portIndex port && blk.wf
  | .blockTransmit port => portIndex port
  | .nakReceive port blk => portIndex port && blk.wf
  | .nakRepeat _ => true
  | .expectArrivalPass _ => true
  | .replayHoldExpire port => portIndex port
  | .gateEntryExpire port => portIndex port
  | .collComplete _ => true
  | .portTrainingDone port _ _ => portIndex port
  | .portDown port => portIndex port
  | .cageInsert group _ => decide (group < 49)
  | .cageUnplug group => decide (group < 49)
  | .synceSourceFail => true
  | .ptpSync port _ => portIndex port
  | .timeHoldover => true
  | .linkMacsec port => portIndex port
  | .storageReadDone _ => true
  | .storageError _ => true
  | .snapshotWriteDone => true
  | .telemetryExport => true
  | .up frame => frame.wf
  | .down frame => frame.wf
  | .commitWorkEnd => true
  | .commitLate => true
  | .closeUpSend => true
  | .closeUp frame => frame.wf
  | .closeDown frame => frame.wf
  | .voteTimeoutExpire => true
  | .voteResendExpire => true
  | .voteLost => true
  | .rollbackComplete _ _ => true
  | .slew => true
  | .spareJoin _ _ => true
  | .ckptLoadDone _ _ => true
  | .imgValidationDone => true
  | .imgCommitDone => true
  | .mccFrame _ _ => true
  | .mccFragmentTimeout => true
  | .sessionMkaTimeout => true
  | .hello req => req.wf
  | .kex req => req.wf
  | .auth req => req.wf
  | .close req => req.wf
  | .ping req => req.wf
  | .attest req => req.wf
  | .identity req => req.wf
  | .imgPart req => req.wf
  | .imgValidate req => req.wf
  | .imgCommit req => req.wf
  | .imgDiscard req => req.wf
  | .imgStatus req => req.wf
  | .bulkConnect req => req.wf
  | .imgWindow req => req.wf
  | .bulkWrite _ _ _ => true
  | .bulkRead _ _ _ => true
  | .jobStart req => req.wf
  | .jobResume req => req.wf
  | .jobStop req => req.wf
  | .jobStatus req => req.wf
  | .spareTake req => req.wf
  | .drain req => req.wf
  | .power req => req.wf
  | .pause req => req.wf
  | .resultRead req => req.wf
  | .resultWindow req => req.wf
  | .slotsList req => req.wf
  | .regRead req => req.wf
  | .eventsRead req => req.wf
  | .logRead req => req.wf
  | .fwRecord req => req.wf
  | .fwCommit req => req.wf
  | .changeRead req => req.wf
  | .dbgHalt req => req.wf
  | .dbgStep req => req.wf
  | .dbgResume req => req.wf
  | .dbgRead req => req.wf
  | .dbgWrite req => req.wf
  | .dbgWindow req => req.wf
  | .regWrite req => req.wf
  | .partitionReset req => req.wf
  | .layerReset req => req.wf
  | .shutter req => req.wf
  | .reopen req => req.wf
  | .lamp req => req.wf
  | .lampResult req => req.wf
  | .locate req => req.wf
  | .vaonUp _ => true
  | .vaonLoss => true
  | .resetNAssert => true
  | .resetNRelease _ => true
  | .twilightEnd _ => true
  | .coreCollimationEnd _ => true
  | .linkCollimationEnd => true
  | .firstLightEnd => true
  | .trackingEntry => true
  | .bringupTimeout => true
  | .pmbusPoll _ _ => true
  | .railPowerGood rail => decide (rail < 14)
  | .railFault rail => decide (rail < 14)
  | .quotaEval tile => decide (tile < 512)
  | .tileGate => true
  | .tileWakeStart phys => decide (phys < 576)
  | .tileWakeDone phys _ => decide (phys < 576)
  | .powerCapEval => true
  | .railLimitEval _ => true
  | .fcstFrame link forecast => decide (link < 5) && decide (forecast < 256)
  | .tileDroop phys volts => decide (phys < 576) && decide (volts < 1024)
  | .trimOpen phys => decide (phys < 576)
  | .trimShort phys => decide (phys < 576)
  | .trimOutOfReg phys => decide (phys < 576)
  | .sensorSample sensor _ => decide (sensor < 1152)
  | .thermalReqInterval => true
  | .layerModelEval _ _ => true
  | .fallbackEval _ => true
  | .thmTrip sensor _ => decide (sensor < 1152)
  | .thmRestart => true
  | .watchdogFeed _ => true
  | .mgcStopped => true
  | .mgcRestartDone => true
  | .errnTimerEnd => true
  | .errnHoldWrite _ => true
  | .collectorSelf _ => true
  | .refclkLost tower => decide (tower < 4)
  | .rollbackAdvanced => true
  | .logCommit _ => true
  | .logCompaction => true
  | .changeFlush _ => true
  | .coldNextWrite _ _ => true
  | .svcBtnShortPress => true
  | .svcBtnLongPress => true
  | .ledFrame => true
  | .bypass _ => true
  | .idcode => true
  | .samplePreload _ _ => true
  | .extest _ _ => true
  | .internalResetEnd => true
  | .managementCoreStops => true
  | .portTrainsAgain port => portIndex port
  | .deltaApplyEnd => true
  | .logCompactionEnd => true
  | .syncInterval => true

end Sys2Proof
end

