-- ==== Sys2Proof/Laws/PerInstr.lean ====
section
/-!
SUPPORT. A well-formed command names only units the device has, stated command by command.
-/
namespace Sys2Proof.Laws.Wf

/-- The bounded numbers a command names, each with how many units of that kind there are (or how many values its field has).
A port, an arbiter's target, a patrol's store and a frame have checks of their own in WellFormed. -/
def named : Instr → List (Nat × Nat)
  | .registerWrite _ _ _ => []
  | .pairLoRead _ => []
  | .captureRearm _ _ => []
  | .minRecorderRearm _ _ => []
  | .spineBurstArrive tile _ _ _ _ => [(tile, 512)]
  | .resentBurstArrive tile _ _ _ => [(tile, 512)]
  | .spineBurstDeliver tile _ => [(tile, 512)]
  | .agingEval phys _ => [(phys, 576)]
  | .layerPllSwitch tower layer => [(tower, 4), (layer, 8)]
  | .layerPllLost tower layer => [(tower, 4), (layer, 8)]
  | .layerReq tower _ _ => [(tower, 4)]
  | .partitionReq tower _ _ => [(tower, 4)]
  | .layerResetDone tower layer => [(tower, 4), (layer, 8)]
  | .partitionResetDone tower => [(tower, 4)]
  | .pauseFrameBoundary => []
  | .pauseSlotBegin => []
  | .pauseSlotEnd => []
  | .epochMark => []
  | .bundleFetch tile => [(tile, 512)]
  | .bundleRefetch tile => [(tile, 512)]
  | .arraySlot tile => [(tile, 512)]
  | .heldArrayIssue tile => [(tile, 512)]
  | .gather tile => [(tile, 512)]
  | .segEnd tile => [(tile, 512)]
  | .load tile => [(tile, 512)]
  | .store tile => [(tile, 512)]
  | .coadd tile => [(tile, 512)]
  | .mesh tile => [(tile, 512)]
  | .turn tile => [(tile, 512)]
  | .send tile => [(tile, 512)]
  | .expect tile => [(tile, 512)]
  | .coll tile => [(tile, 512)]
  | .launch tile => [(tile, 512)]
  | .join tile => [(tile, 512)]
  | .meshLand _ => []
  | .moverLand _ => []
  | .moverAccepted _ => []
  | .sendCopyEnd _ => []
  | .heldSendCopy _ => []
  | .heldLandingRelease _ => []
  | .slackOverrun _ => []
  | .stallTimeout => []
  | .voteEntry => []
  | .arrayPassComplete tile => [(tile, 512)]
  | .accumDrainComplete tile => [(tile, 512)]
  | .arrayOpComplete tile => [(tile, 512)]
  | .arrayFaultDetect tile _ => [(tile, 512)]
  | .arrayRerunStart tile => [(tile, 512)]
  | .faultWindowEnd tile => [(tile, 512)]
  | .taskResident tile => [(tile, 512)]
  | .taskEnd tile _ => [(tile, 512)]
  | .globalLoadReturn tile slot => [(tile, 512), (slot, 32)]
  | .globalStoreAccepted tile slot => [(tile, 512), (slot, 32)]
  | .lockStall tile slot => [(tile, 512), (slot, 32)]
  | .barrierTimeout tile slot => [(tile, 512), (slot, 32)]
  | .namedBarrierComplete id => [(id, 64)]
  | .arrayOwnershipGrant tile => [(tile, 512)]
  | .lregParity tile slot lane => [(tile, 512), (slot, 32), (lane, 32)]
  | .nop tile slot _ => [(tile, 512), (slot, 32)]
  | .exit tile slot _ => [(tile, 512), (slot, 32)]
  | .bra tile slot _ => [(tile, 512), (slot, 32)]
  | .brs tile slot _ => [(tile, 512), (slot, 32)]
  | .yield tile slot _ => [(tile, 512), (slot, 32)]
  | .rdsr tile slot _ => [(tile, 512), (slot, 32)]
  | .push tile slot _ => [(tile, 512), (slot, 32)]
  | .brk tile slot _ => [(tile, 512), (slot, 32)]
  | .rcv tile slot _ => [(tile, 512), (slot, 32)]
  | .pop tile slot _ => [(tile, 512), (slot, 32)]
  | .any tile slot _ => [(tile, 512), (slot, 32)]
  | .all tile slot _ => [(tile, 512), (slot, 32)]
  | .mask tile slot _ => [(tile, 512), (slot, 32)]
  | .take tile slot _ => [(tile, 512), (slot, 32)]
  | .give tile slot _ => [(tile, 512), (slot, 32)]
  | .barg tile slot _ => [(tile, 512), (slot, 32)]
  | .bart tile slot _ => [(tile, 512), (slot, 32)]
  | .barn tile slot _ => [(tile, 512), (slot, 32)]
  | .macq tile slot _ => [(tile, 512), (slot, 32)]
  | .mrel tile slot _ => [(tile, 512), (slot, 32)]
  | .mwld tile slot _ => [(tile, 512), (slot, 32)]
  | .mwsw tile slot _ => [(tile, 512), (slot, 32)]
  | .mma tile slot _ => [(tile, 512), (slot, 32)]
  | .mma4 tile slot _ => [(tile, 512), (slot, 32)]
  | .ld tile slot _ => [(tile, 512), (slot, 32)]
  | .st tile slot _ => [(tile, 512), (slot, 32)]
  | .lds tile slot _ => [(tile, 512), (slot, 32)]
  | .sts tile slot _ => [(tile, 512), (slot, 32)]
  | .aadd tile slot _ => [(tile, 512), (slot, 32)]
  | .amax tile slot _ => [(tile, 512), (slot, 32)]
  | .acas tile slot _ => [(tile, 512), (slot, 32)]
  | .fenceRelease tile slot _ => [(tile, 512), (slot, 32)]
  | .fenceAcquire tile slot _ => [(tile, 512), (slot, 32)]
  | .fenceFull tile slot _ => [(tile, 512), (slot, 32)]
  | .pref tile slot _ => [(tile, 512), (slot, 32)]
  | .fadd tile slot _ => [(tile, 512), (slot, 32)]
  | .fsub tile slot _ => [(tile, 512), (slot, 32)]
  | .fmul tile slot _ => [(tile, 512), (slot, 32)]
  | .ffma tile slot _ => [(tile, 512), (slot, 32)]
  | .fmin tile slot _ => [(tile, 512), (slot, 32)]
  | .fmax tile slot _ => [(tile, 512), (slot, 32)]
  | .fcmp tile slot _ => [(tile, 512), (slot, 32)]
  | .frcp tile slot _ => [(tile, 512), (slot, 32)]
  | .frsq tile slot _ => [(tile, 512), (slot, 32)]
  | .fexp2 tile slot _ => [(tile, 512), (slot, 32)]
  | .flog2 tile slot _ => [(tile, 512), (slot, 32)]
  | .fdiv tile slot _ => [(tile, 512), (slot, 32)]
  | .cvtf tile slot _ => [(tile, 512), (slot, 32)]
  | .cvtn tile slot _ => [(tile, 512), (slot, 32)]
  | .i2f tile slot _ => [(tile, 512), (slot, 32)]
  | .f2i tile slot _ => [(tile, 512), (slot, 32)]
  | .iadd tile slot _ => [(tile, 512), (slot, 32)]
  | .isub tile slot _ => [(tile, 512), (slot, 32)]
  | .imul tile slot _ => [(tile, 512), (slot, 32)]
  | .imad tile slot _ => [(tile, 512), (slot, 32)]
  | .and tile slot _ => [(tile, 512), (slot, 32)]
  | .or tile slot _ => [(tile, 512), (slot, 32)]
  | .xor tile slot _ => [(tile, 512), (slot, 32)]
  | .shl tile slot _ => [(tile, 512), (slot, 32)]
  | .shr tile slot _ => [(tile, 512), (slot, 32)]
  | .sar tile slot _ => [(tile, 512), (slot, 32)]
  | .imin tile slot _ => [(tile, 512), (slot, 32)]
  | .imax tile slot _ => [(tile, 512), (slot, 32)]
  | .icmp tile slot _ => [(tile, 512), (slot, 32)]
  | .sel tile slot _ => [(tile, 512), (slot, 32)]
  | .mov tile slot _ => [(tile, 512), (slot, 32)]
  | .movi tile slot _ => [(tile, 512), (slot, 32)]
  | .shfl tile slot _ => [(tile, 512), (slot, 32)]
  | .sadd tile slot _ => [(tile, 512), (slot, 32)]
  | .ssub tile slot _ => [(tile, 512), (slot, 32)]
  | .smul tile slot _ => [(tile, 512), (slot, 32)]
  | .sand tile slot _ => [(tile, 512), (slot, 32)]
  | .sor tile slot _ => [(tile, 512), (slot, 32)]
  | .sxor tile slot _ => [(tile, 512), (slot, 32)]
  | .sshl tile slot _ => [(tile, 512), (slot, 32)]
  | .sshr tile slot _ => [(tile, 512), (slot, 32)]
  | .ssar tile slot _ => [(tile, 512), (slot, 32)]
  | .smin tile slot _ => [(tile, 512), (slot, 32)]
  | .smax tile slot _ => [(tile, 512), (slot, 32)]
  | .scmp tile slot _ => [(tile, 512), (slot, 32)]
  | .smov tile slot _ => [(tile, 512), (slot, 32)]
  | .smovi tile slot _ => [(tile, 512), (slot, 32)]
  | .reservedInstruction tile slot _ => [(tile, 512), (slot, 32)]
  | .dbgCtlHalt tile _ _ => [(tile, 512)]
  | .dbgCtlStep tile _ _ => [(tile, 512)]
  | .dbgCtlResume tile _ _ => [(tile, 512)]
  | .debugHaltEnter => []
  | .dbgDataWrite tile _ _ => [(tile, 512)]
  | .sliceAccess slice => [(slice, 192)]
  | .sliceMissFill slice => [(slice, 192)]
  | .coaddFragment slice => [(slice, 192)]
  | .overflowCoaddComplete slice => [(slice, 192)]
  | .thrashWindowEnd slice => [(slice, 192)]
  | .streakStreamEnd slice => [(slice, 192)]
  | .updateEntryDone _ => []
  | .tagLost slice set way => [(slice, 192), (set, 32768), (way, 16)]
  | .sliceFold slice => [(slice, 192)]
  | .perBankRefresh chan => [(chan, 192)]
  | .pkgTempPoll pkg _ _ => [(pkg, 24)]
  | .channelTrained chan _ _ _ => [(chan, 192)]
  | .chTimeout chan => [(chan, 192)]
  | .spreadCopyDone chan => [(chan, 192)]
  | .lampStart chan _ _ => [(chan, 192)]
  | .lampStop chan _ _ => [(chan, 192)]
  | .lampDone chan _ => [(chan, 192)]
  | .arbiterGrant _ => []
  | .heldRequestIssue cls _ band => [(cls, 6), (band, 8)]
  | .etaHint _ => []
  | .transactionResend cls _ band => [(cls, 6), (band, 8)]
  | .lockedSequenceBreak _ => []
  | .guaranteeScaled => []
  | .pageRecoveryDone _ => []
  | .patrolVisit _ => []
  | .writeRaw _ _ => []
  | .readRaw _ _ => []
  | .readDecode _ _ => []
  | .recoverPage _ _ => []
  | .frameReceive _ _ => []
  | .blockReceive _ blk => [(blk.stream, 2 ^ 16)]
  | .blockTransmit _ => []
  | .nakReceive _ blk => [(blk.stream, 2 ^ 16)]
  | .nakRepeat _ => []
  | .expectArrivalPass _ => []
  | .replayHoldExpire _ => []
  | .gateEntryExpire _ => []
  | .collComplete _ => []
  | .portTrainingDone _ _ _ => []
  | .portDown _ => []
  | .cageInsert group _ => [(group, 49)]
  | .cageUnplug group => [(group, 49)]
  | .synceSourceFail => []
  | .ptpSync _ _ => []
  | .timeHoldover => []
  | .linkMacsec _ => []
  | .storageReadDone _ => []
  | .storageError _ => []
  | .snapshotWriteDone => []
  | .telemetryExport => []
  | .up frame => [(frame.sender, 2 ^ 16)]
  | .down frame => [(frame.sender, 2 ^ 16)]
  | .commitWorkEnd => []
  | .commitLate => []
  | .closeUpSend => []
  | .closeUp frame => [(frame.sender, 2 ^ 16)]
  | .closeDown frame => [(frame.sender, 2 ^ 16)]
  | .voteTimeoutExpire => []
  | .voteResendExpire => []
  | .voteLost => []
  | .rollbackComplete _ _ => []
  | .slew => []
  | .spareJoin _ _ => []
  | .ckptLoadDone _ _ => []
  | .imgValidationDone => []
  | .imgCommitDone => []
  | .mccFrame _ _ => []
  | .mccFragmentTimeout => []
  | .sessionMkaTimeout => []
  | .hello req => [(req.session, 2 ^ 32), (req.seq, 2 ^ 64)]
  | .kex req => [(req.session, 2 ^ 32), (req.seq, 2 ^ 64)]
  | .auth req => [(req.session, 2 ^ 32), (req.seq, 2 ^ 64)]
  | .close req => [(req.session, 2 ^ 32), (req.seq, 2 ^ 64)]
  | .ping req => [(req.session, 2 ^ 32), (req.seq, 2 ^ 64)]
  | .attest req => [(req.session, 2 ^ 32), (req.seq, 2 ^ 64)]
  | .identity req => [(req.session, 2 ^ 32), (req.seq, 2 ^ 64)]
  | .imgPart req => [(req.session, 2 ^ 32), (req.seq, 2 ^ 64)]
  | .imgValidate req => [(req.session, 2 ^ 32), (req.seq, 2 ^ 64)]
  | .imgCommit req => [(req.session, 2 ^ 32), (req.seq, 2 ^ 64)]
  | .imgDiscard req => [(req.session, 2 ^ 32), (req.seq, 2 ^ 64)]
  | .imgStatus req => [(req.session, 2 ^ 32), (req.seq, 2 ^ 64)]
  | .bulkConnect req => [(req.session, 2 ^ 32), (req.seq, 2 ^ 64)]
  | .imgWindow req => [(req.session, 2 ^ 32), (req.seq, 2 ^ 64)]
  | .bulkWrite _ _ _ => []
  | .bulkRead _ _ _ => []
  | .jobStart req => [(req.session, 2 ^ 32), (req.seq, 2 ^ 64)]
  | .jobResume req => [(req.session, 2 ^ 32), (req.seq, 2 ^ 64)]
  | .jobStop req => [(req.session, 2 ^ 32), (req.seq, 2 ^ 64)]
  | .jobStatus req => [(req.session, 2 ^ 32), (req.seq, 2 ^ 64)]
  | .spareTake req => [(req.session, 2 ^ 32), (req.seq, 2 ^ 64)]
  | .drain req => [(req.session, 2 ^ 32), (req.seq, 2 ^ 64)]
  | .power req => [(req.session, 2 ^ 32), (req.seq, 2 ^ 64)]
  | .pause req => [(req.session, 2 ^ 32), (req.seq, 2 ^ 64)]
  | .resultRead req => [(req.session, 2 ^ 32), (req.seq, 2 ^ 64)]
  | .resultWindow req => [(req.session, 2 ^ 32), (req.seq, 2 ^ 64)]
  | .slotsList req => [(req.session, 2 ^ 32), (req.seq, 2 ^ 64)]
  | .regRead req => [(req.session, 2 ^ 32), (req.seq, 2 ^ 64)]
  | .eventsRead req => [(req.session, 2 ^ 32), (req.seq, 2 ^ 64)]
  | .logRead req => [(req.session, 2 ^ 32), (req.seq, 2 ^ 64)]
  | .fwRecord req => [(req.session, 2 ^ 32), (req.seq, 2 ^ 64)]
  | .fwCommit req => [(req.session, 2 ^ 32), (req.seq, 2 ^ 64)]
  | .changeRead req => [(req.session, 2 ^ 32), (req.seq, 2 ^ 64)]
  | .dbgHalt req => [(req.session, 2 ^ 32), (req.seq, 2 ^ 64)]
  | .dbgStep req => [(req.session, 2 ^ 32), (req.seq, 2 ^ 64)]
  | .dbgResume req => [(req.session, 2 ^ 32), (req.seq, 2 ^ 64)]
  | .dbgRead req => [(req.session, 2 ^ 32), (req.seq, 2 ^ 64)]
  | .dbgWrite req => [(req.session, 2 ^ 32), (req.seq, 2 ^ 64)]
  | .dbgWindow req => [(req.session, 2 ^ 32), (req.seq, 2 ^ 64)]
  | .regWrite req => [(req.session, 2 ^ 32), (req.seq, 2 ^ 64)]
  | .partitionReset req => [(req.session, 2 ^ 32), (req.seq, 2 ^ 64)]
  | .layerReset req => [(req.session, 2 ^ 32), (req.seq, 2 ^ 64)]
  | .shutter req => [(req.session, 2 ^ 32), (req.seq, 2 ^ 64)]
  | .reopen req => [(req.session, 2 ^ 32), (req.seq, 2 ^ 64)]
  | .lamp req => [(req.session, 2 ^ 32), (req.seq, 2 ^ 64)]
  | .lampResult req => [(req.session, 2 ^ 32), (req.seq, 2 ^ 64)]
  | .locate req => [(req.session, 2 ^ 32), (req.seq, 2 ^ 64)]
  | .vaonUp _ => []
  | .vaonLoss => []
  | .resetNAssert => []
  | .resetNRelease _ => []
  | .twilightEnd _ => []
  | .coreCollimationEnd _ => []
  | .linkCollimationEnd => []
  | .firstLightEnd => []
  | .trackingEntry => []
  | .bringupTimeout => []
  | .pmbusPoll _ _ => []
  | .railPowerGood rail => [(rail, 14)]
  | .railFault rail => [(rail, 14)]
  | .quotaEval tile => [(tile, 512)]
  | .tileGate => []
  | .tileWakeStart phys => [(phys, 576)]
  | .tileWakeDone phys _ => [(phys, 576)]
  | .powerCapEval => []
  | .railLimitEval _ => []
  | .fcstFrame link forecast => [(link, 5), (forecast, 256)]
  | .tileDroop phys volts => [(phys, 576), (volts, 1024)]
  | .trimOpen phys => [(phys, 576)]
  | .trimShort phys => [(phys, 576)]
  | .trimOutOfReg phys => [(phys, 576)]
  | .sensorSample sensor _ => [(sensor, 1152)]
  | .thermalReqInterval => []
  | .layerModelEval _ _ => []
  | .fallbackEval _ => []
  | .thmTrip sensor _ => [(sensor, 1152)]
  | .thmRestart => []
  | .watchdogFeed _ => []
  | .mgcStopped => []
  | .mgcRestartDone => []
  | .errnTimerEnd => []
  | .errnHoldWrite _ => []
  | .collectorSelf _ => []
  | .refclkLost tower => [(tower, 4)]
  | .rollbackAdvanced => []
  | .logCommit _ => []
  | .logCompaction => []
  | .changeFlush _ => []
  | .coldNextWrite _ _ => []
  | .svcBtnShortPress => []
  | .svcBtnLongPress => []
  | .ledFrame => []
  | .bypass _ => []
  | .idcode => []
  | .samplePreload _ _ => []
  | .extest _ _ => []
  | .internalResetEnd => []
  | .managementCoreStops => []
  | .portTrainsAgain _ => []
  | .deltaApplyEnd => []
  | .logCompactionEnd => []
  | .syncInterval => []

/-- A well-formed command's numbers are in bounds. -/
def Statement (i : Instr) : Prop := i.wf = true → ∀ p ∈ named i, p.1 < p.2

theorem noBound (P : Prop) : P → ∀ p ∈ ([] : List (Nat × Nat)), p.1 < p.2 := by simp
theorem oneBound (a n : Nat) : decide (a < n) = true → ∀ p ∈ [(a, n)], p.1 < p.2 := by simp
theorem twoBounds (a n b m : Nat) : (decide (a < n) && decide (b < m)) = true → ∀ p ∈ [(a, n), (b, m)], p.1 < p.2 := by
  simp +contextual
theorem threeBounds (a n b m c k : Nat) : (decide (a < n) && decide (b < m) && decide (c < k)) = true →
    ∀ p ∈ [(a, n), (b, m), (c, k)], p.1 < p.2 := by
  simp +contextual
theorem reqBounds (r : MccReq) : r.wf = true → ∀ p ∈ [(r.session, 2 ^ 32), (r.seq, 2 ^ 64)], p.1 < p.2 := by
  simp +contextual [MccReq.wf]
theorem blkBounds (q : Bool) (b : BlockFrame) : (q && b.wf) = true → ∀ p ∈ [(b.stream, 2 ^ 16)], p.1 < p.2 := by
  simp +contextual [BlockFrame.wf]
theorem voteBounds (v : VoteFrame) : v.wf = true → ∀ p ∈ [(v.sender, 2 ^ 16)], p.1 < p.2 := by
  simp +contextual [VoteFrame.wf]

theorem registerWrite (x0 : Nat) (x1 : W32) (x2 : Nat) : Statement (.registerWrite x0 x1 x2) := noBound _
theorem pairLoRead (x0 : Nat) : Statement (.pairLoRead x0) := noBound _
theorem captureRearm (x0 : Nat) (x1 : W32) : Statement (.captureRearm x0 x1) := noBound _
theorem minRecorderRearm (x0 : Nat) (x1 : W32) : Statement (.minRecorderRearm x0 x1) := noBound _
theorem spineBurstArrive (x0 : Nat) (x1 : SpineEnd) (x2 : Nat) (x3 : List Byte) (x4 : BitVec 16) :
    Statement (.spineBurstArrive x0 x1 x2 x3 x4) := oneBound _ _
theorem resentBurstArrive (x0 : Nat) (x1 : SpineEnd) (x2 : List Byte) (x3 : BitVec 16) :
    Statement (.resentBurstArrive x0 x1 x2 x3) := oneBound _ _
theorem spineBurstDeliver (x0 : Nat) (x1 : SpineEnd) : Statement (.spineBurstDeliver x0 x1) := oneBound _ _
theorem agingEval (x0 : Nat) (x1 : BitVec 4) : Statement (.agingEval x0 x1) := oneBound _ _
theorem layerPllSwitch (x0 x1 : Nat) : Statement (.layerPllSwitch x0 x1) := twoBounds _ _ _ _
theorem layerPllLost (x0 x1 : Nat) : Statement (.layerPllLost x0 x1) := twoBounds _ _ _ _
theorem layerReq (x0 : Nat) (x1 : W32) (x2 : Nat) : Statement (.layerReq x0 x1 x2) := oneBound _ _
theorem partitionReq (x0 : Nat) (x1 : W32) (x2 : Nat) : Statement (.partitionReq x0 x1 x2) := oneBound _ _
theorem layerResetDone (x0 x1 : Nat) : Statement (.layerResetDone x0 x1) := twoBounds _ _ _ _
theorem partitionResetDone (x0 : Nat) : Statement (.partitionResetDone x0) := oneBound _ _
theorem pauseFrameBoundary : Statement (.pauseFrameBoundary) := noBound _
theorem pauseSlotBegin : Statement (.pauseSlotBegin) := noBound _
theorem pauseSlotEnd : Statement (.pauseSlotEnd) := noBound _
theorem epochMark : Statement (.epochMark) := noBound _
theorem bundleFetch (x0 : Nat) : Statement (.bundleFetch x0) := oneBound _ _
theorem bundleRefetch (x0 : Nat) : Statement (.bundleRefetch x0) := oneBound _ _
theorem arraySlot (x0 : Nat) : Statement (.arraySlot x0) := oneBound _ _
theorem heldArrayIssue (x0 : Nat) : Statement (.heldArrayIssue x0) := oneBound _ _
theorem gather (x0 : Nat) : Statement (.gather x0) := oneBound _ _
theorem segEnd (x0 : Nat) : Statement (.segEnd x0) := oneBound _ _
theorem load (x0 : Nat) : Statement (.load x0) := oneBound _ _
theorem store (x0 : Nat) : Statement (.store x0) := oneBound _ _
theorem coadd (x0 : Nat) : Statement (.coadd x0) := oneBound _ _
theorem mesh (x0 : Nat) : Statement (.mesh x0) := oneBound _ _
theorem turn (x0 : Nat) : Statement (.turn x0) := oneBound _ _
theorem send (x0 : Nat) : Statement (.send x0) := oneBound _ _
theorem expect (x0 : Nat) : Statement (.expect x0) := oneBound _ _
theorem coll (x0 : Nat) : Statement (.coll x0) := oneBound _ _
theorem launch (x0 : Nat) : Statement (.launch x0) := oneBound _ _
theorem join (x0 : Nat) : Statement (.join x0) := oneBound _ _
theorem meshLand (x0 : Nat) : Statement (.meshLand x0) := noBound _
theorem moverLand (x0 : Nat) : Statement (.moverLand x0) := noBound _
theorem moverAccepted (x0 : Nat) : Statement (.moverAccepted x0) := noBound _
theorem sendCopyEnd (x0 : Nat) : Statement (.sendCopyEnd x0) := noBound _
theorem heldSendCopy (x0 : Nat) : Statement (.heldSendCopy x0) := noBound _
theorem heldLandingRelease (x0 : Nat) : Statement (.heldLandingRelease x0) := noBound _
theorem slackOverrun (x0 : Nat) : Statement (.slackOverrun x0) := noBound _
theorem stallTimeout : Statement (.stallTimeout) := noBound _
theorem voteEntry : Statement (.voteEntry) := noBound _
theorem arrayPassComplete (x0 : Nat) : Statement (.arrayPassComplete x0) := oneBound _ _
theorem accumDrainComplete (x0 : Nat) : Statement (.accumDrainComplete x0) := oneBound _ _
theorem arrayOpComplete (x0 : Nat) : Statement (.arrayOpComplete x0) := oneBound _ _
theorem arrayFaultDetect (x0 : Nat) (x1 : List ArrayFault) : Statement (.arrayFaultDetect x0 x1) := oneBound _ _
theorem arrayRerunStart (x0 : Nat) : Statement (.arrayRerunStart x0) := oneBound _ _
theorem faultWindowEnd (x0 : Nat) : Statement (.faultWindowEnd x0) := oneBound _ _
theorem taskResident (x0 : Nat) : Statement (.taskResident x0) := oneBound _ _
theorem taskEnd (x0 x1 : Nat) : Statement (.taskEnd x0 x1) := oneBound _ _
theorem globalLoadReturn (x0 x1 : Nat) : Statement (.globalLoadReturn x0 x1) := twoBounds _ _ _ _
theorem globalStoreAccepted (x0 x1 : Nat) : Statement (.globalStoreAccepted x0 x1) := twoBounds _ _ _ _
theorem lockStall (x0 x1 : Nat) : Statement (.lockStall x0 x1) := twoBounds _ _ _ _
theorem barrierTimeout (x0 x1 : Nat) : Statement (.barrierTimeout x0 x1) := twoBounds _ _ _ _
theorem namedBarrierComplete (x0 : Nat) : Statement (.namedBarrierComplete x0) := oneBound _ _
theorem arrayOwnershipGrant (x0 : Nat) : Statement (.arrayOwnershipGrant x0) := oneBound _ _
theorem lregParity (x0 x1 x2 : Nat) : Statement (.lregParity x0 x1 x2) := threeBounds _ _ _ _ _ _
theorem nop (x0 x1 : Nat) (x2 : IForm) : Statement (.nop x0 x1 x2) := twoBounds _ _ _ _
theorem exit (x0 x1 : Nat) (x2 : CForm) : Statement (.exit x0 x1 x2) := twoBounds _ _ _ _
theorem bra (x0 x1 : Nat) (x2 : CForm) : Statement (.bra x0 x1 x2) := twoBounds _ _ _ _
theorem brs (x0 x1 : Nat) (x2 : CForm) : Statement (.brs x0 x1 x2) := twoBounds _ _ _ _
theorem yield (x0 x1 : Nat) (x2 : CForm) : Statement (.yield x0 x1 x2) := twoBounds _ _ _ _
theorem rdsr (x0 x1 : Nat) (x2 : IForm) : Statement (.rdsr x0 x1 x2) := twoBounds _ _ _ _
theorem push (x0 x1 : Nat) (x2 : CForm) : Statement (.push x0 x1 x2) := twoBounds _ _ _ _
theorem brk (x0 x1 : Nat) (x2 : CForm) : Statement (.brk x0 x1 x2) := twoBounds _ _ _ _
theorem rcv (x0 x1 : Nat) (x2 : CForm) : Statement (.rcv x0 x1 x2) := twoBounds _ _ _ _
theorem pop (x0 x1 : Nat) (x2 : CForm) : Statement (.pop x0 x1 x2) := twoBounds _ _ _ _
theorem any (x0 x1 : Nat) (x2 : RForm) : Statement (.any x0 x1 x2) := twoBounds _ _ _ _
theorem all (x0 x1 : Nat) (x2 : RForm) : Statement (.all x0 x1 x2) := twoBounds _ _ _ _
theorem mask (x0 x1 : Nat) (x2 : RForm) : Statement (.mask x0 x1 x2) := twoBounds _ _ _ _
theorem take (x0 x1 : Nat) (x2 : MForm) : Statement (.take x0 x1 x2) := twoBounds _ _ _ _
theorem give (x0 x1 : Nat) (x2 : MForm) : Statement (.give x0 x1 x2) := twoBounds _ _ _ _
theorem barg (x0 x1 : Nat) (x2 : IForm) : Statement (.barg x0 x1 x2) := twoBounds _ _ _ _
theorem bart (x0 x1 : Nat) (x2 : IForm) : Statement (.bart x0 x1 x2) := twoBounds _ _ _ _
theorem barn (x0 x1 : Nat) (x2 : IForm) : Statement (.barn x0 x1 x2) := twoBounds _ _ _ _
theorem macq (x0 x1 : Nat) (x2 : CForm) : Statement (.macq x0 x1 x2) := twoBounds _ _ _ _
theorem mrel (x0 x1 : Nat) (x2 : CForm) : Statement (.mrel x0 x1 x2) := twoBounds _ _ _ _
theorem mwld (x0 x1 : Nat) (x2 : MForm) : Statement (.mwld x0 x1 x2) := twoBounds _ _ _ _
theorem mwsw (x0 x1 : Nat) (x2 : CForm) : Statement (.mwsw x0 x1 x2) := twoBounds _ _ _ _
theorem mma (x0 x1 : Nat) (x2 : RForm) : Statement (.mma x0 x1 x2) := twoBounds _ _ _ _
theorem mma4 (x0 x1 : Nat) (x2 : RForm) : Statement (.mma4 x0 x1 x2) := twoBounds _ _ _ _
theorem ld (x0 x1 : Nat) (x2 : MForm) : Statement (.ld x0 x1 x2) := twoBounds _ _ _ _
theorem st (x0 x1 : Nat) (x2 : MForm) : Statement (.st x0 x1 x2) := twoBounds _ _ _ _
theorem lds (x0 x1 : Nat) (x2 : MForm) : Statement (.lds x0 x1 x2) := twoBounds _ _ _ _
theorem sts (x0 x1 : Nat) (x2 : MForm) : Statement (.sts x0 x1 x2) := twoBounds _ _ _ _
theorem aadd (x0 x1 : Nat) (x2 : MForm) : Statement (.aadd x0 x1 x2) := twoBounds _ _ _ _
theorem amax (x0 x1 : Nat) (x2 : MForm) : Statement (.amax x0 x1 x2) := twoBounds _ _ _ _
theorem acas (x0 x1 : Nat) (x2 : MForm) : Statement (.acas x0 x1 x2) := twoBounds _ _ _ _
theorem fenceRelease (x0 x1 : Nat) (x2 : IForm) : Statement (.fenceRelease x0 x1 x2) := twoBounds _ _ _ _
theorem fenceAcquire (x0 x1 : Nat) (x2 : IForm) : Statement (.fenceAcquire x0 x1 x2) := twoBounds _ _ _ _
theorem fenceFull (x0 x1 : Nat) (x2 : IForm) : Statement (.fenceFull x0 x1 x2) := twoBounds _ _ _ _
theorem pref (x0 x1 : Nat) (x2 : MForm) : Statement (.pref x0 x1 x2) := twoBounds _ _ _ _
theorem fadd (x0 x1 : Nat) (x2 : RForm) : Statement (.fadd x0 x1 x2) := twoBounds _ _ _ _
theorem fsub (x0 x1 : Nat) (x2 : RForm) : Statement (.fsub x0 x1 x2) := twoBounds _ _ _ _
theorem fmul (x0 x1 : Nat) (x2 : RForm) : Statement (.fmul x0 x1 x2) := twoBounds _ _ _ _
theorem ffma (x0 x1 : Nat) (x2 : RForm) : Statement (.ffma x0 x1 x2) := twoBounds _ _ _ _
theorem fmin (x0 x1 : Nat) (x2 : RForm) : Statement (.fmin x0 x1 x2) := twoBounds _ _ _ _
theorem fmax (x0 x1 : Nat) (x2 : RForm) : Statement (.fmax x0 x1 x2) := twoBounds _ _ _ _
theorem fcmp (x0 x1 : Nat) (x2 : RForm) : Statement (.fcmp x0 x1 x2) := twoBounds _ _ _ _
theorem frcp (x0 x1 : Nat) (x2 : RForm) : Statement (.frcp x0 x1 x2) := twoBounds _ _ _ _
theorem frsq (x0 x1 : Nat) (x2 : RForm) : Statement (.frsq x0 x1 x2) := twoBounds _ _ _ _
theorem fexp2 (x0 x1 : Nat) (x2 : RForm) : Statement (.fexp2 x0 x1 x2) := twoBounds _ _ _ _
theorem flog2 (x0 x1 : Nat) (x2 : RForm) : Statement (.flog2 x0 x1 x2) := twoBounds _ _ _ _
theorem fdiv (x0 x1 : Nat) (x2 : RForm) : Statement (.fdiv x0 x1 x2) := twoBounds _ _ _ _
theorem cvtf (x0 x1 : Nat) (x2 : RForm) : Statement (.cvtf x0 x1 x2) := twoBounds _ _ _ _
theorem cvtn (x0 x1 : Nat) (x2 : RForm) : Statement (.cvtn x0 x1 x2) := twoBounds _ _ _ _
theorem i2f (x0 x1 : Nat) (x2 : RForm) : Statement (.i2f x0 x1 x2) := twoBounds _ _ _ _
theorem f2i (x0 x1 : Nat) (x2 : RForm) : Statement (.f2i x0 x1 x2) := twoBounds _ _ _ _
theorem iadd (x0 x1 : Nat) (x2 : RForm) : Statement (.iadd x0 x1 x2) := twoBounds _ _ _ _
theorem isub (x0 x1 : Nat) (x2 : RForm) : Statement (.isub x0 x1 x2) := twoBounds _ _ _ _
theorem imul (x0 x1 : Nat) (x2 : RForm) : Statement (.imul x0 x1 x2) := twoBounds _ _ _ _
theorem imad (x0 x1 : Nat) (x2 : RForm) : Statement (.imad x0 x1 x2) := twoBounds _ _ _ _
theorem and (x0 x1 : Nat) (x2 : RForm) : Statement (.and x0 x1 x2) := twoBounds _ _ _ _
theorem or (x0 x1 : Nat) (x2 : RForm) : Statement (.or x0 x1 x2) := twoBounds _ _ _ _
theorem xor (x0 x1 : Nat) (x2 : RForm) : Statement (.xor x0 x1 x2) := twoBounds _ _ _ _
theorem shl (x0 x1 : Nat) (x2 : RForm) : Statement (.shl x0 x1 x2) := twoBounds _ _ _ _
theorem shr (x0 x1 : Nat) (x2 : RForm) : Statement (.shr x0 x1 x2) := twoBounds _ _ _ _
theorem sar (x0 x1 : Nat) (x2 : RForm) : Statement (.sar x0 x1 x2) := twoBounds _ _ _ _
theorem imin (x0 x1 : Nat) (x2 : RForm) : Statement (.imin x0 x1 x2) := twoBounds _ _ _ _
theorem imax (x0 x1 : Nat) (x2 : RForm) : Statement (.imax x0 x1 x2) := twoBounds _ _ _ _
theorem icmp (x0 x1 : Nat) (x2 : RForm) : Statement (.icmp x0 x1 x2) := twoBounds _ _ _ _
theorem sel (x0 x1 : Nat) (x2 : RForm) : Statement (.sel x0 x1 x2) := twoBounds _ _ _ _
theorem mov (x0 x1 : Nat) (x2 : RForm) : Statement (.mov x0 x1 x2) := twoBounds _ _ _ _
theorem movi (x0 x1 : Nat) (x2 : IForm) : Statement (.movi x0 x1 x2) := twoBounds _ _ _ _
theorem shfl (x0 x1 : Nat) (x2 : RForm) : Statement (.shfl x0 x1 x2) := twoBounds _ _ _ _
theorem sadd (x0 x1 : Nat) (x2 : RForm) : Statement (.sadd x0 x1 x2) := twoBounds _ _ _ _
theorem ssub (x0 x1 : Nat) (x2 : RForm) : Statement (.ssub x0 x1 x2) := twoBounds _ _ _ _
theorem smul (x0 x1 : Nat) (x2 : RForm) : Statement (.smul x0 x1 x2) := twoBounds _ _ _ _
theorem sand (x0 x1 : Nat) (x2 : RForm) : Statement (.sand x0 x1 x2) := twoBounds _ _ _ _
theorem sor (x0 x1 : Nat) (x2 : RForm) : Statement (.sor x0 x1 x2) := twoBounds _ _ _ _
theorem sxor (x0 x1 : Nat) (x2 : RForm) : Statement (.sxor x0 x1 x2) := twoBounds _ _ _ _
theorem sshl (x0 x1 : Nat) (x2 : RForm) : Statement (.sshl x0 x1 x2) := twoBounds _ _ _ _
theorem sshr (x0 x1 : Nat) (x2 : RForm) : Statement (.sshr x0 x1 x2) := twoBounds _ _ _ _
theorem ssar (x0 x1 : Nat) (x2 : RForm) : Statement (.ssar x0 x1 x2) := twoBounds _ _ _ _
theorem smin (x0 x1 : Nat) (x2 : RForm) : Statement (.smin x0 x1 x2) := twoBounds _ _ _ _
theorem smax (x0 x1 : Nat) (x2 : RForm) : Statement (.smax x0 x1 x2) := twoBounds _ _ _ _
theorem scmp (x0 x1 : Nat) (x2 : RForm) : Statement (.scmp x0 x1 x2) := twoBounds _ _ _ _
theorem smov (x0 x1 : Nat) (x2 : RForm) : Statement (.smov x0 x1 x2) := twoBounds _ _ _ _
theorem smovi (x0 x1 : Nat) (x2 : IForm) : Statement (.smovi x0 x1 x2) := twoBounds _ _ _ _
theorem reservedInstruction (x0 x1 : Nat) (x2 : W64) : Statement (.reservedInstruction x0 x1 x2) := twoBounds _ _ _ _
theorem dbgCtlHalt (x0 : Nat) (x1 : W32) (x2 : Nat) : Statement (.dbgCtlHalt x0 x1 x2) := oneBound _ _
theorem dbgCtlStep (x0 : Nat) (x1 : W32) (x2 : Nat) : Statement (.dbgCtlStep x0 x1 x2) := oneBound _ _
theorem dbgCtlResume (x0 : Nat) (x1 : W32) (x2 : Nat) : Statement (.dbgCtlResume x0 x1 x2) := oneBound _ _
theorem debugHaltEnter : Statement (.debugHaltEnter) := noBound _
theorem dbgDataWrite (x0 : Nat) (x1 : W32) (x2 : Nat) : Statement (.dbgDataWrite x0 x1 x2) := oneBound _ _
theorem sliceAccess (x0 : Nat) : Statement (.sliceAccess x0) := oneBound _ _
theorem sliceMissFill (x0 : Nat) : Statement (.sliceMissFill x0) := oneBound _ _
theorem coaddFragment (x0 : Nat) : Statement (.coaddFragment x0) := oneBound _ _
theorem overflowCoaddComplete (x0 : Nat) : Statement (.overflowCoaddComplete x0) := oneBound _ _
theorem thrashWindowEnd (x0 : Nat) : Statement (.thrashWindowEnd x0) := oneBound _ _
theorem streakStreamEnd (x0 : Nat) : Statement (.streakStreamEnd x0) := oneBound _ _
theorem updateEntryDone (x0 : Nat) : Statement (.updateEntryDone x0) := noBound _
theorem tagLost (x0 x1 x2 : Nat) : Statement (.tagLost x0 x1 x2) := threeBounds _ _ _ _ _ _
theorem sliceFold (x0 : Nat) : Statement (.sliceFold x0) := oneBound _ _
theorem perBankRefresh (x0 : Nat) : Statement (.perBankRefresh x0) := oneBound _ _
theorem pkgTempPoll (x0 : Nat) (x1 : Int) (x2 : Bool) : Statement (.pkgTempPoll x0 x1 x2) := oneBound _ _
theorem channelTrained (x0 : Nat) (x1 : TrainOutcome) (x2 x3 : Nat) : Statement (.channelTrained x0 x1 x2 x3) := oneBound _ _
theorem chTimeout (x0 : Nat) : Statement (.chTimeout x0) := oneBound _ _
theorem spreadCopyDone (x0 : Nat) : Statement (.spreadCopyDone x0) := oneBound _ _
theorem lampStart (x0 : Nat) (x1 : W32) (x2 : Nat) : Statement (.lampStart x0 x1 x2) := oneBound _ _
theorem lampStop (x0 : Nat) (x1 : W32) (x2 : Nat) : Statement (.lampStop x0 x1 x2) := oneBound _ _
theorem lampDone (x0 : Nat) (x1 : LampResult) : Statement (.lampDone x0 x1) := oneBound _ _
theorem arbiterGrant (x0 : ReqTarget) : Statement (.arbiterGrant x0) := noBound _
theorem heldRequestIssue (x0 x1 x2 : Nat) : Statement (.heldRequestIssue x0 x1 x2) := twoBounds _ _ _ _
theorem etaHint (x0 : ReqTarget) : Statement (.etaHint x0) := noBound _
theorem transactionResend (x0 x1 x2 : Nat) : Statement (.transactionResend x0 x1 x2) := twoBounds _ _ _ _
theorem lockedSequenceBreak (x0 : ReqTarget) : Statement (.lockedSequenceBreak x0) := noBound _
theorem guaranteeScaled : Statement (.guaranteeScaled) := noBound _
theorem pageRecoveryDone (x0 : Nat) : Statement (.pageRecoveryDone x0) := noBound _
theorem patrolVisit (x0 : PatrolStore) : Statement (.patrolVisit x0) := noBound _
theorem writeRaw (x0 : W32) (x1 : Nat) : Statement (.writeRaw x0 x1) := noBound _
theorem readRaw (x0 : W32) (x1 : Nat) : Statement (.readRaw x0 x1) := noBound _
theorem readDecode (x0 : W32) (x1 : Nat) : Statement (.readDecode x0 x1) := noBound _
theorem recoverPage (x0 : W32) (x1 : Nat) : Statement (.recoverPage x0 x1) := noBound _
theorem frameReceive (x0 : Nat) (x1 : EthFrame) : Statement (.frameReceive x0 x1) := noBound _
theorem blockReceive (x0 : Nat) (x1 : BlockFrame) : Statement (.blockReceive x0 x1) := blkBounds _ _
theorem blockTransmit (x0 : Nat) : Statement (.blockTransmit x0) := noBound _
theorem nakReceive (x0 : Nat) (x1 : BlockFrame) : Statement (.nakReceive x0 x1) := blkBounds _ _
theorem nakRepeat (x0 : Nat) : Statement (.nakRepeat x0) := noBound _
theorem expectArrivalPass (x0 : Nat) : Statement (.expectArrivalPass x0) := noBound _
theorem replayHoldExpire (x0 : Nat) : Statement (.replayHoldExpire x0) := noBound _
theorem gateEntryExpire (x0 : Nat) : Statement (.gateEntryExpire x0) := noBound _
theorem collComplete (x0 : Nat) : Statement (.collComplete x0) := noBound _
theorem portTrainingDone (x0 x1 : Nat) (x2 : Bool) : Statement (.portTrainingDone x0 x1 x2) := noBound _
theorem portDown (x0 : Nat) : Statement (.portDown x0) := noBound _
theorem cageInsert (x0 x1 : Nat) : Statement (.cageInsert x0 x1) := oneBound _ _
theorem cageUnplug (x0 : Nat) : Statement (.cageUnplug x0) := oneBound _ _
theorem synceSourceFail : Statement (.synceSourceFail) := noBound _
theorem ptpSync (x0 : Nat) (x1 : Int) : Statement (.ptpSync x0 x1) := noBound _
theorem timeHoldover : Statement (.timeHoldover) := noBound _
theorem linkMacsec (x0 : Nat) : Statement (.linkMacsec x0) := noBound _
theorem storageReadDone (x0 : List Byte) : Statement (.storageReadDone x0) := noBound _
theorem storageError (x0 : Bool) : Statement (.storageError x0) := noBound _
theorem snapshotWriteDone : Statement (.snapshotWriteDone) := noBound _
theorem telemetryExport : Statement (.telemetryExport) := noBound _
theorem up (x0 : VoteFrame) : Statement (.up x0) := voteBounds _
theorem down (x0 : VoteFrame) : Statement (.down x0) := voteBounds _
theorem commitWorkEnd : Statement (.commitWorkEnd) := noBound _
theorem commitLate : Statement (.commitLate) := noBound _
theorem closeUpSend : Statement (.closeUpSend) := noBound _
theorem closeUp (x0 : VoteFrame) : Statement (.closeUp x0) := voteBounds _
theorem closeDown (x0 : VoteFrame) : Statement (.closeDown x0) := voteBounds _
theorem voteTimeoutExpire : Statement (.voteTimeoutExpire) := noBound _
theorem voteResendExpire : Statement (.voteResendExpire) := noBound _
theorem voteLost : Statement (.voteLost) := noBound _
theorem rollbackComplete (x0 : List (Nat × List Byte)) (x1 : Bool) : Statement (.rollbackComplete x0 x1) := noBound _
theorem slew : Statement (.slew) := noBound _
theorem spareJoin (x0 : List (Nat × List Byte)) (x1 : Bool) : Statement (.spareJoin x0 x1) := noBound _
theorem ckptLoadDone (x0 : List (Nat × List Byte)) (x1 : Bool) : Statement (.ckptLoadDone x0 x1) := noBound _
theorem imgValidationDone : Statement (.imgValidationDone) := noBound _
theorem imgCommitDone : Statement (.imgCommitDone) := noBound _
theorem mccFrame (x0 : Bool) (x1 : List Byte) : Statement (.mccFrame x0 x1) := noBound _
theorem mccFragmentTimeout : Statement (.mccFragmentTimeout) := noBound _
theorem sessionMkaTimeout : Statement (.sessionMkaTimeout) := noBound _
theorem hello (x0 : MccReq) : Statement (.hello x0) := reqBounds _
theorem kex (x0 : MccReq) : Statement (.kex x0) := reqBounds _
theorem auth (x0 : MccReq) : Statement (.auth x0) := reqBounds _
theorem close (x0 : MccReq) : Statement (.close x0) := reqBounds _
theorem ping (x0 : MccReq) : Statement (.ping x0) := reqBounds _
theorem attest (x0 : MccReq) : Statement (.attest x0) := reqBounds _
theorem identity (x0 : MccReq) : Statement (.identity x0) := reqBounds _
theorem imgPart (x0 : MccReq) : Statement (.imgPart x0) := reqBounds _
theorem imgValidate (x0 : MccReq) : Statement (.imgValidate x0) := reqBounds _
theorem imgCommit (x0 : MccReq) : Statement (.imgCommit x0) := reqBounds _
theorem imgDiscard (x0 : MccReq) : Statement (.imgDiscard x0) := reqBounds _
theorem imgStatus (x0 : MccReq) : Statement (.imgStatus x0) := reqBounds _
theorem bulkConnect (x0 : MccReq) : Statement (.bulkConnect x0) := reqBounds _
theorem imgWindow (x0 : MccReq) : Statement (.imgWindow x0) := reqBounds _
theorem bulkWrite (x0 x1 : Nat) (x2 : List Byte) : Statement (.bulkWrite x0 x1 x2) := noBound _
theorem bulkRead (x0 x1 x2 : Nat) : Statement (.bulkRead x0 x1 x2) := noBound _
theorem jobStart (x0 : MccReq) : Statement (.jobStart x0) := reqBounds _
theorem jobResume (x0 : MccReq) : Statement (.jobResume x0) := reqBounds _
theorem jobStop (x0 : MccReq) : Statement (.jobStop x0) := reqBounds _
theorem jobStatus (x0 : MccReq) : Statement (.jobStatus x0) := reqBounds _
theorem spareTake (x0 : MccReq) : Statement (.spareTake x0) := reqBounds _
theorem drain (x0 : MccReq) : Statement (.drain x0) := reqBounds _
theorem power (x0 : MccReq) : Statement (.power x0) := reqBounds _
theorem pause (x0 : MccReq) : Statement (.pause x0) := reqBounds _
theorem resultRead (x0 : MccReq) : Statement (.resultRead x0) := reqBounds _
theorem resultWindow (x0 : MccReq) : Statement (.resultWindow x0) := reqBounds _
theorem slotsList (x0 : MccReq) : Statement (.slotsList x0) := reqBounds _
theorem regRead (x0 : MccReq) : Statement (.regRead x0) := reqBounds _
theorem eventsRead (x0 : MccReq) : Statement (.eventsRead x0) := reqBounds _
theorem logRead (x0 : MccReq) : Statement (.logRead x0) := reqBounds _
theorem fwRecord (x0 : MccReq) : Statement (.fwRecord x0) := reqBounds _
theorem fwCommit (x0 : MccReq) : Statement (.fwCommit x0) := reqBounds _
theorem changeRead (x0 : MccReq) : Statement (.changeRead x0) := reqBounds _
theorem dbgHalt (x0 : MccReq) : Statement (.dbgHalt x0) := reqBounds _
theorem dbgStep (x0 : MccReq) : Statement (.dbgStep x0) := reqBounds _
theorem dbgResume (x0 : MccReq) : Statement (.dbgResume x0) := reqBounds _
theorem dbgRead (x0 : MccReq) : Statement (.dbgRead x0) := reqBounds _
theorem dbgWrite (x0 : MccReq) : Statement (.dbgWrite x0) := reqBounds _
theorem dbgWindow (x0 : MccReq) : Statement (.dbgWindow x0) := reqBounds _
theorem regWrite (x0 : MccReq) : Statement (.regWrite x0) := reqBounds _
theorem partitionReset (x0 : MccReq) : Statement (.partitionReset x0) := reqBounds _
theorem layerReset (x0 : MccReq) : Statement (.layerReset x0) := reqBounds _
theorem shutter (x0 : MccReq) : Statement (.shutter x0) := reqBounds _
theorem reopen (x0 : MccReq) : Statement (.reopen x0) := reqBounds _
theorem lamp (x0 : MccReq) : Statement (.lamp x0) := reqBounds _
theorem lampResult (x0 : MccReq) : Statement (.lampResult x0) := reqBounds _
theorem locate (x0 : MccReq) : Statement (.locate x0) := reqBounds _
theorem vaonUp (x0 : Bool) : Statement (.vaonUp x0) := noBound _
theorem vaonLoss : Statement (.vaonLoss) := noBound _
theorem resetNAssert : Statement (.resetNAssert) := noBound _
theorem resetNRelease (x0 : Bool) : Statement (.resetNRelease x0) := noBound _
theorem twilightEnd (x0 : TwilightFound) : Statement (.twilightEnd x0) := noBound _
theorem coreCollimationEnd (x0 : CollimationFound) : Statement (.coreCollimationEnd x0) := noBound _
theorem linkCollimationEnd : Statement (.linkCollimationEnd) := noBound _
theorem firstLightEnd : Statement (.firstLightEnd) := noBound _
theorem trackingEntry : Statement (.trackingEntry) := noBound _
theorem bringupTimeout : Statement (.bringupTimeout) := noBound _
theorem pmbusPoll (x0 : List (Nat × Nat × Nat)) (x1 : Bool) : Statement (.pmbusPoll x0 x1) := noBound _
theorem railPowerGood (x0 : Nat) : Statement (.railPowerGood x0) := oneBound _ _
theorem railFault (x0 : Nat) : Statement (.railFault x0) := oneBound _ _
theorem quotaEval (x0 : Nat) : Statement (.quotaEval x0) := oneBound _ _
theorem tileGate : Statement (.tileGate) := noBound _
theorem tileWakeStart (x0 : Nat) : Statement (.tileWakeStart x0) := oneBound _ _
theorem tileWakeDone (x0 : Nat) (x1 : Bool) : Statement (.tileWakeDone x0 x1) := oneBound _ _
theorem powerCapEval : Statement (.powerCapEval) := noBound _
theorem railLimitEval (x0 : List (Nat × Nat)) : Statement (.railLimitEval x0) := noBound _
theorem fcstFrame (x0 x1 : Nat) : Statement (.fcstFrame x0 x1) := twoBounds _ _ _ _
theorem tileDroop (x0 x1 : Nat) : Statement (.tileDroop x0 x1) := twoBounds _ _ _ _
theorem trimOpen (x0 : Nat) : Statement (.trimOpen x0) := oneBound _ _
theorem trimShort (x0 : Nat) : Statement (.trimShort x0) := oneBound _ _
theorem trimOutOfReg (x0 : Nat) : Statement (.trimOutOfReg x0) := oneBound _ _
theorem sensorSample (x0 : Nat) (x1 : Option Int) : Statement (.sensorSample x0 x1) := oneBound _ _
theorem thermalReqInterval : Statement (.thermalReqInterval) := noBound _
theorem layerModelEval (x0 x1 : List Nat) : Statement (.layerModelEval x0 x1) := noBound _
theorem fallbackEval (x0 : List Nat) : Statement (.fallbackEval x0) := noBound _
theorem thmTrip (x0 : Nat) (x1 : Bool) : Statement (.thmTrip x0 x1) := oneBound _ _
theorem thmRestart : Statement (.thmRestart) := noBound _
theorem watchdogFeed (x0 : W32) : Statement (.watchdogFeed x0) := noBound _
theorem mgcStopped : Statement (.mgcStopped) := noBound _
theorem mgcRestartDone : Statement (.mgcRestartDone) := noBound _
theorem errnTimerEnd : Statement (.errnTimerEnd) := noBound _
theorem errnHoldWrite (x0 : W32) : Statement (.errnHoldWrite x0) := noBound _
theorem collectorSelf (x0 : Bool) : Statement (.collectorSelf x0) := noBound _
theorem refclkLost (x0 : Nat) : Statement (.refclkLost x0) := oneBound _ _
theorem rollbackAdvanced : Statement (.rollbackAdvanced) := noBound _
theorem logCommit (x0 : Bool) : Statement (.logCommit x0) := noBound _
theorem logCompaction : Statement (.logCompaction) := noBound _
theorem changeFlush (x0 : Bool) : Statement (.changeFlush x0) := noBound _
theorem coldNextWrite (x0 : W32) (x1 : Nat) : Statement (.coldNextWrite x0 x1) := noBound _
theorem svcBtnShortPress : Statement (.svcBtnShortPress) := noBound _
theorem svcBtnLongPress : Statement (.svcBtnLongPress) := noBound _
theorem ledFrame : Statement (.ledFrame) := noBound _
theorem bypass (x0 : Bool) : Statement (.bypass x0) := noBound _
theorem idcode : Statement (.idcode) := noBound _
theorem samplePreload (x0 x1 : Nat) : Statement (.samplePreload x0 x1) := noBound _
theorem extest (x0 x1 : Nat) : Statement (.extest x0 x1) := noBound _
theorem internalResetEnd : Statement (.internalResetEnd) := noBound _
theorem managementCoreStops : Statement (.managementCoreStops) := noBound _
theorem portTrainsAgain (x0 : Nat) : Statement (.portTrainsAgain x0) := noBound _
theorem deltaApplyEnd : Statement (.deltaApplyEnd) := noBound _
theorem logCompactionEnd : Statement (.logCompactionEnd) := noBound _
theorem syncInterval : Statement (.syncInterval) := noBound _

end Sys2Proof.Laws.Wf
end

