-- ==== Sys2Proof/Laws/Tidy.lean ====
section
/-!
SUPPORT. `Tidy` of the updates that touch nothing it speaks of, of choices and of folds, and of the few operations that
write a register field, stored bytes or the history ring.
-/
namespace Sys2Proof.Machine

/-- `Tidy` of a state written out is `TidyParts` of its parts. -/
@[simp ↓] theorem tidy_mk (q p : List Instr) (a1 a2 a3 a4 a5 a6 a7 a8 a9 a10 a11 a12 a13 a14 a15 a16 a17 a18) :
    Tidy q ⟨p, a1, a2, a3, a4, a5, a6, a7, a8, a9, a10, a11, a12, a13, a14, a15, a16, a17, a18⟩ =
      TidyParts q p a2.regs a3.mem a3.side a3.pcode a3.fresh a9.hist := propext ⟨id, id⟩

@[simp ↓] theorem tidyParts_eq (q : List Instr) (s : State) :
    TidyParts q s.pending s.sys.regs s.store.mem s.store.side s.store.pcode s.store.fresh s.flt.hist = Tidy q s := propext ⟨id, id⟩

@[simp ↓] theorem tidyParts_regs {q : List Instr} {s t : State} (hs : Tidy q s) (ht : Tidy q t) :
    TidyParts q s.pending t.sys.regs s.store.mem s.store.side s.store.pcode s.store.fresh s.flt.hist :=
  ⟨hs.queue, ht.regs, hs.mem, hs.side, hs.pcode, hs.fresh, hs.hist⟩

@[simp ↓] theorem tidy_ite {q : List Instr} {c : Prop} [Decidable c] {s t : State} (hs : Tidy q s) (ht : Tidy q t) :
    Tidy q (if c then s else t) := by split <;> assumption

@[simp ↓] theorem tidy_foldl {α : Type} {q : List Instr} (f : State → α → State) (hf : ∀ s a, Tidy q s → Tidy q (f s a))
    (l : List α) {s : State} (h : Tidy q s) : Tidy q (l.foldl f s) := by
  induction l generalizing s with
  | nil => exact h
  | cons a r ih => exact ih (hf s a h)

@[simp ↓] theorem tidy_foldl_fst {α β : Type} {q : List Instr} (f : State × β → α → State × β)
    (hf : ∀ p a, Tidy q p.1 → Tidy q (f p a).1) (l : List α) {p : State × β} (h : Tidy q p.1) :
    Tidy q (l.foldl f p).1 := by
  induction l generalizing p with
  | nil => exact h
  | cons a r ih => exact ih (hf p a h)

@[simp ↓] theorem setF_tidy {q s f u v} (h : Tidy q s) : Tidy q (setF s f u v) :=
  ⟨h.queue, ascending_mput pairLt_orders _ _ _ h.regs, h.mem, h.side, h.pcode, h.fresh, h.hist⟩

@[simp ↓] theorem clearField_tidy {q s f} (h : Tidy q s) : Tidy q (clearField s f) :=
  ⟨h.queue, ascending_filter _ h.regs, h.mem, h.side, h.pcode, h.fresh, h.hist⟩

@[simp ↓] theorem dropData_tidy {q s} (h : Tidy q s) : Tidy q (dropData s) :=
  ⟨h.queue, h.regs, rfl, rfl, rfl, rfl, h.hist⟩

/-- Of no answer. -/
theorem tidy_none {q} : ∀ u, (none : Option State) = some u → Tidy q u := fun _ h => nomatch h

/-- Of an answer that a condition may withhold. -/
theorem iteNone_tidy {q} {c : Prop} [Decidable c] {o : Option State} (ho : ∀ u, o = some u → Tidy q u) :
    ∀ u, (if c then none else o) = some u → Tidy q u := by
  split
  · exact fun _ h => by cases h
  · exact ho

end Sys2Proof.Machine
end

