-- ==== Sys2Proof/Laws/TidyOps.lean ====
section
/-!
SUPPORT. `Tidy` is kept by the shared operations: registers and events, stored data, transfers, tasks, routes, the meridian's rounds, the logbook, shutters and the word and page codes: one law per operation.
-/
namespace Sys2Proof.Machine

/-! ## Ops -/

@[simp ↓] theorem setB_tidy {q s f u b} (h : Tidy q s) : Tidy q (setB s f u b) := by
  unfold setB; simp (maxDischargeDepth := 99) [h]

@[simp ↓] theorem incF_tidy {q s f u n} (h : Tidy q s) : Tidy q (incF s f u n) := by
  unfold incF; simp (maxDischargeDepth := 99) [h]

@[simp ↓] theorem clearVerdict_tidy {q s bit} (h : Tidy q s) : Tidy q (clearVerdict s bit) := by
  unfold clearVerdict; simp (maxDischargeDepth := 99) [h]

@[simp ↓] theorem clearIntact_tidy {q s} (h : Tidy q s) : Tidy q (clearIntact s) := by
  unfold clearIntact; simp (maxDischargeDepth := 99) [h]

@[simp ↓] theorem clearRemains_tidy {q s} (h : Tidy q s) : Tidy q (clearRemains s) := by
  unfold clearRemains; simp (maxDischargeDepth := 99) [h]

@[simp ↓] theorem tilesOff_tidy {q s} (h : Tidy q s) : Tidy q (tilesOff s) := by
  unfold tilesOff; simp (maxDischargeDepth := 99) [h]

@[simp ↓] theorem railOff_tidy {q s r} (h : Tidy q s) : Tidy q (railOff s r) := by
  unfold railOff; simp (maxDischargeDepth := 99) [h]

@[simp ↓] theorem railsOff_tidy {q s rs} (h : Tidy q s) : Tidy q (railsOff s rs) := by
  unfold railsOff; simp (maxDischargeDepth := 99) +contextual [h]

@[simp ↓] theorem parkRails_tidy {q s} (h : Tidy q s) : Tidy q (parkRails s) := by
  unfold parkRails; simp (maxDischargeDepth := 99) [h]

@[simp ↓] theorem enterParked_tidy {q s} (h : Tidy q s) : Tidy q (enterParked s) := by
  unfold enterParked; simp (maxDischargeDepth := 99) [h]

@[simp ↓] theorem queueEvent_tidy {q s e} (h : Tidy q s) : Tidy q (queueEvent s e) := by
  unfold queueEvent
  have h2 : Tidy q (incF (setF s F.FLT_HIST_HEAD_NEXT 0 (getF s F.FLT_HIST_HEAD_NEXT 0 + 1)) F.FLT_HIST_TOTAL_COUNT 0 1) := by
    simp (maxDischargeDepth := 99) [h]
  exact ⟨h2.queue, h2.regs, h2.mem, h2.side, h2.pcode, h2.fresh, by rw [List.length_take]; omega⟩

@[simp ↓] theorem captureFirst_tidy {q s e} (h : Tidy q s) : Tidy q (captureFirst s e) := by
  unfold captureFirst; simp (maxDischargeDepth := 99) [h]

@[simp ↓] theorem raiseErrn_tidy {q s} (h : Tidy q s) : Tidy q (raiseErrn s) := by
  unfold raiseErrn; simp (maxDischargeDepth := 99) [h]

@[simp ↓] theorem bringupStops_tidy {q s code} (h : Tidy q s) : Tidy q (bringupStops s code) := by
  unfold bringupStops; simp (maxDischargeDepth := 99) [h]

@[simp ↓] theorem classReaction_tidy {q s code cls} (h : Tidy q s) : Tidy q (classReaction s code cls) := by
  unfold classReaction; simp (maxDischargeDepth := 99) [h]

@[simp ↓] theorem noteEvent_tidy {q s e} (h : Tidy q s) : Tidy q (noteEvent s e) := by
  unfold noteEvent; simp (maxDischargeDepth := 99) [h]

@[simp ↓] theorem recordAs_tidy {q s code cls unit origin detail} (h : Tidy q s) : Tidy q (recordAs s code cls unit origin detail) := by
  unfold recordAs; simp (maxDischargeDepth := 99) [h]

@[simp ↓] theorem record_tidy {q s c unit origin} (h : Tidy q s) : Tidy q (record s c unit origin) := by
  unfold record; simp (maxDischargeDepth := 99) [h]

@[simp ↓] theorem recordWith_tidy {q s c unit detail origin} (h : Tidy q s) : Tidy q (recordWith s c unit detail origin) := by
  unfold recordWith; simp (maxDischargeDepth := 99) [h]

@[simp ↓] theorem capture_tidy {q s codeF validF u c} (h : Tidy q s) : Tidy q (capture s codeF validF u c) := by
  unfold capture; simp (maxDischargeDepth := 99) [h]

@[simp ↓] theorem takeFree_tidy {q s} (h : Tidy q s) : Tidy q (takeFree s) := by
  unfold takeFree; simp (maxDischargeDepth := 99) [h]


/-! ## Mem -/

@[simp ↓] theorem putWord_tidy {q s a d poison} (h : Tidy q s) : Tidy q (putWord s a d poison) := by
  unfold putWord
  refine ⟨h.queue, h.regs, memWrite_wf _ _ h.mem, mwf_mput natLt_orders _ _ _ h.side, h.pcode, ?_, h.hist⟩
  dsimp only
  split
  · exact mwf_mput natLt_orders _ _ _ h.fresh
  · exact h.fresh

theorem deltaPage_wf {m : NMap Nat} (key al o n) (h : mwf natLt m 0 = true) : mwf natLt (deltaPage m key al o n) 0 = true := by
  induction o generalizing m key n with
  | nil => exact h
  | cons x o ih =>
    cases n with
    | nil => exact h
    | cons y n => exact ih _ _ (mwf_mput natLt_orders _ _ _ h)

@[simp ↓] theorem writeWord_tidy {q s a d poison} (h : Tidy q s) : Tidy q (writeWord s a d poison) := by
  unfold writeWord
  have h2 := putWord_tidy (a := a) (d := d) (poison := poison) h
  refine ⟨h2.queue, h2.regs, h2.mem, h2.side, ?_, h2.fresh, h2.hist⟩
  dsimp only
  split
  · exact deltaPage_wf _ _ _ _ h.pcode
  · exact h.pcode

@[simp ↓] theorem writeIn_tidy {q s a d poison} (h : Tidy q s) : Tidy q (writeIn s a d poison) := by
  unfold writeIn; simp (maxDischargeDepth := 99) [h]

@[simp ↓] theorem writeSpan_tidy {q s a d ps n} (h : Tidy q s) : Tidy q (writeSpan s a d ps n) := by
  induction n generalizing s a d ps with
  | zero => exact h
  | succ n ih => unfold writeSpan; exact tidy_ite h (ih (writeIn_tidy h))

@[simp ↓] theorem writeBytes_tidy {q s a d ps} (h : Tidy q s) : Tidy q (writeBytes s a d ps) := by
  unfold writeBytes; simp (maxDischargeDepth := 99) [h]

@[simp ↓] theorem protCapture_tidy {q s a c} (h : Tidy q s) : Tidy q (protCapture s a c) := by
  unfold protCapture; (repeat' split) <;> simp (maxDischargeDepth := 99) +contextual [h]

@[simp ↓] theorem protEvent_tidy {q s a k} (h : Tidy q s) : Tidy q (protEvent s a k) := by
  unfold protEvent; simp only []; (repeat' split) <;> simp_all (maxDischargeDepth := 99)

@[simp ↓] theorem consumePoison_tidy {q s a c u} (h : Tidy q s) : Tidy q (consumePoison s a c u) := by
  unfold consumePoison; simp (maxDischargeDepth := 99) [h]

@[simp ↓] theorem startRecovery_tidy {q s a} (h : Tidy q s) : Tidy q (startRecovery s a) := by
  unfold startRecovery; simp (maxDischargeDepth := 99) [h]


/-! ## Matrix -/

@[simp ↓] theorem drainRow_tidy {q step seed t d r0 n0 w row es sc} (h : Tidy q sc.1) :
    Tidy q (drainRow step seed t d r0 n0 w row es sc).1 := by
  unfold drainRow; simp (maxDischargeDepth := 99) [h]

@[simp ↓] theorem postDrain_tidy {q s t c} (h : Tidy q s) : Tidy q (postDrain s t c) := by
  unfold postDrain; (repeat' split) <;> simp (maxDischargeDepth := 99) +contextual [h]

@[simp ↓] theorem runDrain_tidy {q s t d acc a} (h : Tidy q s) : Tidy q (runDrain s t d acc a) := by
  unfold runDrain; simp (maxDischargeDepth := 99) +contextual [h]

@[simp ↓] theorem runFinder_tidy {q s t d g} (h : Tidy q s) : Tidy q (runFinder s t d g) := by
  unfold runFinder; simp (maxDischargeDepth := 99) +contextual [h]


/-! ## Requests -/

@[simp ↓] theorem setEph_tidy {q s t e} (h : Tidy q s) : Tidy q (setEph s t e) := by
  unfold setEph; simp (maxDischargeDepth := 99) [h]

@[simp ↓] theorem setArr_tidy {q s t a} (h : Tidy q s) : Tidy q (setArr s t a) := by
  unfold setArr; simp (maxDischargeDepth := 99) [h]

@[simp ↓] theorem setLane_tidy {q s t l} (h : Tidy q s) : Tidy q (setLane s t l) := by
  unfold setLane; simp (maxDischargeDepth := 99) [h]

@[simp ↓] theorem setSlice_tidy {q s i x} (h : Tidy q s) : Tidy q (setSlice s i x) := by
  unfold setSlice; simp (maxDischargeDepth := 99) [h]

@[simp ↓] theorem setChan_tidy {q s c x} (h : Tidy q s) : Tidy q (setChan s c x) := by
  unfold setChan; simp (maxDischargeDepth := 99) [h]

@[simp ↓] theorem stopLamp_tidy {q s c} (h : Tidy q s) : Tidy q (stopLamp s c) := by
  unfold stopLamp; simp (maxDischargeDepth := 99) [h]

@[simp ↓] theorem setSet_tidy {q s i set x} (h : Tidy q s) : Tidy q (setSet s i set x) := by
  unfold setSet; simp (maxDischargeDepth := 99) [h]

@[simp ↓] theorem setOutstanding_tidy {q s cls inst band n} (h : Tidy q s) : Tidy q (setOutstanding s cls inst band n) := by
  unfold setOutstanding; simp (maxDischargeDepth := 99) [h]

@[simp ↓] theorem setQ_tidy {q s x1 x2} (h : Tidy q s) : Tidy q (setQ s x1 x2) := by
  unfold setQ; (repeat' split) <;> simp (maxDischargeDepth := 99) +contextual [h]

@[simp ↓] theorem refuse_tidy {q s x t eta} (h : Tidy q s) : Tidy q (refuse s x t eta) := by
  unfold refuse; simp (maxDischargeDepth := 99) [h]

@[simp ↓] theorem retryLater_tidy {q s x t} (h : Tidy q s) : Tidy q (retryLater s x t) := by
  unfold retryLater; simp (maxDischargeDepth := 99) [h]

@[simp ↓] theorem place_tidy {q s x t} (h : Tidy q s) : Tidy q (place s x t) := by
  unfold place; simp (maxDischargeDepth := 99) [h]

@[simp ↓] theorem enqueue_tidy {q s x} (h : Tidy q s) : Tidy q (enqueue s x) := by
  unfold enqueue; simp (maxDischargeDepth := 99) [h]

@[simp ↓] theorem submit_tidy {q s x} (h : Tidy q s) : Tidy q (submit s x) := by
  unfold submit; simp (maxDischargeDepth := 99) [h]

@[simp ↓] theorem submitAll_tidy {q s xs} (h : Tidy q s) : Tidy q (submitAll s xs) := by
  unfold submitAll; simp (maxDischargeDepth := 99) +contextual [h]

@[simp ↓] theorem finishTxn_tidy {q s x d p} (h : Tidy q s) : Tidy q (finishTxn s x d p) := by
  unfold finishTxn; simp (maxDischargeDepth := 99) [h]

@[simp ↓] theorem newTxn_tidy {q s} (h : Tidy q s) : Tidy q (newTxn s).1 := by
  unfold newTxn; simp (maxDischargeDepth := 99) [h]


/-! ## Recover -/

@[simp ↓] theorem captureSlice_tidy {q s i c line} (h : Tidy q s) : Tidy q (captureSlice s i c line) := by
  unfold captureSlice; simp (maxDischargeDepth := 99) [h]

@[simp ↓] theorem sliceEvent_tidy {q s i c line origin} (h : Tidy q s) : Tidy q (sliceEvent s i c line origin) := by
  unfold sliceEvent; simp (maxDischargeDepth := 99) [h]

@[simp ↓] theorem storeCapture_tidy {q s a c} (h : Tidy q s) : Tidy q (storeCapture s a c) := by
  unfold storeCapture; (repeat' split) <;> simp (maxDischargeDepth := 99) +contextual [h]

@[simp ↓] theorem storeEvent_tidy {q s a k} (h : Tidy q s) : Tidy q (storeEvent s a k) := by
  unfold storeEvent; simp (maxDischargeDepth := 99) [h]

@[simp ↓] theorem sliceProt_tidy {q s i a c} (h : Tidy q s) : Tidy q (sliceProt s i a c) := by
  unfold sliceProt; simp (maxDischargeDepth := 99) [h]

@[simp ↓] theorem committedPoison_tidy {q s a} (h : Tidy q s) : Tidy q (committedPoison s a) := by
  unfold committedPoison; simp (maxDischargeDepth := 99) [h]

@[simp ↓] theorem notePoisonWrite_tidy {q s i a ps} (h : Tidy q s) : Tidy q (notePoisonWrite s i a ps) := by
  unfold notePoisonWrite; simp (maxDischargeDepth := 99) [h]

@[simp ↓] theorem unmapped_tidy {q s i a} (h : Tidy q s) : Tidy q (unmapped s i a) := by
  unfold unmapped; simp (maxDischargeDepth := 99) [h]

@[simp ↓] theorem putPageBits_tidy {q s page w v} (h : Tidy q s) : Tidy q (putPageBits s page w v) := by
  unfold putPageBits
  split
  · exact ⟨h.queue, h.regs, h.mem, h.side, mwf_mput natLt_orders _ _ _ h.pcode, h.fresh, h.hist⟩
  · exact h

@[simp ↓] theorem leavePoisoned_tidy {q s a} (h : Tidy q s) : Tidy q (leavePoisoned s a) := by
  unfold leavePoisoned; simp (maxDischargeDepth := 99) [h]

@[simp ↓] theorem noteRepeat_tidy {q s a} (h : Tidy q s) : Tidy q (noteRepeat s a) := by
  unfold noteRepeat; simp (maxDischargeDepth := 99) [h]

@[simp ↓] theorem recoverPage_tidy {q s page} (h : Tidy q s) : Tidy q (recoverPage s page) := by
  unfold recoverPage
  simp only []
  (repeat' split) <;> simp (maxDischargeDepth := 99) +contextual [h]

@[simp ↓] theorem recoverFirst_tidy {q s a} (h : Tidy q s) : Tidy q (recoverFirst s a) := by
  unfold recoverFirst; simp (maxDischargeDepth := 99) [h]

@[simp ↓] theorem noteRead_tidy {q s a} (h : Tidy q s) : Tidy q (noteRead s a) := by
  unfold noteRead; (repeat' split) <;> simp (maxDischargeDepth := 99) +contextual [h]

@[simp ↓] theorem recoverRange_tidy {q s a n} (h : Tidy q s) : Tidy q (recoverRange s a n) := by
  unfold recoverRange; simp (maxDischargeDepth := 99) +contextual [h]

@[simp ↓] theorem focalWrite_tidy {q s a d ps} (h : Tidy q s) : Tidy q (focalWrite s a d ps) := by
  unfold focalWrite; simp (maxDischargeDepth := 99) [h]

@[simp ↓] theorem noteRange_tidy {q s a n} (h : Tidy q s) : Tidy q (noteRange s a n) := by
  unfold noteRange; simp (maxDischargeDepth := 99) +contextual [h]


/-! ## CoaddOps -/

@[simp ↓] theorem coaddFlags_tidy {q s i a o} (h : Tidy q s) : Tidy q (coaddFlags s i a o) := by
  unfold coaddFlags; simp (maxDischargeDepth := 99) [h]

theorem coaddInto_tidy {q s i op tag a d ps rd wr} (hw : ∀ s a d ps, Tidy q s → Tidy q (wr s a d ps)) (h : Tidy q s) :
    Tidy q (coaddInto s i op tag a d ps rd wr) := by
  unfold coaddInto; simp (maxDischargeDepth := 99) +contextual [h, hw]

@[simp ↓] theorem coaddInto_store {q s i op tag a d ps} (h : Tidy q s) :
    Tidy q (coaddInto s i op tag a d ps readBytes writeBytes) :=
  coaddInto_tidy (fun _ _ _ _ h => by simp (maxDischargeDepth := 99) [h]) h


/-! ## EphOps -/

@[simp ↓] theorem addCause_tidy {q s t cause key} (h : Tidy q s) : Tidy q (addCause s t cause key) := by
  unfold addCause; simp (maxDischargeDepth := 99) [h]

@[simp ↓] theorem dropCauses_tidy {q s t p} (h : Tidy q s) : Tidy q (dropCauses s t p) := by
  unfold dropCauses; simp (maxDischargeDepth := 99) [h]

@[simp ↓] theorem clearCause_tidy {q s t cause key} (h : Tidy q s) : Tidy q (clearCause s t cause key) := by
  unfold clearCause; simp (maxDischargeDepth := 99) [h]

@[simp ↓] theorem noteLate_tidy {q s t start} (h : Tidy q s) : Tidy q (noteLate s t start) := by
  unfold noteLate; simp (maxDischargeDepth := 99) [h]

@[simp ↓] theorem noteOverrun_tidy {q s t join x} (h : Tidy q s) : Tidy q (noteOverrun s t join x) := by
  unfold noteOverrun; simp (maxDischargeDepth := 99) [h]

@[simp ↓] theorem popBundle_tidy {q s t} (h : Tidy q s) : Tidy q (popBundle s t) := by
  unfold popBundle; simp only []; (repeat' split) <;> simp_all (maxDischargeDepth := 99)

@[simp ↓] theorem settle_tidy {q s t n} (h : Tidy q s) : Tidy q (settle s t n) := by
  induction n generalizing s with
  | zero => exact h
  | succ n ih =>
    unfold settle
    split
    · exact h
    · exact tidy_ite (ih (by simp (maxDischargeDepth := 99) [h])) h

@[simp ↓] theorem settleAll_tidy {q s t} (h : Tidy q s) : Tidy q (settleAll s t) := by
  unfold settleAll; simp (maxDischargeDepth := 99) [h]

@[simp ↓] theorem slotDone_tidy {q s t l} (h : Tidy q s) : Tidy q (slotDone s t l) := by
  unfold slotDone; simp only []; (repeat' split) <;> simp_all (maxDischargeDepth := 99)

@[simp ↓] theorem retireSlot_tidy {q s t idx} (h : Tidy q s) : Tidy q (retireSlot s t idx) := by
  unfold retireSlot; simp (maxDischargeDepth := 99) [h]

@[simp ↓] theorem holdBusy_tidy {q s t} (h : Tidy q s) : Tidy q (holdBusy s t) := by
  unfold holdBusy; (repeat' split) <;> simp (maxDischargeDepth := 99) +contextual [h]

@[simp ↓] theorem landBytes_tidy {q s t off d ps} (h : Tidy q s) : Tidy q (landBytes s t off d ps) := by
  unfold landBytes; simp (maxDischargeDepth := 99) [h]

@[simp ↓] theorem putX_tidy {q s x} (h : Tidy q s) : Tidy q (putX s x) := by
  unfold putX; simp (maxDischargeDepth := 99) [h]

@[simp ↓] theorem endXfer_tidy {q s x} (h : Tidy q s) : Tidy q (endXfer s x) := by
  unfold endXfer; (repeat' split) <;> simp (maxDischargeDepth := 99) +contextual [h]

@[simp ↓] theorem startXfer_tidy {q s t kind didx bundle desc issue left} (h : Tidy q s) : Tidy q (startXfer s t kind didx bundle desc issue left).1 := by
  unfold startXfer; simp (maxDischargeDepth := 99) [h]

@[simp ↓] theorem submitNew_tidy {q s xs} (h : Tidy q s) : Tidy q (submitNew s xs) := by
  unfold submitNew; simp (maxDischargeDepth := 99) +contextual [h]

@[simp ↓] theorem collect_tidy {q s id} (h : Tidy q s) : Tidy q (collect s id) := by
  unfold collect; (repeat' split) <;> simp (maxDischargeDepth := 99) +contextual [h]

@[simp ↓] theorem addCount_tidy {q s f u n} (h : Tidy q s) : Tidy q (addCount s f u n) := by
  unfold addCount; simp (maxDischargeDepth := 99) [h]

@[simp ↓] theorem postSoFar_tidy {q s t} (h : Tidy q s) : Tidy q (postSoFar s t) := by
  unfold postSoFar; simp (maxDischargeDepth := 99) [h]

@[simp ↓] theorem dropArray_tidy {q s t} (h : Tidy q s) : Tidy q (dropArray s t) := by
  unfold dropArray; simp (maxDischargeDepth := 99) [h]


/-! ## Cache -/

@[simp ↓] theorem putLine_tidy {q s x1 x} (h : Tidy q s) : Tidy q (putLine s x1 x) := by
  unfold putLine; simp (maxDischargeDepth := 99) [h]

@[simp ↓] theorem cohWriteIn_tidy {q s a d poison} (h : Tidy q s) : Tidy q (cohWriteIn s a d poison) := by
  unfold cohWriteIn; (repeat' split) <;> simp (maxDischargeDepth := 99) +contextual [h]

@[simp ↓] theorem cohSpan_tidy {q s a d ps n} (h : Tidy q s) : Tidy q (cohSpan s a d ps n) := by
  induction n generalizing s a d ps with
  | zero => exact h
  | succ n ih => unfold cohSpan; exact tidy_ite h (ih (cohWriteIn_tidy h))

@[simp ↓] theorem cohWrite_tidy {q s a d ps} (h : Tidy q s) : Tidy q (cohWrite s a d ps) := by
  unfold cohWrite; simp (maxDischargeDepth := 99) [h]

@[simp ↓] theorem dropCached_tidy {q s p} (h : Tidy q s) : Tidy q (dropCached s p) := by
  unfold dropCached; simp (maxDischargeDepth := 99) [h]

@[simp ↓] theorem countWords_tidy {q s f a n} (h : Tidy q s) : Tidy q (countWords s f a n) := by
  unfold countWords; (repeat' split) <;> simp (maxDischargeDepth := 99) +contextual [h]

@[simp ↓] theorem chanSend_tidy {q s x kind owner a n locked last} (h : Tidy q s) : Tidy q (chanSend s x kind owner a n locked last) := by
  unfold chanSend; (repeat' split) <;> simp (maxDischargeDepth := 99) +contextual [h]

@[simp ↓] theorem chanPair_tidy {q s x owner a n} (h : Tidy q s) : Tidy q (chanPair s x owner a n) := by
  unfold chanPair; simp (maxDischargeDepth := 99) [h]

@[simp ↓] theorem chanWrite_tidy {q s x a n narrow} (h : Tidy q s) : Tidy q (chanWrite s x a n narrow) := by
  unfold chanWrite; simp (maxDischargeDepth := 99) [h]

@[simp ↓] theorem moveDirty_tidy {q s i set x} (h : Tidy q s) : Tidy q (moveDirty s i set x) := by
  unfold moveDirty; simp (maxDischargeDepth := 99) +contextual [h]

@[simp ↓] theorem cleanWay_tidy {q s i set way} (h : Tidy q s) : Tidy q (cleanWay s i set way) := by
  unfold cleanWay; simp (maxDischargeDepth := 99) [h]

@[simp ↓] theorem writeBack_tidy {q s who i set x} (h : Tidy q s) : Tidy q (writeBack s who i set x) := by
  unfold writeBack; (repeat' split) <;> simp (maxDischargeDepth := 99) +contextual [h]

@[simp ↓] theorem evict_tidy {q s who i set x} (h : Tidy q s) : Tidy q (evict s who i set x) := by
  unfold evict; simp (maxDischargeDepth := 99) [h]

@[simp ↓] theorem insertLine_tidy {q s p way base pinned lru} (h : Tidy q s) : Tidy q (insertLine s p way base pinned lru) :=
  setSet_tidy (tidy_foldl _ (fun _ _ h => writeWord_tidy h) _ h)

theorem clearAll_tidy {q s} (l : List Field) (h : Tidy q s) : Tidy q (l.foldl clearField s) :=
  tidy_foldl _ (fun _ _ h => clearField_tidy h) l h

theorem reopenTiles_tidy {q s} (l : List Nat) (h : Tidy q s) : Tidy q (l.foldl (fun s p =>
    if getB s F.FLT_SHUT_TILE p && (lastRec s tShutter p).isNone then setB s F.FLT_SHUT_TILE p false else s) s) :=
  tidy_foldl _ (fun _ _ h => tidy_ite (setB_tidy h) h) l h

theorem noSpreads_tidy {q s} {t : TowerS} {d : DeepS} (h : Tidy q s) :
    Tidy q { s with store := { s.store with spreads := [], short := [] }, tower := t, deep := d } :=
  ⟨h.queue, h.regs, h.mem, h.side, h.pcode, h.fresh, h.hist⟩

theorem allocate_tidy {q s who x2 base lru} (h : Tidy q s) : ∀ u', allocate s who x2 base lru = some u' → Tidy q u' := by
  unfold allocate; (repeat' split) <;> simp (maxDischargeDepth := 99) +contextual [h]

@[simp ↓] theorem touchLine_tidy {q s x1 x} (h : Tidy q s) : Tidy q (touchLine s x1 x) := by
  unfold touchLine; simp (maxDischargeDepth := 99) [h]

@[simp ↓] theorem fillLine_tidy {q s x1 x} (h : Tidy q s) : Tidy q (fillLine s x1 x) := by
  unfold fillLine; simp (maxDischargeDepth := 99) +contextual [h]

@[simp ↓] theorem streakStep_tidy {q s i chan line} (h : Tidy q s) : Tidy q (streakStep s i chan line).1 := by
  unfold streakStep; simp only []; (repeat' split) <;> simp_all (maxDischargeDepth := 99)

@[simp ↓] theorem countAccess_tidy {q s i} (h : Tidy q s) : Tidy q (countAccess s i) := by
  unfold countAccess; simp (maxDischargeDepth := 99) [h]

@[simp ↓] theorem thrashEnd_tidy {q s i} (h : Tidy q s) : Tidy q (thrashEnd s i) := by
  unfold thrashEnd; simp (maxDischargeDepth := 99) [h]

@[simp ↓] theorem countLookup_tidy {q s x1 hit} (h : Tidy q s) : Tidy q (countLookup s x1 hit) := by
  unfold countLookup; simp (maxDischargeDepth := 99) [h]

@[simp ↓] theorem lookup_tidy {q s x1 a} (h : Tidy q s) : Tidy q (lookup s x1 a).1 := by
  unfold lookup; simp only []; (repeat' split) <;> simp_all (maxDischargeDepth := 99)

@[simp ↓] theorem answerRead_tidy {q s x base} (h : Tidy q s) : Tidy q (answerRead s x base) := by
  unfold answerRead; simp (maxDischargeDepth := 99) [h]

@[simp ↓] theorem answerWrite_tidy {q s i x} (h : Tidy q s) : Tidy q (answerWrite s i x) := by
  unfold answerWrite; simp (maxDischargeDepth := 99) [h]

@[simp ↓] theorem writeLine_tidy {q s x1 a d ps y} (h : Tidy q s) : Tidy q (writeLine s x1 a d ps y) := by
  unfold writeLine; simp (maxDischargeDepth := 99) [h]

@[simp ↓] theorem writeThrough_tidy {q s a d ps} (h : Tidy q s) : Tidy q (writeThrough s a d ps) := by
  unfold writeThrough; simp (maxDischargeDepth := 99) [h]

@[simp ↓] theorem behindAccess_tidy {q s i x} (h : Tidy q s) : Tidy q (behindAccess s i x) := by
  unfold behindAccess; simp (maxDischargeDepth := 99) [h]

@[simp ↓] theorem dropWrite_tidy {q s id} (h : Tidy q s) : Tidy q (dropWrite s id) := by
  unfold dropWrite; simp (maxDischargeDepth := 99) [h]

@[simp ↓] theorem endOverflow_tidy {q s i o} (h : Tidy q s) : Tidy q (endOverflow s i o) := by
  unfold endOverflow; simp (maxDischargeDepth := 99) +contextual [h]

@[simp ↓] theorem endMiss_tidy {q s i id} (h : Tidy q s) : Tidy q (endMiss s i id) := by
  unfold endMiss; simp (maxDischargeDepth := 99) [h]

@[simp ↓] theorem answerMiss_tidy {q s i m} (h : Tidy q s) : Tidy q (answerMiss s i m) := by
  unfold answerMiss
  dsimp only
  split
  · simp (maxDischargeDepth := 99) [h]
  · split
    · simp (maxDischargeDepth := 99) [h]
    · rename_i t ht
      have h2 : Tidy q t := by
        split at ht
        · cases ht; simp (maxDischargeDepth := 99) [h]
        · exact iteNone_tidy (allocate_tidy (by simp (maxDischargeDepth := 99) [h])) _ ht
      split <;> simp (maxDischargeDepth := 99) [h2]

@[simp ↓] theorem settleLine_tidy {q s i a} (h : Tidy q s) : Tidy q (settleLine s i a) := by
  unfold settleLine; simp (maxDischargeDepth := 99) +contextual [h]

@[simp ↓] theorem engineLine_tidy {q s a n} (h : Tidy q s) : Tidy q (engineLine s a n).1 := by
  unfold engineLine
  dsimp only
  split
  · split
    · split <;> simp (maxDischargeDepth := 99) [h]
    · split
      · simp (maxDischargeDepth := 99) [h]
      · rename_i t ht
        have h2 := iteNone_tidy (allocate_tidy (lookup_tidy (settleLine_tidy h))) _ ht
        split <;> simp (maxDischargeDepth := 99) [h2]
  · split <;> simp (maxDischargeDepth := 99) [h]

@[simp ↓] theorem engineGet_tidy {q s a n} (h : Tidy q s) : Tidy q (engineGet s a n).1 := by
  unfold engineGet; simp (maxDischargeDepth := 99) +contextual [h]

@[simp ↓] theorem enginePutLine_tidy {q s a d ps} (h : Tidy q s) : Tidy q (enginePutLine s a d ps) := by
  unfold enginePutLine
  dsimp only
  split
  · split
    · simp (maxDischargeDepth := 99) [h]
    · split
      · simp (maxDischargeDepth := 99) [h]
      · rename_i t ht
        have h2 := iteNone_tidy (allocate_tidy (lookup_tidy (settleLine_tidy h))) _ ht
        split <;> simp (maxDischargeDepth := 99) [h2]
  · split <;> simp (maxDischargeDepth := 99) [h]

@[simp ↓] theorem enginePut_tidy {q s a d ps} (h : Tidy q s) : Tidy q (enginePut s a d ps) := by
  unfold enginePut; simp (maxDischargeDepth := 99) +contextual [h]

@[simp ↓] theorem launchTask_tidy {q s t task groups band token bundle commit} (h : Tidy q s) : Tidy q (launchTask s t task groups band token bundle commit) := by
  unfold launchTask; simp (maxDischargeDepth := 99) [h]


/-! ## LaneOps -/

@[simp ↓] theorem putGroup_tidy {q s t slot g} (h : Tidy q s) : Tidy q (putGroup s t slot g) := by
  unfold putGroup; simp (maxDischargeDepth := 99) [h]

@[simp ↓] theorem putTask_tidy {q s t x} (h : Tidy q s) : Tidy q (putTask s t x) := by
  unfold putTask; simp (maxDischargeDepth := 99) [h]

@[simp ↓] theorem putFocal32_tidy {q s t off v} (h : Tidy q s) : Tidy q (putFocal32 s t off v) := by
  unfold putFocal32; simp (maxDischargeDepth := 99) [h]

@[simp ↓] theorem freeLocks_tidy {q s t ls} (h : Tidy q s) : Tidy q (freeLocks s t ls) := by
  unfold freeLocks; simp (maxDischargeDepth := 99) +contextual [h]

@[simp ↓] theorem dropOwner_tidy {q s t slot} (h : Tidy q s) : Tidy q (dropOwner s t slot) := by
  unfold dropOwner; simp (maxDischargeDepth := 99) [h]

@[simp ↓] theorem refill_tidy {q s t n} (h : Tidy q s) : Tidy q (refill s t n) := by
  induction n generalizing s with
  | zero => exact h
  | succ n ih =>
    unfold refill
    refine tidy_ite h ?_
    split
    · exact h
    · exact ih (putGroup_tidy h)

@[simp ↓] theorem leaveActive_tidy {q s t slot g w} (h : Tidy q s) : Tidy q (leaveActive s t slot g w) := by
  unfold leaveActive; simp (maxDischargeDepth := 99) [h]

@[simp ↓] theorem wake_tidy {q s t slot g} (h : Tidy q s) : Tidy q (wake s t slot g) := by
  unfold wake; simp (maxDischargeDepth := 99) [h]

@[simp ↓] theorem endGroup_tidy {q s t slot} (h : Tidy q s) : Tidy q (endGroup s t slot) := by
  unfold endGroup; simp (maxDischargeDepth := 99) [h]

@[simp ↓] theorem finishTask_tidy {q s t x faulted} (h : Tidy q s) : Tidy q (finishTask s t x faulted) := by
  unfold finishTask; (repeat' split) <;> simp (maxDischargeDepth := 99) +contextual [h]

@[simp ↓] theorem abortTask_tidy {q s t id faulted} (h : Tidy q s) : Tidy q (abortTask s t id faulted) := by
  have hf : ∀ l : List Nat, Tidy q (l.foldl (fun s i => match getGroup s t i with
    | some g => endGroup (freeLocks s t g.locks) t i
    | none => s) s) := fun l => by
    refine tidy_foldl _ (fun s a h => ?_) _ h
    split <;> simp (maxDischargeDepth := 99) [h]
  unfold abortTask
  simp only []
  have h2 := hf (taskSlots s t id)
  generalize List.foldl _ s (taskSlots s t id) = s' at h2 ⊢
  split <;> simp (maxDischargeDepth := 99) [h2]

@[simp ↓] theorem captureLane_tidy {q s t slot lane pc c} (h : Tidy q s) : Tidy q (captureLane s t slot lane pc c) := by
  unfold captureLane; simp (maxDischargeDepth := 99) [h]

@[simp ↓] theorem groupFault_tidy {q s t slot c lane} (h : Tidy q s) : Tidy q (groupFault s t slot c lane) := by
  unfold groupFault; (repeat' split) <;> simp (maxDischargeDepth := 99) +contextual [h]

@[simp ↓] theorem abortTile_tidy {q s t} (h : Tidy q s) : Tidy q (abortTile s t) := by
  unfold abortTile; simp (maxDischargeDepth := 99) +contextual [h]

@[simp ↓] theorem poisonUse_tidy {q s t slot lane pc} (h : Tidy q s) : Tidy q (poisonUse s t slot lane pc) := by
  unfold poisonUse; simp (maxDischargeDepth := 99) [h]

@[simp ↓] theorem usePoison_tidy {q s t slot pc x4} (h : Tidy q s) : Tidy q (usePoison s t slot pc x4) := by
  unfold usePoison; (repeat' split) <;> simp (maxDischargeDepth := 99) +contextual [h]

@[simp ↓] theorem doRcv_tidy {q s t slot g} (h : Tidy q s) : Tidy q (doRcv s t slot g) := by
  unfold doRcv; (repeat' split) <;> simp (maxDischargeDepth := 99) +contextual [h]

@[simp ↓] theorem noteFocal_tidy {q s a n} (h : Tidy q s) : Tidy q (noteFocal s a n) := by
  induction n generalizing s a with
  | zero => exact h
  | succ n ih => unfold noteFocal; simp (maxDischargeDepth := 99) [h, ih]

@[simp ↓] theorem focalRead_tidy {q s t off n} (h : Tidy q s) : Tidy q (focalRead s t off n).1 := by
  unfold focalRead; simp (maxDischargeDepth := 99) [h]

@[simp ↓] theorem countStore_tidy {q s t d word} (h : Tidy q s) : Tidy q (countStore s t d word) := by
  unfold countStore; simp (maxDischargeDepth := 99) [h]

@[simp ↓] theorem laneStore_tidy {q s t off d poison word} (h : Tidy q s) : Tidy q (laneStore s t off d poison word) := by
  unfold laneStore; simp (maxDischargeDepth := 99) [h]

@[simp ↓] theorem hintLane_tidy {q s x eta} (h : Tidy q s) : Tidy q (hintLane s x eta) := by
  unfold hintLane; simp only []; (repeat' split) <;> simp_all (maxDischargeDepth := 99)

@[simp ↓] theorem hintRefused_tidy {q s id} (h : Tidy q s) : Tidy q (hintRefused s id) := by
  unfold hintRefused; (repeat' split) <;> simp (maxDischargeDepth := 99) +contextual [h]

@[simp ↓] theorem submitLane_tidy {q s xs} (h : Tidy q s) : Tidy q (submitLane s xs) := by
  unfold submitLane; simp (maxDischargeDepth := 99) +contextual [h]

@[simp ↓] theorem globalStore_tidy {q s t slot g a d poison word} (h : Tidy q s) : Tidy q (globalStore s t slot g a d poison word) := by
  unfold globalStore; simp only []; (repeat' split) <;> simp_all (maxDischargeDepth := 99)


/-! ## Route -/

@[simp ↓] theorem setPort_tidy {q s p x} (h : Tidy q s) : Tidy q (setPort s p x) := by
  unfold setPort; simp (maxDischargeDepth := 99) [h]

@[simp ↓] theorem portEvent_tidy {q s p c stream} (h : Tidy q s) : Tidy q (portEvent s p c stream) := by
  unfold portEvent; simp (maxDischargeDepth := 99) [h]

@[simp ↓] theorem postDetours_tidy {q s} (h : Tidy q s) : Tidy q (postDetours s) := by
  unfold postDetours; simp (maxDischargeDepth := 99) +contextual [h]

@[simp ↓] theorem moveBlocks_tidy {q s r} (h : Tidy q s) : Tidy q (moveBlocks s r) := by
  unfold moveBlocks; simp (maxDischargeDepth := 99) [h]

@[simp ↓] theorem detour_tidy {q s r} (h : Tidy q s) : Tidy q (detour s r) := by
  unfold detour; simp only []; (repeat' split) <;> simp (maxDischargeDepth := 99) [h]

@[simp ↓] theorem moveRoutes_tidy {q s} (h : Tidy q s) : Tidy q (moveRoutes s) := by
  unfold moveRoutes
  refine postDetours_tidy (tidy_foldl _ (fun s a h => ?_) _ h)
  simp (maxDischargeDepth := 99) [h]

@[simp ↓] theorem returnRoutes_tidy {q s} (h : Tidy q s) : Tidy q (returnRoutes s) := by
  unfold returnRoutes; simp (maxDischargeDepth := 99) [h]

@[simp ↓] theorem shutterPort_tidy {q s p} (h : Tidy q s) : Tidy q (shutterPort s p) := by
  unfold shutterPort; simp (maxDischargeDepth := 99) [h]

@[simp ↓] theorem shutterPorts_tidy {q s} (h : Tidy q s) : Tidy q (shutterPorts s) := by
  unfold shutterPorts; simp (maxDischargeDepth := 99) +contextual [h]

@[simp ↓] theorem emit_tidy {q s f} (h : Tidy q s) : Tidy q (emit s f) := by
  unfold emit; simp (maxDischargeDepth := 99) [h]

@[simp ↓] theorem gateSend_tidy {q s g} (h : Tidy q s) : Tidy q (gateSend s g) := by
  unfold gateSend; simp (maxDischargeDepth := 99) [h]

@[simp ↓] theorem sendGated_tidy {q s p} (h : Tidy q s) : Tidy q (sendGated s p) := by
  unfold sendGated; simp (maxDischargeDepth := 99) +contextual [h]

@[simp ↓] theorem restartGates_tidy {q s} (h : Tidy q s) : Tidy q (restartGates s) := by
  unfold restartGates; simp (maxDischargeDepth := 99) +contextual [h]

@[simp ↓] theorem openWindow_tidy {q s t} (h : Tidy q s) : Tidy q (openWindow s t) := by
  unfold openWindow; simp (maxDischargeDepth := 99) [h]

@[simp ↓] theorem syncWindow_tidy {q s t} (h : Tidy q s) : Tidy q (syncWindow s t) := by
  unfold syncWindow; simp (maxDischargeDepth := 99) [h]

@[simp ↓] theorem shiftTime_tidy {q s d} (h : Tidy q s) : Tidy q (shiftTime s d) := by
  unfold shiftTime; simp (maxDischargeDepth := 99) [h]

@[simp ↓] theorem stepTime_tidy {q s} (h : Tidy q s) : Tidy q (stepTime s) := by
  unfold stepTime; (repeat' split) <;> simp (maxDischargeDepth := 99) +contextual [h]

@[simp ↓] theorem startCopy_tidy {q s c shut} (h : Tidy q s) : Tidy q (startCopy s c shut) := by
  unfold startCopy; simp (maxDischargeDepth := 99) [h]

@[simp ↓] theorem startCopies_tidy {q s} (h : Tidy q s) : Tidy q (startCopies s) := by
  unfold startCopies; refine tidy_foldl _ (fun _ _ h => ?_) _ h; (repeat' split) <;> simp (maxDischargeDepth := 99) +contextual [h]

@[simp ↓] theorem atRest_tidy {q s} (h : Tidy q s) : Tidy q (atRest s) := by
  unfold atRest; simp (maxDischargeDepth := 99) [h]


/-! ## MerOps -/

@[simp ↓] theorem sendVote_tidy {q s n v} (h : Tidy q s) : Tidy q (sendVote s n v) := by
  unfold sendVote; simp (maxDischargeDepth := 99) [h]

@[simp ↓] theorem sendDown_tidy {q s v} (h : Tidy q s) : Tidy q (sendDown s v) := by
  unfold sendDown; simp (maxDischargeDepth := 99) +contextual [h]

@[simp ↓] theorem sendUp_tidy {q s v} (h : Tidy q s) : Tidy q (sendUp s v) := by
  unfold sendUp; (repeat' split) <;> simp (maxDischargeDepth := 99) +contextual [h]

@[simp ↓] theorem dropVote_tidy {q s v} (h : Tidy q s) : Tidy q (dropVote s v) := by
  unfold dropVote; (repeat' split) <;> simp (maxDischargeDepth := 99) +contextual [h]

@[simp ↓] theorem enterRounds_tidy {q s} (h : Tidy q s) : Tidy q (enterRounds s) := by
  unfold enterRounds; simp (maxDischargeDepth := 99) [h]

@[simp ↓] theorem cowPage_tidy {q s page} (h : Tidy q s) : Tidy q (cowPage s page) := by
  unfold cowPage; simp (maxDischargeDepth := 99) [h]

@[simp ↓] theorem writePage_tidy {q s page d ps} (h : Tidy q s) : Tidy q (writePage s page d ps) := by
  unfold writePage; simp (maxDischargeDepth := 99) [h]

@[simp ↓] theorem writeRecord_tidy {q s} (h : Tidy q s) : Tidy q (writeRecord s) := by
  unfold writeRecord; simp (maxDischargeDepth := 99) [h]

@[simp ↓] theorem loadRecord_tidy {q s b} (h : Tidy q s) : Tidy q (loadRecord s b) := by
  unfold loadRecord; simp (maxDischargeDepth := 99) [h]

@[simp ↓] theorem passBatch_tidy {q s} (h : Tidy q s) : Tidy q (passBatch s) := by
  unfold passBatch; (repeat' split) <;> simp (maxDischargeDepth := 99) +contextual [h]

@[simp ↓] theorem ringKeeps_tidy {q s} (h : Tidy q s) : Tidy q (ringKeeps s) := by
  unfold ringKeeps; simp (maxDischargeDepth := 99) [h]

@[simp ↓] theorem restage_tidy {q s} (h : Tidy q s) : Tidy q (restage s) := by
  unfold restage; (repeat' split) <;> simp (maxDischargeDepth := 99) +contextual [h]

@[simp ↓] theorem putSlot_tidy {q s n x} (h : Tidy q s) : Tidy q (putSlot s n x) := by
  unfold putSlot; simp (maxDischargeDepth := 99) [h]

@[simp ↓] theorem restoreSlot_tidy {q s} (h : Tidy q s) : Tidy q (restoreSlot s) := by
  unfold restoreSlot; simp (maxDischargeDepth := 99) [h]

@[simp ↓] theorem sealSlot_tidy {q s n word} (h : Tidy q s) : Tidy q (sealSlot s n word) := by
  unfold sealSlot; simp (maxDischargeDepth := 99) [h]

@[simp ↓] theorem retainTiles_tidy {q s} (h : Tidy q s) : Tidy q (retainTiles s) := by
  unfold retainTiles; simp (maxDischargeDepth := 99) [h]

@[simp ↓] theorem endJob_tidy {q s} (h : Tidy q s) : Tidy q (endJob s) := by
  unfold endJob; simp (maxDischargeDepth := 99) [h]

@[simp ↓] theorem enterHold_tidy {q s} (h : Tidy q s) : Tidy q (enterHold s) := by
  unfold enterHold; simp (maxDischargeDepth := 99) [h]

@[simp ↓] theorem safePoint_tidy {q s} (h : Tidy q s) : Tidy q (safePoint s) := by
  unfold safePoint; simp (maxDischargeDepth := 99) [h]

@[simp ↓] theorem discardWork_tidy {q s} (h : Tidy q s) : Tidy q (discardWork s) := by
  unfold discardWork; simp (maxDischargeDepth := 99) +contextual [h]

@[simp ↓] theorem startRollback_tidy {q s} (h : Tidy q s) : Tidy q (startRollback s) := by
  unfold startRollback; simp (maxDischargeDepth := 99) [h]

@[simp ↓] theorem rootDecision_tidy {q s p} (h : Tidy q s) : Tidy q (rootDecision s p).1 := by
  unfold rootDecision; simp only []; (repeat' split) <;> simp_all (maxDischargeDepth := 99)

@[simp ↓] theorem growScale_tidy {q s} (h : Tidy q s) : Tidy q (growScale s) := by
  unfold growScale; simp (maxDischargeDepth := 99) [h]

@[simp ↓] theorem closeStep_tidy {q s} (h : Tidy q s) : Tidy q (closeStep s) := by
  unfold closeStep; simp (maxDischargeDepth := 99) [h]

@[simp ↓] theorem launchCommitTasks_tidy {q s} (h : Tidy q s) : Tidy q (launchCommitTasks s) := by
  unfold launchCommitTasks; simp (maxDischargeDepth := 99) +contextual [h]

@[simp ↓] theorem startCommit_tidy {q s} (h : Tidy q s) : Tidy q (startCommit s) := by
  unfold startCommit; simp (maxDischargeDepth := 99) [h]

@[simp ↓] theorem actOn_tidy {q s p} (h : Tidy q s) : Tidy q (actOn s p) := by
  unfold actOn; simp (maxDischargeDepth := 99) [h]

@[simp ↓] theorem endRound_tidy {q s v} (h : Tidy q s) : Tidy q (endRound s v) := by
  unfold endRound; simp only []; (repeat' split) <;> simp_all (maxDischargeDepth := 99)

@[simp ↓] theorem rootDecides_tidy {q s} (h : Tidy q s) : Tidy q (rootDecides s) := by
  unfold rootDecides; simp (maxDischargeDepth := 99) [h]

@[simp ↓] theorem passUp_tidy {q s} (h : Tidy q s) : Tidy q (passUp s) := by
  unfold passUp; simp (maxDischargeDepth := 99) [h]

@[simp ↓] theorem enterVote_tidy {q s} (h : Tidy q s) : Tidy q (enterVote s) := by
  unfold enterVote; simp (maxDischargeDepth := 99) [h]

@[simp ↓] theorem abandonSegment_tidy {q s} (h : Tidy q s) : Tidy q (abandonSegment s) := by
  unfold abandonSegment; simp (maxDischargeDepth := 99) [h]

@[simp ↓] theorem nameCkpt_tidy {q s c} (h : Tidy q s) : Tidy q (nameCkpt s c) := by
  unfold nameCkpt; simp only []; (repeat' split) <;> simp_all (maxDischargeDepth := 99)

@[simp ↓] theorem rewriteSnapshot_tidy {q s} (h : Tidy q s) : Tidy q (rewriteSnapshot s) := by
  unfold rewriteSnapshot; (repeat' split) <;> simp (maxDischargeDepth := 99) +contextual [h]

@[simp ↓] theorem endClose_tidy {q s v} (h : Tidy q s) : Tidy q (endClose s v) := by
  unfold endClose; simp (maxDischargeDepth := 99) [h]

@[simp ↓] theorem closeRoot_tidy {q s} (h : Tidy q s) : Tidy q (closeRoot s) := by
  unfold closeRoot; simp (maxDischargeDepth := 99) [h]

@[simp ↓] theorem stopHere_tidy {q s} (h : Tidy q s) : Tidy q (stopHere s) := by
  unfold stopHere; (repeat' split) <;> simp (maxDischargeDepth := 99) +contextual [h]

@[simp ↓] theorem passClose_tidy {q s} (h : Tidy q s) : Tidy q (passClose s) := by
  unfold passClose; simp (maxDischargeDepth := 99) [h]

@[simp ↓] theorem takeSnapshot_tidy {q s n} (h : Tidy q s) : Tidy q (takeSnapshot s n) := by
  unfold takeSnapshot; simp (maxDischargeDepth := 99) [h]

@[simp ↓] theorem finishCommit_tidy {q s} (h : Tidy q s) : Tidy q (finishCommit s) := by
  unfold finishCommit; simp (maxDischargeDepth := 99) [h]

@[simp ↓] theorem closeGate_tidy {q s} (h : Tidy q s) : Tidy q (closeGate s) := by
  unfold closeGate; simp (maxDischargeDepth := 99) [h]


/-! ## LogOps -/

@[simp ↓] theorem postFill_tidy {q s} (h : Tidy q s) : Tidy q (postFill s) := by
  unfold postFill; simp (maxDischargeDepth := 99) [h]

@[simp ↓] theorem logAppend_tidy {q s type flags key body} (h : Tidy q s) : Tidy q (logAppend s type flags key body) := by
  unfold logAppend; simp only []; (repeat' split) <;> simp_all (maxDischargeDepth := 99)

@[simp ↓] theorem logCommit_tidy {q s g abort} (h : Tidy q s) : Tidy q (logCommit s g abort) := by
  unfold logCommit; (repeat' split) <;> simp (maxDischargeDepth := 99) +contextual [h]

@[simp ↓] theorem logKeep_tidy {q s type key body} (h : Tidy q s) : Tidy q (logKeep s type key body) := by
  unfold logKeep; (repeat' split) <;> simp (maxDischargeDepth := 99) +contextual [h]

@[simp ↓] theorem putChange_tidy {q s origin kind addr old new} (h : Tidy q s) : Tidy q (putChange s origin kind addr old new) := by
  unfold putChange; simp (maxDischargeDepth := 99) [h]

@[simp ↓] theorem noteChange_tidy {q s origin kind addr old new} (h : Tidy q s) : Tidy q (noteChange s origin kind addr old new) := by
  unfold noteChange; simp (maxDischargeDepth := 99) [h]

@[simp ↓] theorem commitOwn_tidy {q s} (h : Tidy q s) : Tidy q (commitOwn s) := by
  unfold commitOwn; simp (maxDischargeDepth := 99) +contextual [h]

@[simp ↓] theorem dropSession_tidy {q s} (h : Tidy q s) : Tidy q (dropSession s) := by
  unfold dropSession; simp (maxDischargeDepth := 99) [h]

@[simp ↓] theorem coreDown_tidy {q s} (h : Tidy q s) : Tidy q (coreDown s) := by
  unfold coreDown; simp (maxDischargeDepth := 99) [h]

@[simp ↓] theorem restartCore_tidy {q s} (h : Tidy q s) : Tidy q (restartCore s) := by
  unfold restartCore; simp (maxDischargeDepth := 99) [h]

@[simp ↓] theorem switchFirmware_tidy {q s} (h : Tidy q s) : Tidy q (switchFirmware s) := by
  unfold switchFirmware; simp (maxDischargeDepth := 99) [h]


/-! ## Shut -/

@[simp ↓] theorem shutterCloses_tidy {q s} (h : Tidy q s) : Tidy q (shutterCloses s) := by
  unfold shutterCloses; simp (maxDischargeDepth := 99) [h]

@[simp ↓] theorem setTileP_tidy {q s p x} (h : Tidy q s) : Tidy q (setTileP s p x) := by
  unfold setTileP; simp (maxDischargeDepth := 99) [h]

@[simp ↓] theorem setCol_tidy {q s c m} (h : Tidy q s) : Tidy q (setCol s c m) := by
  unfold setCol; simp (maxDischargeDepth := 99) [h]

@[simp ↓] theorem slewOrGive_tidy {q s p} (h : Tidy q s) : Tidy q (slewOrGive s p) := by
  unfold slewOrGive; simp (maxDischargeDepth := 99) [h]

@[simp ↓] theorem dropWake_tidy {q s p} (h : Tidy q s) : Tidy q (dropWake s p) := by
  unfold dropWake; simp (maxDischargeDepth := 99) [h]

@[simp ↓] theorem shutterTile_tidy {q s p persist} (h : Tidy q s) : Tidy q (shutterTile s p persist) := by
  unfold shutterTile; simp only []; (repeat' split) <;> simp_all (maxDischargeDepth := 99)

@[simp ↓] theorem shutterLogical_tidy {q s t} (h : Tidy q s) : Tidy q (shutterLogical s t) := by
  unfold shutterLogical; simp (maxDischargeDepth := 99) [h]

@[simp ↓] theorem shutterSlice_tidy {q s i} (h : Tidy q s) : Tidy q (shutterSlice s i) := by
  unfold shutterSlice; simp (maxDischargeDepth := 99) [h]

@[simp ↓] theorem reloadStatic_tidy {q s t} (h : Tidy q s) : Tidy q (reloadStatic s t) := by
  unfold reloadStatic
  split
  · exact h
  · refine tidy_foldl _ (fun s a h => ?_) _ h
    simp (maxDischargeDepth := 99) [h]

@[simp ↓] theorem clearWindow_tidy {q s t} (h : Tidy q s) : Tidy q (clearWindow s t) := by
  unfold clearWindow
  exact ⟨h.queue, h.regs, memFilter_wf _ h.mem, mwf_filter natLt_orders _ h.side, mwf_filter natLt_orders _ h.pcode,
    h.fresh, h.hist⟩

@[simp ↓] theorem finishSlew_tidy {q s c bad} (h : Tidy q s) : Tidy q (finishSlew s c bad) := by
  unfold finishSlew; simp only []; (repeat' split) <;> simp_all (maxDischargeDepth := 99)


/-! ## Prot -/

@[simp ↓] theorem closeRepeats_tidy {q s} (h : Tidy q s) : Tidy q (closeRepeats s) := by
  unfold closeRepeats; simp (maxDischargeDepth := 99) +contextual [h]

@[simp ↓] theorem putPageCode_tidy {q s page ps} (h : Tidy q s) : Tidy q (putPageCode s page ps) := by
  unfold putPageCode
  refine ⟨h.queue, h.regs, h.mem, h.side, ?_, h.fresh, h.hist⟩
  have : ∀ (l : List (Nat × Nat)) (m : NMap Nat), mwf natLt m 0 = true →
      mwf natLt (l.foldl (fun m e => mput natLt m (page / 4096 * 32 + e.2) e.1 0) m) 0 = true := by
    intro l
    induction l with
    | nil => exact fun m hm => hm
    | cons e r ih => exact fun m hm => ih _ (mwf_mput natLt_orders _ _ _ hm)
  exact this _ _ h.pcode

@[simp ↓] theorem pageMismatch_tidy {q s page fixed} (h : Tidy q s) : Tidy q (pageMismatch s page fixed) := by
  unfold pageMismatch
  simp only []
  (repeat' split) <;> simp (maxDischargeDepth := 99) +contextual [h]

@[simp ↓] theorem visitPage_tidy {q s st page} (h : Tidy q s) : Tidy q (visitPage s st page) := by
  unfold visitPage; simp (maxDischargeDepth := 99) +contextual [h]

@[simp ↓] theorem setChkData_tidy {q s d} (h : Tidy q s) : Tidy q (setChkData s d) := by
  unfold setChkData; simp (maxDischargeDepth := 99) +contextual [h]

@[simp ↓] theorem chkWriteRaw_tidy {q s a} (h : Tidy q s) : Tidy q (chkWriteRaw s a) := by
  unfold chkWriteRaw
  have h2 := putPageBits_tidy (page := a / 4096 * 4096) (w := a / 32 % 128) (v := getF s F.CHK_SIDE_PAGE_BITS 0) h
  refine ⟨h2.queue, h2.regs, memWrite_wf _ _ h2.mem, mwf_mput natLt_orders _ _ _ h2.side, h2.pcode, ?_, h2.hist⟩
  dsimp only
  split
  · exact mwf_mput natLt_orders _ _ _ h2.fresh
  · exact h2.fresh

@[simp ↓] theorem chkReadRaw_tidy {q s a} (h : Tidy q s) : Tidy q (chkReadRaw s a) := by
  unfold chkReadRaw; simp (maxDischargeDepth := 99) [h]

@[simp ↓] theorem chkDecode_tidy {q s a} (h : Tidy q s) : Tidy q (chkDecode s a) := by
  unfold chkDecode; simp only []; (repeat' split) <;> simp_all (maxDischargeDepth := 99)

@[simp ↓] theorem chkRecover_tidy {q s a} (h : Tidy q s) : Tidy q (chkRecover s a) := by
  unfold chkRecover
  dsimp only
  split
  · exact setB_tidy (setChkData_tidy h)
  · exact setB_tidy h

@[simp ↓] theorem writeChk_tidy {q s v origin} (h : Tidy q s) : Tidy q (writeChk s v origin) := by
  unfold writeChk; (repeat' split) <;> simp (maxDischargeDepth := 99) +contextual [h]

end Sys2Proof.Machine
end

