-- ==== Sys2Proof/Laws/TidyUnits.lean ====
section
/-!
SUPPORT. `Tidy` is kept by the deep store, the arrays, the channels, the ephemeris, the links, the services and the towers: one law per operation.
-/
namespace Sys2Proof.Machine

/-! ## Deep -/

theorem needsRecovery_tidy {q s x base} (h : Tidy q s) : ∀ t, needsRecovery s x base = some t → Tidy q t := by
  intro t ht
  unfold needsRecovery at ht
  simp only [] at ht
  split at ht
  · cases ht
  · cases ht; simp (maxDischargeDepth := 99) +contextual [h]

@[simp ↓] theorem dropGranted_tidy {q s i id} (h : Tidy q s) : Tidy q (dropGranted s i id) := by
  unfold dropGranted; simp (maxDischargeDepth := 99) [h]

theorem joinOverflow_tidy {q s i x} (h : Tidy q s) : ∀ u', joinOverflow s i x = some u' → Tidy q u' := by
  unfold joinOverflow; simp only []; (repeat' split) <;> simp_all (maxDischargeDepth := 99)

@[simp ↓] theorem missRead_tidy {q s i x chan pl} (h : Tidy q s) : Tidy q (missRead s i x chan pl) := by
  unfold missRead; simp (maxDischargeDepth := 99) [h]

@[simp ↓] theorem missWrite_tidy {q s i x} (h : Tidy q s) : Tidy q (missWrite s i x) := by
  unfold missWrite; simp (maxDischargeDepth := 99) [h]

@[simp ↓] theorem lpddrAccess_tidy {q s i x p} (h : Tidy q s) : Tidy q (lpddrAccess s i x p) := by
  unfold lpddrAccess
  dsimp only
  split
  · rename_i t ht
    have := joinOverflow_tidy h _ ht
    simp (maxDischargeDepth := 99) [this]
  split
  · split
    · rename_i t ht; exact needsRecovery_tidy h _ ht
    · (repeat' split) <;> simp (maxDischargeDepth := 99) [h]
  · split
    · split
      · rename_i t ht
        have h2 := iteNone_tidy (allocate_tidy (lookup_tidy h)) _ ht
        split <;> simp (maxDischargeDepth := 99) [h2]
      · split
        · rename_i t ht; exact needsRecovery_tidy h _ ht
        · simp (maxDischargeDepth := 99) [h]
    · simp (maxDischargeDepth := 99) [h]

@[simp ↓] theorem performAccess_tidy {q s i x} (h : Tidy q s) : Tidy q (performAccess s i x) := by
  unfold performAccess
  simp only []
  split
  · simp (maxDischargeDepth := 99) [h]
  have h2 : Tidy q (if x.kind = .write ∧ isCommitted s x.addr then cowPage s (x.addr / 4096) else s) := by
    simp (maxDischargeDepth := 99) [h]
  generalize (if x.kind = .write ∧ isCommitted s x.addr then cowPage s (x.addr / 4096) else s) = s' at h2 ⊢
  split
  · simp (maxDischargeDepth := 99) [h2]
  split
  · split
    · rename_i t ht; exact needsRecovery_tidy h2 _ ht
    · split <;> simp (maxDischargeDepth := 99) [h2]
  · split <;> simp (maxDischargeDepth := 99) [h2]

@[simp ↓] theorem unpinAll_tidy {q s} (h : Tidy q s) : Tidy q (unpinAll s) := by
  unfold unpinAll; simp (maxDischargeDepth := 99) [h]

@[simp ↓] theorem pinLine_tidy {q s a} (h : Tidy q s) : Tidy q (pinLine s a).1 := by
  unfold pinLine
  split
  · exact h
  · rename_i p _
    simp only []
    split
    · exact h
    · rename_i t ht
      have h2 : Tidy q t := by
        split at ht
        · cases ht; exact h
        · exact allocate_tidy h _ ht
      have h3 : ∀ y : CLine, Tidy q (if y.filled then t else fillLine t p y) := fun y => by
        simp (maxDischargeDepth := 99) [h2]
      (repeat' split) <;> simp (maxDischargeDepth := 99) [h, h2]

@[simp ↓] theorem pinWindow_tidy {q s r} (h : Tidy q s) : Tidy q (pinWindow s r).1 := by
  unfold pinWindow; simp (maxDischargeDepth := 99) +contextual [h]

@[simp ↓] theorem writeLive_tidy {q s i set x} (h : Tidy q s) : Tidy q (writeLive s i set x) := by
  unfold writeLive; (repeat' split) <;> simp (maxDischargeDepth := 99) +contextual [h]

@[simp ↓] theorem dropCommittedLines_tidy {q s} (h : Tidy q s) : Tidy q (dropCommittedLines s) := by
  unfold dropCommittedLines; simp (maxDischargeDepth := 99) +contextual [h]

@[simp ↓] theorem flushSlice_tidy {q s i} (h : Tidy q s) : Tidy q (flushSlice s i) := by
  unfold flushSlice; simp (maxDischargeDepth := 99) +contextual [h]

@[simp ↓] theorem dropScratch_tidy {q s i} (h : Tidy q s) : Tidy q (dropScratch s i) := by
  unfold dropScratch
  exact ⟨h.queue, h.regs, memFilter_wf _ h.mem, mwf_filter natLt_orders _ h.side, mwf_filter natLt_orders _ h.pcode,
    h.fresh, h.hist⟩

@[simp ↓] theorem moveRequests_tidy {q s i j} (h : Tidy q s) : Tidy q (moveRequests s i j) := by
  unfold moveRequests; simp (maxDischargeDepth := 99) +contextual [h]

@[simp ↓] theorem loadChanged_tidy {q s} (h : Tidy q s) : Tidy q (loadChanged s) := by
  unfold loadChanged; (repeat' split) <;> simp (maxDischargeDepth := 99) +contextual [h]

@[simp ↓] theorem pinLines_tidy {q s as} (h : Tidy q s) : Tidy q (pinLines s as).1 := by
  unfold pinLines; simp (maxDischargeDepth := 99) +contextual [h]


/-! ## Coadd -/

@[simp ↓] theorem coaddStore_tidy {q s i op key a d ps} (h : Tidy q s) : Tidy q (coaddStore s i op key a d ps) := by
  unfold coaddStore; simp (maxDischargeDepth := 99) [h]

@[simp ↓] theorem coaddCached_tidy {q s i op key x4 y a d ps} (h : Tidy q s) : Tidy q (coaddCached s i op key x4 y a d ps) := by
  unfold coaddCached
  exact coaddInto_tidy (fun _ _ _ _ h => cohWrite_tidy h) (noteRange_tidy (recoverRange_tidy (tidy_ite h (fillLine_tidy h))))

@[simp ↓] theorem noteOverflow_tidy {q s i a} (h : Tidy q s) : Tidy q (noteOverflow s i a) := by
  unfold noteOverflow; simp (maxDischargeDepth := 99) [h]

@[simp ↓] theorem coaddWay_tidy {q s who p a} (h : Tidy q s) : Tidy q (coaddWay s who p a).1 := by
  unfold coaddWay
  dsimp only
  split
  · simp (maxDischargeDepth := 99) [h]
  · split
    · simp (maxDischargeDepth := 99) [h]
    · rename_i t ht
      have h2 : Tidy q t := allocate_tidy (tidy_ite (by simp (maxDischargeDepth := 99) [h]) (by simp (maxDischargeDepth := 99) [h])) _ ht
      split <;> simp (maxDischargeDepth := 99) [h2]

@[simp ↓] theorem coaddLine_tidy {q s i x f a d ps} (h : Tidy q s) : Tidy q (coaddLine s i x f a d ps) := by
  unfold coaddLine
  dsimp only
  split
  · simp (maxDischargeDepth := 99) [h]
  · refine tidy_ite ?_ ?_
    · simp (maxDischargeDepth := 99) [h]
    · split <;> simp (maxDischargeDepth := 99) [h]

@[simp ↓] theorem engineAddLine_tidy {q s i op key a d ps} (h : Tidy q s) : Tidy q (engineAddLine s i op key a d ps) := by
  unfold engineAddLine; simp only []; (repeat' split) <;> simp_all (maxDischargeDepth := 99)

@[simp ↓] theorem engineCoadd_tidy {q s i op key a d ps} (h : Tidy q s) : Tidy q (engineCoadd s i op key a d ps) := by
  unfold engineCoadd; simp (maxDischargeDepth := 99) +contextual [h]

@[simp ↓] theorem applyFrag_tidy {q s i x f} (h : Tidy q s) : Tidy q (applyFrag s i x f) := by
  unfold applyFrag
  exact setF_tidy (tidy_foldl _ (fun _ _ h => coaddLine_tidy h) _ h)

@[simp ↓] theorem fragAccepted_tidy {q s x f} (h : Tidy q s) : Tidy q (fragAccepted s x f) := by
  unfold fragAccepted; simp only []; (repeat' split) <;> simp_all (maxDischargeDepth := 99)

@[simp ↓] theorem noteApplied_tidy {q s i f} (h : Tidy q s) : Tidy q (noteApplied s i f) := by
  unfold noteApplied; simp (maxDischargeDepth := 99) [h]

@[simp ↓] theorem takeFrag_tidy {q s i x f} (h : Tidy q s) : Tidy q (takeFrag s i x f) := by
  unfold takeFrag; simp (maxDischargeDepth := 99) [h]

@[simp ↓] theorem drainWindow_tidy {q s i n} (h : Tidy q s) : Tidy q (drainWindow s i n) := by
  induction n generalizing s with
  | zero => exact h
  | succ n ih =>
    unfold drainWindow
    split
    · exact h
    · exact ih (by simp (maxDischargeDepth := 99) [h])

@[simp ↓] theorem arriveStrict_tidy {q s i x f} (h : Tidy q s) : Tidy q (arriveStrict s i x f) := by
  unfold arriveStrict; simp (maxDischargeDepth := 99) [h]

@[simp ↓] theorem updRead_tidy {q s pg fmt e} (h : Tidy q s) : Tidy q (updRead s pg fmt e).1 := by
  unfold updRead; simp (maxDischargeDepth := 99) [h]

@[simp ↓] theorem updWrite_tidy {q s slice pg fmt e code} (h : Tidy q s) : Tidy q (updWrite s slice pg fmt e code) := by
  unfold updWrite; simp (maxDischargeDepth := 99) [h]

@[simp ↓] theorem updShare_tidy {q s u} (h : Tidy q s) : Tidy q (updShare s u).1 := by
  unfold updShare; simp (maxDischargeDepth := 99) [h]

@[simp ↓] theorem updElem_tidy {q s u idx x3 e} (h : Tidy q s) : Tidy q (updElem s u idx x3 e) := by
  unfold updElem; (repeat' split) <;> simp (maxDischargeDepth := 99) +contextual [h]

@[simp ↓] theorem updElems_tidy {q s u idx hh e n} (h : Tidy q s) : Tidy q (updElems s u idx hh e n) := by
  induction n generalizing s e with
  | zero => exact h
  | succ n ih => unfold updElems; simp (maxDischargeDepth := 99) [h, ih]

@[simp ↓] theorem updBias_tidy {q s u x2} (h : Tidy q s) : Tidy q (updBias s u x2) := by
  unfold updBias; simp (maxDischargeDepth := 99) [h]


/-! ## Arb -/

@[simp ↓] theorem grant_tidy {q s t x} (h : Tidy q s) : Tidy q (grant s t x) := by
  unfold grant; simp (maxDischargeDepth := 99) [h]

@[simp ↓] theorem breakLock_tidy {q s t} (h : Tidy q s) : Tidy q (breakLock s t) := by
  unfold breakLock; simp only []; (repeat' split) <;> simp_all (maxDischargeDepth := 99)

@[simp ↓] theorem arbitrate_tidy {q s t} (h : Tidy q s) : Tidy q (arbitrate s t) := by
  unfold arbitrate; simp only []; (repeat' split) <;> simp_all (maxDischargeDepth := 99)

@[simp ↓] theorem postQuotas_tidy {q s} (h : Tidy q s) : Tidy q (postQuotas s) := by
  unfold postQuotas; simp (maxDischargeDepth := 99) +contextual [h]

@[simp ↓] theorem rescale_tidy {q s note} (h : Tidy q s) : Tidy q (rescale s note) := by
  unfold rescale; simp (maxDischargeDepth := 99) +contextual [h]


/-! ## Array -/

@[simp ↓] theorem startOp_tidy {q s t d bundle rerun poison} (h : Tidy q s) : Tidy q (startOp s t d bundle rerun poison) := by
  unfold startOp; simp (maxDischargeDepth := 99) [h]

@[simp ↓] theorem moveSets_tidy {q s t o} (h : Tidy q s) : Tidy q (moveSets s t o) := by
  unfold moveSets; simp (maxDischargeDepth := 99) [h]

@[simp ↓] theorem passDone_tidy {q s t o} (h : Tidy q s) : Tidy q (passDone s t o) := by
  unfold passDone; simp (maxDischargeDepth := 99) [h]

@[simp ↓] theorem recoverScales_tidy {q s t d a} (h : Tidy q s) : Tidy q (recoverScales s t d a) := by
  unfold recoverScales; simp (maxDischargeDepth := 99) +contextual [h]

@[simp ↓] theorem recordKept_tidy {q s t} (h : Tidy q s) : Tidy q (recordKept s t) := by
  unfold recordKept; (repeat' split) <;> simp (maxDischargeDepth := 99) +contextual [h]

@[simp ↓] theorem startRerunOp_tidy {q s t d bundle poison} (h : Tidy q s) : Tidy q (startRerunOp s t d bundle poison) := by
  unfold startRerunOp; simp (maxDischargeDepth := 99) [h]

@[simp ↓] theorem captureArr_tidy {q s t code array pass} (h : Tidy q s) : Tidy q (captureArr s t code array pass) := by
  unfold captureArr; simp (maxDischargeDepth := 99) [h]

@[simp ↓] theorem arrayRepeat_tidy {q s t} (h : Tidy q s) : Tidy q (arrayRepeat s t) := by
  unfold arrayRepeat; simp (maxDischargeDepth := 99) [h]

@[simp ↓] theorem recoverWeights_tidy {q s t d} (h : Tidy q s) : Tidy q (recoverWeights s t d) := by
  unfold recoverWeights; (repeat' split) <;> simp (maxDischargeDepth := 99) +contextual [h]

@[simp ↓] theorem recoverOps_tidy {q s t ops} (h : Tidy q s) : Tidy q (recoverOps s t ops).1 := by
  unfold recoverOps; simp (maxDischargeDepth := 99) +contextual [h]

@[simp ↓] theorem discardChecked_tidy {q s t f} (h : Tidy q s) : Tidy q (discardChecked s t f) := by
  unfold discardChecked; (repeat' split) <;> simp (maxDischargeDepth := 99) +contextual [h]

@[simp ↓] theorem pendRerun_tidy {q s t o poison} (h : Tidy q s) : Tidy q (pendRerun s t o poison) := by
  unfold pendRerun; (repeat' split) <;> simp (maxDischargeDepth := 99) +contextual [h]

@[simp ↓] theorem laterRerun_tidy {q s t r poison} (h : Tidy q s) : Tidy q (laterRerun s t r poison) := by
  unfold laterRerun; (repeat' split) <;> simp (maxDischargeDepth := 99) +contextual [h]

@[simp ↓] theorem faultActs_tidy {q s t fs} (h : Tidy q s) : Tidy q (faultActs s t fs) := by
  unfold faultActs; simp only []; (repeat' split) <;> simp_all (maxDischargeDepth := 99)

@[simp ↓] theorem arrayFaults_tidy {q s t fs} (h : Tidy q s) : Tidy q (arrayFaults s t fs) := by
  unfold arrayFaults; simp (maxDischargeDepth := 99) +contextual [h]


/-! ## Chan -/

@[simp ↓] theorem chanEvent_tidy {q s c code origin} (h : Tidy q s) : Tidy q (chanEvent s c code origin) := by
  unfold chanEvent; simp (maxDischargeDepth := 99) [h]

@[simp ↓] theorem postDerate_tidy {q s c} (h : Tidy q s) : Tidy q (postDerate s c) := by
  unfold postDerate; simp (maxDischargeDepth := 99) [h]

@[simp ↓] theorem takeDerate_tidy {q s c} (h : Tidy q s) : Tidy q (takeDerate s c) := by
  unfold takeDerate; simp (maxDischargeDepth := 99) [h]

@[simp ↓] theorem setTemp_tidy {q s c st} (h : Tidy q s) : Tidy q (setTemp s c st) := by
  unfold setTemp; simp (maxDischargeDepth := 99) [h]

@[simp ↓] theorem tempPoll_tidy {q s c temp out} (h : Tidy q s) : Tidy q (tempPoll s c temp out) := by
  unfold tempPoll; simp (maxDischargeDepth := 99) +contextual [h]

@[simp ↓] theorem postSpreads_tidy {q s c} (h : Tidy q s) : Tidy q (postSpreads s c) := by
  unfold postSpreads; simp (maxDischargeDepth := 99) +contextual [h]

@[simp ↓] theorem flushLines_tidy {q s p} (h : Tidy q s) : Tidy q (flushLines s p) := by
  unfold flushLines; simp (maxDischargeDepth := 99) +contextual [h]

@[simp ↓] theorem flushChannel_tidy {q s c} (h : Tidy q s) : Tidy q (flushChannel s c) := by
  unfold flushChannel; simp (maxDischargeDepth := 99) [h]

@[simp ↓] theorem moveQueue_tidy {q s c} (h : Tidy q s) : Tidy q (moveQueue s c) := by
  unfold moveQueue; refine tidy_foldl _ (fun _ _ h => ?_) _ h; (repeat' split) <;> simp (maxDischargeDepth := 99) +contextual [h]

@[simp ↓] theorem closeChannel_tidy {q s c origin} (h : Tidy q s) : Tidy q (closeChannel s c origin) := by
  unfold closeChannel; simp (maxDischargeDepth := 99) [h]

@[simp ↓] theorem spreadShort_tidy {q s} (h : Tidy q s) : Tidy q (spreadShort s) := by
  unfold spreadShort; simp (maxDischargeDepth := 99) +contextual [h]

@[simp ↓] theorem loseChannel_tidy {q s c} (h : Tidy q s) : Tidy q (loseChannel s c) := by
  unfold loseChannel
  simp only []
  have h1 := dropCached_tidy (p := linesIn s c) h
  have h2 : ∀ (p : Nat × Bool → Bool) l, Tidy q { dropCached s (linesIn s c) with store := { (dropCached s (linesIn s c)).store with
      lost := l, fresh := (dropCached s (linesIn s c)).store.fresh.filter p } } := fun p l =>
    ⟨h1.queue, h1.regs, h1.mem, h1.side, h1.pcode, mwf_filter natLt_orders _ h1.fresh, h1.hist⟩
  have h3 : ∀ (b : Bool) p l, Tidy q (if b = true then clearIntact { dropCached s (linesIn s c) with store := { (dropCached s (linesIn s c)).store with
      lost := l, fresh := (dropCached s (linesIn s c)).store.fresh.filter p } } else { dropCached s (linesIn s c) with store := { (dropCached s (linesIn s c)).store with
      lost := l, fresh := (dropCached s (linesIn s c)).store.fresh.filter p } }) := fun b p l =>
    tidy_ite (clearIntact_tidy (h2 p l)) (h2 p l)
  split
  · refine tidy_ite ?_ (h3 _ _ _)
    refine record_tidy ?_
    exact h3 _ _ _
  · exact h3 _ _ _

@[simp ↓] theorem loseShare_tidy {q s c} (h : Tidy q s) : Tidy q (loseShare s c) := by
  have hl : ∀ {u l}, Tidy q u → Tidy q { u with store := { u.store with lost := l, fresh := u.store.fresh.filter (fun e => !(match homeOf s (32 * e.1) with
    | some (o, _, _) => o == c
    | none => false)) } } := fun h =>
    ⟨h.queue, h.regs, h.mem, h.side, h.pcode, mwf_filter natLt_orders _ h.fresh, h.hist⟩
  unfold loseShare
  dsimp only
  exact tidy_ite (clearIntact_tidy (hl (dropCached_tidy h))) (hl (dropCached_tidy h))

@[simp ↓] theorem faultChannel_tidy {q s c} (h : Tidy q s) : Tidy q (faultChannel s c) := by
  unfold faultChannel; simp (maxDischargeDepth := 99) [h]

@[simp ↓] theorem openChannel_tidy {q s c} (h : Tidy q s) : Tidy q (openChannel s c) := by
  unfold openChannel; simp (maxDischargeDepth := 99) [h]

@[simp ↓] theorem serviceChannel_tidy {q s c shut} (h : Tidy q s) : Tidy q (serviceChannel s c shut) := by
  unfold serviceChannel; simp (maxDischargeDepth := 99) [h]

@[simp ↓] theorem stepRate_tidy {q s} (h : Tidy q s) : Tidy q (stepRate s) := by
  unfold stepRate
  simp only []
  refine tidy_foldl _ (fun s a h => ?_) _ ?_
  · simp (maxDischargeDepth := 99) [h]
  · have h2 : Tidy q (setF (record s C.CH_RATE_STEP 0) F.MEM_CFG_RATE 0 (getF (record s C.CH_RATE_STEP 0) F.MEM_CFG_RATE 0 + 1)) := by
      simp (maxDischargeDepth := 99) [h]
    exact ⟨h2.queue, h2.regs, h2.mem, h2.side, h2.pcode, rfl, h2.hist⟩

@[simp ↓] theorem trainedOk_tidy {q s c train re we} (h : Tidy q s) : Tidy q (trainedOk s c train re we) := by
  unfold trainedOk; simp (maxDischargeDepth := 99) [h]

@[simp ↓] theorem lampRun_tidy {q s c} (h : Tidy q s) : Tidy q (lampRun s c) := by
  unfold lampRun; simp (maxDischargeDepth := 99) [h]

@[simp ↓] theorem lampEnd_tidy {q s c} (h : Tidy q s) : Tidy q (lampEnd s c) := by
  unfold lampEnd; simp only []; (repeat' split) <;> simp_all (maxDischargeDepth := 99)

@[simp ↓] theorem writeLamp_tidy {q s c v origin} (h : Tidy q s) : Tidy q (writeLamp s c v origin) := by
  unfold writeLamp; simp (maxDischargeDepth := 99) [h]


/-! ## Eph -/

@[simp ↓] theorem postPower_tidy {q s} (h : Tidy q s) : Tidy q (postPower s) := by
  unfold postPower; simp (maxDischargeDepth := 99) [h]

@[simp ↓] theorem raiseThermal_tidy {q s v} (h : Tidy q s) : Tidy q (raiseThermal s v) := by
  unfold raiseThermal; simp (maxDischargeDepth := 99) [h]

@[simp ↓] theorem openSegment_tidy {q s} (h : Tidy q s) : Tidy q (openSegment s) := by
  unfold openSegment; simp (maxDischargeDepth := 99) [h]

@[simp ↓] theorem openSlot_tidy {q s} (h : Tidy q s) : Tidy q (openSlot s) := by
  unfold openSlot; simp (maxDischargeDepth := 99) [h]

@[simp ↓] theorem pushBundle_tidy {q s t i} (h : Tidy q s) : Tidy q (pushBundle s t i) := by
  unfold pushBundle; simp (maxDischargeDepth := 99) [h]

@[simp ↓] theorem issueArray_tidy {q s t} (h : Tidy q s) : Tidy q (issueArray s t) := by
  unfold issueArray; (repeat' split) <;> simp (maxDischargeDepth := 99) +contextual [h]

@[simp ↓] theorem clearIdle_tidy {q s t} (h : Tidy q s) : Tidy q (clearIdle s t) := by
  unfold clearIdle; simp (maxDischargeDepth := 99) [h]

@[simp ↓] theorem movIssued_tidy {q s t f} (h : Tidy q s) : Tidy q (movIssued s t f) := by
  unfold movIssued; simp (maxDischargeDepth := 99) [h]

@[simp ↓] theorem startRead_tidy {q s t f kind tk} (h : Tidy q s) : Tidy q (startRead s t f kind tk) := by
  unfold startRead; simp (maxDischargeDepth := 99) [h]

@[simp ↓] theorem sendFrag_tidy {q s f} (h : Tidy q s) : Tidy q (sendFrag s f) := by
  unfold sendFrag; simp (maxDischargeDepth := 99) [h]

@[simp ↓] theorem sentBytes_tidy {q s x} (h : Tidy q s) : Tidy q (sentBytes s x).1 := by
  unfold sentBytes; simp (maxDischargeDepth := 99) [h]

@[simp ↓] theorem sendRead_tidy {q s x} (h : Tidy q s) : Tidy q (sendRead s x) := by
  unfold sendRead; simp (maxDischargeDepth := 99) +contextual [h]

@[simp ↓] theorem startSend_tidy {q s t f kind left} (h : Tidy q s) : Tidy q (startSend s t f kind left) := by
  unfold startSend; simp (maxDischargeDepth := 99) [h]

@[simp ↓] theorem readWaiting_tidy {q s x} (h : Tidy q s) : Tidy q (readWaiting s x) := by
  unfold readWaiting; simp (maxDischargeDepth := 99) [h]

@[simp ↓] theorem joinTask_tidy {q s t tok id bundle} (h : Tidy q s) : Tidy q (joinTask s t tok id bundle) := by
  unfold joinTask; simp only []; (repeat' split) <;> simp_all (maxDischargeDepth := 99)

@[simp ↓] theorem landTurn_tidy {q s t off b d ps} (h : Tidy q s) : Tidy q (landTurn s t off b d ps) := by
  unfold landTurn; simp (maxDischargeDepth := 99) +contextual [h]

@[simp ↓] theorem landXfer_tidy {q s x} (h : Tidy q s) : Tidy q (landXfer s x) := by
  unfold landXfer; (repeat' split) <;> simp (maxDischargeDepth := 99) +contextual [h]


/-! ## Blk -/

@[simp ↓] theorem pushReplay_tidy {q s t} (h : Tidy q s) : Tidy q (pushReplay s t) := by
  unfold pushReplay; simp (maxDischargeDepth := 99) [h]

@[simp ↓] theorem copyBlock_tidy {q s x r} (h : Tidy q s) : Tidy q (copyBlock s x r) := by
  unfold copyBlock; simp (maxDischargeDepth := 99) [h]

@[simp ↓] theorem copyBlocks_tidy {q s id r n} (h : Tidy q s) : Tidy q (copyBlocks s id r n) := by
  induction n generalizing s with
  | zero => exact h
  | succ n ih =>
    unfold copyBlocks
    split
    · exact h
    · exact tidy_ite h (ih (by simp (maxDischargeDepth := 99) [h]))

@[simp ↓] theorem copySend_tidy {q s x} (h : Tidy q s) : Tidy q (copySend s x) := by
  unfold copySend; simp only []; (repeat' split) <;> simp_all (maxDischargeDepth := 99)

@[simp ↓] theorem netIssued_tidy {q s t f} (h : Tidy q s) : Tidy q (netIssued s t f) := by
  unfold netIssued; simp (maxDischargeDepth := 99) [h]

@[simp ↓] theorem startNet_tidy {q s t f kind left} (h : Tidy q s) : Tidy q (startNet s t f kind left).1 := by
  unfold startNet; simp (maxDischargeDepth := 99) [h]

@[simp ↓] theorem emitBlock_tidy {q s p cls b} (h : Tidy q s) : Tidy q (emitBlock s p cls b) := by
  unfold emitBlock; (repeat' split) <;> simp (maxDischargeDepth := 99) +contextual [h]

@[simp ↓] theorem poisonLeaves_tidy {q s p stream} (h : Tidy q s) : Tidy q (poisonLeaves s p stream) := by
  unfold poisonLeaves; simp (maxDischargeDepth := 99) [h]

@[simp ↓] theorem feedReplay_tidy {q s n} (h : Tidy q s) : Tidy q (feedReplay s n) := by
  induction n generalizing s with
  | zero => exact h
  | succ n ih =>
    unfold feedReplay
    split
    · exact h
    · exact ih (by simp (maxDischargeDepth := 99) [h])

@[simp ↓] theorem putRecv_tidy {q s v} (h : Tidy q s) : Tidy q (putRecv s v) := by
  unfold putRecv; simp (maxDischargeDepth := 99) [h]

@[simp ↓] theorem sendNak_tidy {q v s x} (h : Tidy q s) : Tidy q (sendNak v s x) := by
  unfold sendNak; (repeat' split) <;> simp (maxDischargeDepth := 99) +contextual [h]

@[simp ↓] theorem nakKeys_tidy {q s v keys} (h : Tidy q s) : Tidy q (nakKeys s v keys) := by
  unfold nakKeys
  exact tidy_ite h (putRecv_tidy (tidy_foldl _ (fun s a h => sendNak_tidy h) _ h))

@[simp ↓] theorem landBlock_tidy {q s x port b} (h : Tidy q s) : Tidy q (landBlock s x port b) := by
  unfold landBlock; simp only []; (repeat' split) <;> simp_all (maxDischargeDepth := 99)

@[simp ↓] theorem takeExpect_tidy {q s v x port b} (h : Tidy q s) : Tidy q (takeExpect s v x port b) := by
  unfold takeExpect; simp (maxDischargeDepth := 99) [h]

@[simp ↓] theorem holdBlock_tidy {q s port b} (h : Tidy q s) : Tidy q (holdBlock s port b) := by
  unfold holdBlock; simp (maxDischargeDepth := 99) [h]

theorem takeHeld_tidy {q s p f} (hf : ∀ s b, Tidy q s → Tidy q (f s b)) (h : Tidy q s) : Tidy q (takeHeld s p f) := by
  unfold takeHeld; simp (maxDischargeDepth := 99) +contextual [h, hf]


/-! ## Coll -/

@[simp ↓] theorem putRun_tidy {q s c} (h : Tidy q s) : Tidy q (putRun s c) := by
  unfold putRun; simp (maxDischargeDepth := 99) [h]

@[simp ↓] theorem engineRead_tidy {q s a} (h : Tidy q s) : Tidy q (engineRead s a).1 := by
  unfold engineRead; simp (maxDischargeDepth := 99) [h]

theorem engineMay_tidy {q s a} (h : Tidy q s) : ∀ t, engineMay s a = some t → Tidy q t := by
  intro t ht
  unfold engineMay at ht
  (repeat' split at ht) <;> cases ht <;> simp (maxDischargeDepth := 99) [h]

@[simp ↓] theorem engineWrite_tidy {q s a d ps} (h : Tidy q s) : Tidy q (engineWrite s a d ps) := by
  unfold engineWrite
  split
  · rename_i t ht; exact engineMay_tidy h _ ht
  · simp (maxDischargeDepth := 99) [h]

@[simp ↓] theorem engineAdd_tidy {q s op id seq a d ps} (h : Tidy q s) : Tidy q (engineAdd s op id seq a d ps) := by
  unfold engineAdd
  split
  · rename_i t ht; exact engineMay_tidy h _ ht
  · simp (maxDischargeDepth := 99) [h]

@[simp ↓] theorem collSend_tidy {q s id cls dst step b chunk d ps} (h : Tidy q s) : Tidy q (collSend s id cls dst step b chunk d ps) := by
  unfold collSend; (repeat' split) <;> simp (maxDischargeDepth := 99) +contextual [h]

@[simp ↓] theorem sendChunk_tidy {q s id p dst step chunk a} (h : Tidy q s) : Tidy q (sendChunk s id p dst step chunk a) := by
  unfold sendChunk; simp (maxDischargeDepth := 99) +contextual [h]

@[simp ↓] theorem copyChunk_tidy {q s p from_ to_} (h : Tidy q s) : Tidy q (copyChunk s p from_ to_) := by
  unfold copyChunk; simp (maxDischargeDepth := 99) +contextual [h]

@[simp ↓] theorem startPhase_tidy {q s id p base} (h : Tidy q s) : Tidy q (startPhase s id p base) := by
  unfold startPhase; simp (maxDischargeDepth := 99) +contextual [h]

@[simp ↓] theorem applyBlock_tidy {q s id p base b} (h : Tidy q s) : Tidy q (applyBlock s id p base b) := by
  unfold applyBlock
  dsimp only
  (repeat' split) <;> simp (maxDischargeDepth := 99) [h]

@[simp ↓] theorem advancePhase_tidy {q s c p base} (h : Tidy q s) : Tidy q (advancePhase s c p base) := by
  unfold advancePhase; simp only []; (repeat' split) <;> simp_all (maxDischargeDepth := 99)

@[simp ↓] theorem drainColl_tidy {q s xfer n} (h : Tidy q s) : Tidy q (drainColl s xfer n) := by
  induction n generalizing s with
  | zero => exact h
  | succ n ih => unfold drainColl; (repeat' split) <;> first | exact h | exact ih (by simp (maxDischargeDepth := 99) [h])

@[simp ↓] theorem takeColl_tidy {q s v c port b} (h : Tidy q s) : Tidy q (takeColl s v c port b) := by
  unfold takeColl; simp (maxDischargeDepth := 99) [h]

@[simp ↓] theorem takeNak_tidy {q s port b} (h : Tidy q s) : Tidy q (takeNak s port b) := by
  unfold takeNak; simp (maxDischargeDepth := 99) [h]

@[simp ↓] theorem nakBad_tidy {q s b} (h : Tidy q s) : Tidy q (nakBad s b) := by
  unfold nakBad; (repeat' split) <;> simp (maxDischargeDepth := 99) +contextual [h]

@[simp ↓] theorem takeBlock_tidy {q s port b} (h : Tidy q s) : Tidy q (takeBlock s port b) := by
  unfold takeBlock; (repeat' split) <;> simp (maxDischargeDepth := 99) +contextual [h]


/-! ## Ports -/

@[simp ↓] theorem learn_tidy {q s port f} (h : Tidy q s) : Tidy q (learn s port f) := by
  unfold learn; simp (maxDischargeDepth := 99) [h]

@[simp ↓] theorem forwardTo_tidy {q port f s p} (h : Tidy q s) : Tidy q (forwardTo port f s p) := by
  unfold forwardTo; simp (maxDischargeDepth := 99) [h]

@[simp ↓] theorem forward_tidy {q s port f} (h : Tidy q s) : Tidy q (forward s port f) := by
  unfold forward
  simp only []
  split
  · simp (maxDischargeDepth := 99) [h]
  · split
    · simp (maxDischargeDepth := 99) [h]
    · refine tidy_foldl _ (fun s a h => ?_) _ ?_ <;> simp (maxDischargeDepth := 99) [h]

@[simp ↓] theorem shutterPortDue_tidy {q s p} (h : Tidy q s) : Tidy q (shutterPortDue s p) := by
  unfold shutterPortDue; simp (maxDischargeDepth := 99) [h]

@[simp ↓] theorem losePort_tidy {q s p} (h : Tidy q s) : Tidy q (losePort s p) := by
  unfold losePort; simp (maxDischargeDepth := 99) [h]

@[simp ↓] theorem keepLanes_tidy {q s g ok} (h : Tidy q s) : Tidy q (keepLanes s g ok) := by
  unfold keepLanes; simp (maxDischargeDepth := 99) +contextual [h]

@[simp ↓] theorem raisePort_tidy {q s p w lldp} (h : Tidy q s) : Tidy q (raisePort s p w lldp) := by
  unfold raisePort; simp (maxDischargeDepth := 99) [h]

@[simp ↓] theorem holdPort_tidy {q s p why} (h : Tidy q s) : Tidy q (holdPort s p why) := by
  unfold holdPort; simp (maxDischargeDepth := 99) [h]

@[simp ↓] theorem trainPort_tidy {q s p trained lldp} (h : Tidy q s) : Tidy q (trainPort s p trained lldp) := by
  unfold trainPort
  simp only []
  refine moveRoutes_tidy ?_
  split <;> simp (maxDischargeDepth := 99) +contextual [h]

@[simp ↓] theorem startTraining_tidy {q s p} (h : Tidy q s) : Tidy q (startTraining s p) := by
  unfold startTraining; simp (maxDischargeDepth := 99) [h]

@[simp ↓] theorem setPresent_tidy {q s g v} (h : Tidy q s) : Tidy q (setPresent s g v) := by
  unfold setPresent; simp (maxDischargeDepth := 99) +contextual [h]

@[simp ↓] theorem selectSynce_tidy {q s note} (h : Tidy q s) : Tidy q (selectSynce s note) := by
  unfold selectSynce; (repeat' split) <;> simp (maxDischargeDepth := 99) +contextual [h]

@[simp ↓] theorem setAligned_tidy {q s v} (h : Tidy q s) : Tidy q (setAligned s v) := by
  unfold setAligned; simp (maxDischargeDepth := 99) [h]


/-! ## Serv -/

@[simp ↓] theorem loaderAsk_tidy {q s} (h : Tidy q s) : Tidy q (loaderAsk s) := by
  unfold loaderAsk; simp only []; (repeat' split) <;> simp_all (maxDischargeDepth := 99)

@[simp ↓] theorem servicePut_tidy {q s a d n} (h : Tidy q s) : Tidy q (servicePut s a d n) := by
  induction n generalizing s a d with
  | zero => exact h
  | succ n ih => unfold servicePut; exact tidy_ite h (ih (engineWrite_tidy h))

@[simp ↓] theorem failSnapshot_tidy {q s} (h : Tidy q s) : Tidy q (failSnapshot s) := by
  unfold failSnapshot; (repeat' split) <;> simp (maxDischargeDepth := 99) +contextual [h]

@[simp ↓] theorem snapPoisoned_tidy {q s x} (h : Tidy q s) : Tidy q (snapPoisoned s x).1 := by
  unfold snapPoisoned
  refine tidy_foldl_fst _ (fun p a h => ?_) _ h
  split <;> simp (maxDischargeDepth := 99) [h]


/-! ## Tower -/

@[simp ↓] theorem setSeg_tidy {q s t e x} (h : Tidy q s) : Tidy q (setSeg s t e x) := by
  unfold setSeg; simp (maxDischargeDepth := 99) [h]

@[simp ↓] theorem flagSegment_tidy {q s t e} (h : Tidy q s) : Tidy q (flagSegment s t e) := by
  unfold flagSegment; simp (maxDischargeDepth := 99) [h]

@[simp ↓] theorem checkWeak_tidy {q s t e} (h : Tidy q s) : Tidy q (checkWeak s t e) := by
  unfold checkWeak; simp (maxDischargeDepth := 99) [h]

@[simp ↓] theorem checkSegments_tidy {q s} (h : Tidy q s) : Tidy q (checkSegments s) := by
  unfold checkSegments; simp (maxDischargeDepth := 99) +contextual [h]

@[simp ↓] theorem poisonTxn_tidy {q s txn} (h : Tidy q s) : Tidy q (poisonTxn s txn) := by
  unfold poisonTxn; simp (maxDischargeDepth := 99) [h]

@[simp ↓] theorem deliverLost_tidy {q s tile txn} (h : Tidy q s) : Tidy q (deliverLost s tile txn) := by
  unfold deliverLost; simp (maxDischargeDepth := 99) [h]

@[simp ↓] theorem dropTxn_tidy {q s txn} (h : Tidy q s) : Tidy q (dropTxn s txn) := by
  unfold dropTxn; simp (maxDischargeDepth := 99) [h]

@[simp ↓] theorem retryTxn_tidy {q s txn} (h : Tidy q s) : Tidy q (retryTxn s txn) := by
  unfold retryTxn
  split
  · simp (maxDischargeDepth := 99) [h]
  · split
    · unfold retryTxn.keepFrag; simp (maxDischargeDepth := 99) [h]
    · exact h

@[simp ↓] theorem setPhys_tidy {q s p x} (h : Tidy q s) : Tidy q (setPhys s p x) := by
  unfold setPhys; simp (maxDischargeDepth := 99) [h]

@[simp ↓] theorem checkMargin_tidy {q s p} (h : Tidy q s) : Tidy q (checkMargin s p) := by
  unfold checkMargin; simp (maxDischargeDepth := 99) [h]

@[simp ↓] theorem setPll_tidy {q s tower layer x} (h : Tidy q s) : Tidy q (setPll s tower layer x) := by
  unfold setPll; simp (maxDischargeDepth := 99) [h]

@[simp ↓] theorem postPll_tidy {q s tower} (h : Tidy q s) : Tidy q (postPll s tower) := by
  unfold postPll; simp (maxDischargeDepth := 99) [h]

@[simp ↓] theorem layerLost_tidy {q s tower layer} (h : Tidy q s) : Tidy q (layerLost s tower layer) := by
  unfold layerLost; simp (maxDischargeDepth := 99) [h]

@[simp ↓] theorem selfRefresh_tidy {q s tower} (h : Tidy q s) : Tidy q (selfRefresh s tower) := by
  unfold selfRefresh; simp (maxDischargeDepth := 99) +contextual [h]

@[simp ↓] theorem leaveRefresh_tidy {q s tower} (h : Tidy q s) : Tidy q (leaveRefresh s tower) := by
  unfold leaveRefresh; simp (maxDischargeDepth := 99) +contextual [h]

@[simp ↓] theorem loseTowerLines_tidy {q s tower} (h : Tidy q s) : Tidy q (loseTowerLines s tower) := by
  unfold loseTowerLines; simp (maxDischargeDepth := 99) [h]

@[simp ↓] theorem wipe_tidy {q s lo hi} (h : Tidy q s) : Tidy q (wipe s lo hi) := by
  unfold wipe
  exact ⟨h.queue, h.regs, memFilter_wf _ h.mem, mwf_filter natLt_orders _ h.side, mwf_filter natLt_orders _ h.pcode,
    h.fresh, h.hist⟩

@[simp ↓] theorem clearController_tidy {q s i} (h : Tidy q s) : Tidy q (clearController s i) := by
  unfold clearController; simp (maxDischargeDepth := 99) +contextual [h]

@[simp ↓] theorem wipeSlice_tidy {q s i} (h : Tidy q s) : Tidy q (wipeSlice s i) := by
  unfold wipeSlice; simp (maxDischargeDepth := 99) [h]

@[simp ↓] theorem loseLayer_tidy {q s tower layer} (h : Tidy q s) : Tidy q (loseLayer s tower layer) := by
  unfold loseLayer; simp (maxDischargeDepth := 99) +contextual [h]

@[simp ↓] theorem beginReset_tidy {q s tower layer origin} (h : Tidy q s) : Tidy q (beginReset s tower layer origin) := by
  unfold beginReset; (repeat' split) <;> simp (maxDischargeDepth := 99) +contextual [h]

@[simp ↓] theorem requestReset_tidy {q s tower layers partition origin} (h : Tidy q s) : Tidy q (requestReset s tower layers partition origin) := by
  unfold requestReset; simp (maxDischargeDepth := 99) +contextual [h]

@[simp ↓] theorem writeTwrReset_tidy {q s tower v origin} (h : Tidy q s) : Tidy q (writeTwrReset s tower v origin) := by
  unfold writeTwrReset; simp (maxDischargeDepth := 99) [h]

@[simp ↓] theorem dropReset_tidy {q s tower layer} (h : Tidy q s) : Tidy q (dropReset s tower layer) := by
  unfold dropReset; simp (maxDischargeDepth := 99) [h]


/-! ## Regs -/

@[simp ↓] theorem readReg_tidy {q s a} (h : Tidy q s) : Tidy q (readReg s a).1 := by
  unfold readReg; (repeat' split) <;> simp (maxDischargeDepth := 99) +contextual [h]

@[simp ↓] theorem writePart_tidy {q u v rws s p} (h : Tidy q s) : Tidy q (writePart u v rws s p) := by
  unfold writePart; (repeat' split) <;> simp (maxDischargeDepth := 99) +contextual [h]

@[simp ↓] theorem writeFields_tidy {q s r v origin} (h : Tidy q s) : Tidy q (writeFields s r v origin) := by
  unfold writeFields
  refine tidy_foldl _ (fun s a h => ?_) _ ?_ <;> simp (maxDischargeDepth := 99) [h]

@[simp ↓] theorem imageWrite_tidy {q s a v} (h : Tidy q s) : Tidy q (imageWrite s a v) := by
  unfold imageWrite
  split
  · exact h
  · refine tidy_foldl _ (fun s a h => ?_) _ h
    simp (maxDischargeDepth := 99) [h]

@[simp ↓] theorem resetRws_tidy {q s} (h : Tidy q s) : Tidy q (resetRws s) := by
  unfold resetRws
  exact ⟨h.queue, ascending_filter _ h.regs, h.mem, h.side, h.pcode, h.fresh, h.hist⟩


/-! ## ImgCand -/

@[simp ↓] theorem putModes_tidy {q s i} (h : Tidy q s) : Tidy q (putModes s i) := by
  unfold putModes; simp (maxDischargeDepth := 99) [h]

@[simp ↓] theorem putTables_tidy {q s i} (h : Tidy q s) : Tidy q (putTables s i) := by
  unfold putTables; simp (maxDischargeDepth := 99) [h]

@[simp ↓] theorem putFocal_tidy {q s r} (h : Tidy q s) : Tidy q (putFocal s r) := by
  unfold putFocal; simp (maxDischargeDepth := 99) +contextual [h]

@[simp ↓] theorem putFocals_tidy {q s i} (h : Tidy q s) : Tidy q (putFocals s i) := by
  unfold putFocals; simp (maxDischargeDepth := 99) +contextual [h]

@[simp ↓] theorem putRegs_tidy {q s i} (h : Tidy q s) : Tidy q (putRegs s i) := by
  unfold putRegs
  refine tidy_foldl _ (fun s a h => ?_) _ ?_ <;> simp (maxDischargeDepth := 99) [h]

@[simp ↓] theorem wouldBe_tidy {q s i} (h : Tidy q s) : Tidy q (wouldBe s i) := by
  unfold wouldBe; simp (maxDischargeDepth := 99) [h]

end Sys2Proof.Machine
end

