-- ==== Sys2Proof/Laws/TidyLane.lean ====
section
/-!
SUPPORT. `Tidy` is kept by the instructions of the lane unit: one law per operation.
-/
namespace Sys2Proof.Machine

/-! ## LaneAlu -/

@[simp ↓] theorem illegal_tidy {q s t slot} (h : Tidy q s) : Tidy q (illegal s t slot) := by
  unfold illegal; simp (maxDischargeDepth := 99) [h]

@[simp ↓] theorem keepGroup_tidy {q s t slot g} (h : Tidy q s) : Tidy q (keepGroup s t slot g) := by
  unfold keepGroup; simp (maxDischargeDepth := 99) [h]

@[simp ↓] theorem vecOp_tidy {q s t slot g f fn} (h : Tidy q s) : Tidy q (vecOp s t slot g f fn) := by
  unfold vecOp; simp (maxDischargeDepth := 99) [h]

@[simp ↓] theorem fpOp_tidy {q s t slot g f fn n} (h : Tidy q s) : Tidy q (fpOp s t slot g f fn n) := by
  unfold fpOp; simp (maxDischargeDepth := 99) [h]

@[simp ↓] theorem opFadd_tidy {q s t slot g f} (h : Tidy q s) : Tidy q (opFadd s t slot g f) := by
  unfold opFadd; simp (maxDischargeDepth := 99) [h]

@[simp ↓] theorem opFsub_tidy {q s t slot g f} (h : Tidy q s) : Tidy q (opFsub s t slot g f) := by
  unfold opFsub; simp (maxDischargeDepth := 99) [h]

@[simp ↓] theorem opFmul_tidy {q s t slot g f} (h : Tidy q s) : Tidy q (opFmul s t slot g f) := by
  unfold opFmul; simp (maxDischargeDepth := 99) [h]

@[simp ↓] theorem opFfma_tidy {q s t slot g f} (h : Tidy q s) : Tidy q (opFfma s t slot g f) := by
  unfold opFfma; simp (maxDischargeDepth := 99) [h]

@[simp ↓] theorem opFdiv_tidy {q s t slot g f} (h : Tidy q s) : Tidy q (opFdiv s t slot g f) := by
  unfold opFdiv; simp (maxDischargeDepth := 99) [h]

@[simp ↓] theorem opFrcp_tidy {q s t slot g f} (h : Tidy q s) : Tidy q (opFrcp s t slot g f) := by
  unfold opFrcp; simp (maxDischargeDepth := 99) [h]

@[simp ↓] theorem opFrsq_tidy {q s t slot g f} (h : Tidy q s) : Tidy q (opFrsq s t slot g f) := by
  unfold opFrsq; simp (maxDischargeDepth := 99) [h]

@[simp ↓] theorem opFmin_tidy {q s t slot g f} (h : Tidy q s) : Tidy q (opFmin s t slot g f) := by
  unfold opFmin; simp (maxDischargeDepth := 99) [h]

@[simp ↓] theorem opFmax_tidy {q s t slot g f} (h : Tidy q s) : Tidy q (opFmax s t slot g f) := by
  unfold opFmax; simp (maxDischargeDepth := 99) [h]

@[simp ↓] theorem opFexp2_tidy {q s t slot g f} (h : Tidy q s) : Tidy q (opFexp2 s t slot g f) := by
  unfold opFexp2; simp (maxDischargeDepth := 99) [h]

@[simp ↓] theorem opFlog2_tidy {q s t slot g f} (h : Tidy q s) : Tidy q (opFlog2 s t slot g f) := by
  unfold opFlog2; simp (maxDischargeDepth := 99) [h]

@[simp ↓] theorem opFcmp_tidy {q s t slot g f} (h : Tidy q s) : Tidy q (opFcmp s t slot g f) := by
  unfold opFcmp; simp (maxDischargeDepth := 99) [h]

@[simp ↓] theorem opIcmp_tidy {q s t slot g f} (h : Tidy q s) : Tidy q (opIcmp s t slot g f) := by
  unfold opIcmp; simp (maxDischargeDepth := 99) [h]

@[simp ↓] theorem opCvtf_tidy {q s t slot g f} (h : Tidy q s) : Tidy q (opCvtf s t slot g f) := by
  unfold opCvtf; simp (maxDischargeDepth := 99) [h]

@[simp ↓] theorem opCvtn_tidy {q s t slot g f} (h : Tidy q s) : Tidy q (opCvtn s t slot g f) := by
  unfold opCvtn; simp (maxDischargeDepth := 99) [h]

@[simp ↓] theorem opI2f_tidy {q s t slot g f} (h : Tidy q s) : Tidy q (opI2f s t slot g f) := by
  unfold opI2f; simp (maxDischargeDepth := 99) [h]

@[simp ↓] theorem opF2i_tidy {q s t slot g f} (h : Tidy q s) : Tidy q (opF2i s t slot g f) := by
  unfold opF2i; simp (maxDischargeDepth := 99) [h]

@[simp ↓] theorem opIadd_tidy {q s t slot g f} (h : Tidy q s) : Tidy q (opIadd s t slot g f) := by
  unfold opIadd; simp (maxDischargeDepth := 99) [h]

@[simp ↓] theorem opIsub_tidy {q s t slot g f} (h : Tidy q s) : Tidy q (opIsub s t slot g f) := by
  unfold opIsub; simp (maxDischargeDepth := 99) [h]

@[simp ↓] theorem opImul_tidy {q s t slot g f} (h : Tidy q s) : Tidy q (opImul s t slot g f) := by
  unfold opImul; simp (maxDischargeDepth := 99) [h]

@[simp ↓] theorem opImad_tidy {q s t slot g f} (h : Tidy q s) : Tidy q (opImad s t slot g f) := by
  unfold opImad; simp (maxDischargeDepth := 99) [h]

@[simp ↓] theorem opAnd_tidy {q s t slot g f} (h : Tidy q s) : Tidy q (opAnd s t slot g f) := by
  unfold opAnd; simp (maxDischargeDepth := 99) [h]

@[simp ↓] theorem opOr_tidy {q s t slot g f} (h : Tidy q s) : Tidy q (opOr s t slot g f) := by
  unfold opOr; simp (maxDischargeDepth := 99) [h]

@[simp ↓] theorem opXor_tidy {q s t slot g f} (h : Tidy q s) : Tidy q (opXor s t slot g f) := by
  unfold opXor; simp (maxDischargeDepth := 99) [h]

@[simp ↓] theorem opShl_tidy {q s t slot g f} (h : Tidy q s) : Tidy q (opShl s t slot g f) := by
  unfold opShl; simp (maxDischargeDepth := 99) [h]

@[simp ↓] theorem opShr_tidy {q s t slot g f} (h : Tidy q s) : Tidy q (opShr s t slot g f) := by
  unfold opShr; simp (maxDischargeDepth := 99) [h]

@[simp ↓] theorem opSar_tidy {q s t slot g f} (h : Tidy q s) : Tidy q (opSar s t slot g f) := by
  unfold opSar; simp (maxDischargeDepth := 99) [h]

@[simp ↓] theorem opImin_tidy {q s t slot g f} (h : Tidy q s) : Tidy q (opImin s t slot g f) := by
  unfold opImin; simp (maxDischargeDepth := 99) [h]

@[simp ↓] theorem opImax_tidy {q s t slot g f} (h : Tidy q s) : Tidy q (opImax s t slot g f) := by
  unfold opImax; simp (maxDischargeDepth := 99) [h]

@[simp ↓] theorem opSel_tidy {q s t slot g f} (h : Tidy q s) : Tidy q (opSel s t slot g f) := by
  unfold opSel; simp (maxDischargeDepth := 99) [h]

@[simp ↓] theorem opMov_tidy {q s t slot g f} (h : Tidy q s) : Tidy q (opMov s t slot g f) := by
  unfold opMov; simp (maxDischargeDepth := 99) [h]

@[simp ↓] theorem opMovi_tidy {q s t slot g f} (h : Tidy q s) : Tidy q (opMovi s t slot g f) := by
  unfold opMovi; simp (maxDischargeDepth := 99) [h]

@[simp ↓] theorem opShfl_tidy {q s t slot g f} (h : Tidy q s) : Tidy q (opShfl s t slot g f) := by
  unfold opShfl; simp (maxDischargeDepth := 99) [h]

@[simp ↓] theorem scalOp_tidy {q s t slot g f n fn} (h : Tidy q s) : Tidy q (scalOp s t slot g f n fn) := by
  unfold scalOp; simp (maxDischargeDepth := 99) [h]

@[simp ↓] theorem opSadd_tidy {q s t slot g f} (h : Tidy q s) : Tidy q (opSadd s t slot g f) := by
  unfold opSadd; simp (maxDischargeDepth := 99) [h]

@[simp ↓] theorem opSsub_tidy {q s t slot g f} (h : Tidy q s) : Tidy q (opSsub s t slot g f) := by
  unfold opSsub; simp (maxDischargeDepth := 99) [h]

@[simp ↓] theorem opSmul_tidy {q s t slot g f} (h : Tidy q s) : Tidy q (opSmul s t slot g f) := by
  unfold opSmul; simp (maxDischargeDepth := 99) [h]

@[simp ↓] theorem opSand_tidy {q s t slot g f} (h : Tidy q s) : Tidy q (opSand s t slot g f) := by
  unfold opSand; simp (maxDischargeDepth := 99) [h]

@[simp ↓] theorem opSor_tidy {q s t slot g f} (h : Tidy q s) : Tidy q (opSor s t slot g f) := by
  unfold opSor; simp (maxDischargeDepth := 99) [h]

@[simp ↓] theorem opSxor_tidy {q s t slot g f} (h : Tidy q s) : Tidy q (opSxor s t slot g f) := by
  unfold opSxor; simp (maxDischargeDepth := 99) [h]

@[simp ↓] theorem opSshl_tidy {q s t slot g f} (h : Tidy q s) : Tidy q (opSshl s t slot g f) := by
  unfold opSshl; simp (maxDischargeDepth := 99) [h]

@[simp ↓] theorem opSshr_tidy {q s t slot g f} (h : Tidy q s) : Tidy q (opSshr s t slot g f) := by
  unfold opSshr; simp (maxDischargeDepth := 99) [h]

@[simp ↓] theorem opSsar_tidy {q s t slot g f} (h : Tidy q s) : Tidy q (opSsar s t slot g f) := by
  unfold opSsar; simp (maxDischargeDepth := 99) [h]

@[simp ↓] theorem opSmin_tidy {q s t slot g f} (h : Tidy q s) : Tidy q (opSmin s t slot g f) := by
  unfold opSmin; simp (maxDischargeDepth := 99) [h]

@[simp ↓] theorem opSmax_tidy {q s t slot g f} (h : Tidy q s) : Tidy q (opSmax s t slot g f) := by
  unfold opSmax; simp (maxDischargeDepth := 99) [h]

@[simp ↓] theorem opScmp_tidy {q s t slot g f} (h : Tidy q s) : Tidy q (opScmp s t slot g f) := by
  unfold opScmp; simp (maxDischargeDepth := 99) [h]

@[simp ↓] theorem opSmov_tidy {q s t slot g f} (h : Tidy q s) : Tidy q (opSmov s t slot g f) := by
  unfold opSmov; simp (maxDischargeDepth := 99) [h]

@[simp ↓] theorem opSmovi_tidy {q s t slot g f} (h : Tidy q s) : Tidy q (opSmovi s t slot g f) := by
  unfold opSmovi; simp (maxDischargeDepth := 99) [h]


/-! ## LaneCtl -/

@[simp ↓] theorem opNop_tidy {q s t slot g f} (h : Tidy q s) : Tidy q (opNop s t slot g f) := by
  unfold opNop; simp (maxDischargeDepth := 99) [h]

@[simp ↓] theorem opBra_tidy {q s t slot g f} (h : Tidy q s) : Tidy q (opBra s t slot g f) := by
  unfold opBra; simp (maxDischargeDepth := 99) [h]

@[simp ↓] theorem opBrs_tidy {q s t slot g f} (h : Tidy q s) : Tidy q (opBrs s t slot g f) := by
  unfold opBrs; simp (maxDischargeDepth := 99) [h]

@[simp ↓] theorem opYield_tidy {q s t slot g f} (h : Tidy q s) : Tidy q (opYield s t slot g f) := by
  unfold opYield; simp (maxDischargeDepth := 99) [h]

@[simp ↓] theorem opRdsr_tidy {q s t slot g f} (h : Tidy q s) : Tidy q (opRdsr s t slot g f) := by
  unfold opRdsr; (repeat' split) <;> simp (maxDischargeDepth := 99) +contextual [h]

@[simp ↓] theorem wakeAll_tidy {q s t slots} (h : Tidy q s) : Tidy q (wakeAll s t slots) := by
  unfold wakeAll; refine tidy_foldl _ (fun _ _ h => ?_) _ h; (repeat' split) <;> simp (maxDischargeDepth := 99) +contextual [h]

@[simp ↓] theorem checkTileBar_tidy {q s t task b} (h : Tidy q s) : Tidy q (checkTileBar s t task b) := by
  unfold checkTileBar; simp (maxDischargeDepth := 99) [h]

@[simp ↓] theorem checkNamedBar_tidy {q s t task b} (h : Tidy q s) : Tidy q (checkNamedBar s t task b) := by
  unfold checkNamedBar; simp (maxDischargeDepth := 99) [h]

@[simp ↓] theorem afterEnd_tidy {q s t task} (h : Tidy q s) : Tidy q (afterEnd s t task) := by
  unfold afterEnd; simp (maxDischargeDepth := 99) +contextual [h]

@[simp ↓] theorem opExit_tidy {q s t slot g f} (h : Tidy q s) : Tidy q (opExit s t slot g f) := by
  unfold opExit; simp only []; (repeat' split) <;> simp_all (maxDischargeDepth := 99)

@[simp ↓] theorem opPush_tidy {q s t slot g f} (h : Tidy q s) : Tidy q (opPush s t slot g f) := by
  unfold opPush; simp (maxDischargeDepth := 99) [h]

@[simp ↓] theorem opBrk_tidy {q s t slot g f} (h : Tidy q s) : Tidy q (opBrk s t slot g f) := by
  unfold opBrk; simp (maxDischargeDepth := 99) [h]

@[simp ↓] theorem opRcv_tidy {q s t slot g f} (h : Tidy q s) : Tidy q (opRcv s t slot g f) := by
  unfold opRcv; simp (maxDischargeDepth := 99) [h]

@[simp ↓] theorem opPop_tidy {q s t slot g f} (h : Tidy q s) : Tidy q (opPop s t slot g f) := by
  unfold opPop; (repeat' split) <;> simp (maxDischargeDepth := 99) +contextual [h]

@[simp ↓] theorem scalDest_tidy {q s t slot g f v} (h : Tidy q s) : Tidy q (scalDest s t slot g f v) := by
  unfold scalDest; simp (maxDischargeDepth := 99) [h]

@[simp ↓] theorem opAny_tidy {q s t slot g f} (h : Tidy q s) : Tidy q (opAny s t slot g f) := by
  unfold opAny; simp (maxDischargeDepth := 99) [h]

@[simp ↓] theorem opAll_tidy {q s t slot g f} (h : Tidy q s) : Tidy q (opAll s t slot g f) := by
  unfold opAll; simp (maxDischargeDepth := 99) [h]

@[simp ↓] theorem opMask_tidy {q s t slot g f} (h : Tidy q s) : Tidy q (opMask s t slot g f) := by
  unfold opMask; simp (maxDischargeDepth := 99) [h]

theorem focalHold_tidy {q s t n offs load store} (h : Tidy q s) : ∀ u', focalHold s t n offs load store = some u' → Tidy q u' := by
  intro u hu
  unfold focalHold at hu
  (repeat' split at hu) <;> cases hu
  · exact h
  · exact h
  · refine tidy_foldl _ (fun s a h => ?_) _ h
    simp (maxDischargeDepth := 99) [h]

theorem atomHold_tidy {q s t g f} (h : Tidy q s) : ∀ u', atomHold s t g f = some u' → Tidy q u' := by
  unfold atomHold; split
  · simp
  · split
    · simp
    · exact focalHold_tidy h

theorem takeLane_tidy {q t slot d mask a x} (h : Tidy q a.s) : Tidy q (takeLane t slot d mask a x).s := by
  unfold takeLane; simp only []; (repeat' split) <;> simp (maxDischargeDepth := 99) +contextual [h]

@[simp ↓] theorem opTake_tidy {q s t slot g f} (h : Tidy q s) : Tidy q (opTake s t slot g f) := by
  have hl : ∀ (l : List (Nat × Nat)) (a : TakeAcc) (d m), Tidy q a.s → Tidy q (l.foldl (takeLane t slot d m) a).s := by
    intro l
    induction l with
    | nil => exact fun _ _ _ h => h
    | cons x r ih => exact fun a d m h => ih _ _ _ (takeLane_tidy h)
  unfold opTake
  split
  · simp (maxDischargeDepth := 99) [h]
  simp only []
  split
  · simp (maxDischargeDepth := 99) [h]
  · refine keepGroup_tidy (hl _ _ _ _ ?_)
    simp (maxDischargeDepth := 99) [h]

@[simp ↓] theorem opGive_tidy {q s t slot g f} (h : Tidy q s) : Tidy q (opGive s t slot g f) := by
  unfold opGive
  split
  · simp (maxDischargeDepth := 99) [h]
  simp only []
  (repeat' split) <;> simp (maxDischargeDepth := 99) +contextual [h]

@[simp ↓] theorem opBarg_tidy {q s t slot g f} (h : Tidy q s) : Tidy q (opBarg s t slot g f) := by
  unfold opBarg; simp only []; (repeat' split) <;> simp_all (maxDischargeDepth := 99)

@[simp ↓] theorem opBart_tidy {q s t slot g f} (h : Tidy q s) : Tidy q (opBart s t slot g f) := by
  unfold opBart; simp (maxDischargeDepth := 99) [h]

@[simp ↓] theorem opBarn_tidy {q s t slot g f} (h : Tidy q s) : Tidy q (opBarn s t slot g f) := by
  unfold opBarn; simp (maxDischargeDepth := 99) [h]

@[simp ↓] theorem namedDone_tidy {q s b} (h : Tidy q s) : Tidy q (namedDone s b) := by
  unfold namedDone; simp (maxDischargeDepth := 99) +contextual [h]

@[simp ↓] theorem barrierTimeout_tidy {q s t slot} (h : Tidy q s) : Tidy q (barrierTimeout s t slot) := by
  unfold barrierTimeout; (repeat' split) <;> simp (maxDischargeDepth := 99) +contextual [h]

@[simp ↓] theorem lockStall_tidy {q s t slot} (h : Tidy q s) : Tidy q (lockStall s t slot) := by
  unfold lockStall; (repeat' split) <;> simp (maxDischargeDepth := 99) +contextual [h]

@[simp ↓] theorem opMacq_tidy {q s t slot g f} (h : Tidy q s) : Tidy q (opMacq s t slot g f) := by
  unfold opMacq; simp (maxDischargeDepth := 99) [h]

@[simp ↓] theorem ownershipGrant_tidy {q s t} (h : Tidy q s) : Tidy q (ownershipGrant s t) := by
  unfold ownershipGrant; (repeat' split) <;> simp (maxDischargeDepth := 99) +contextual [h]

@[simp ↓] theorem opMrel_tidy {q s t slot g f} (h : Tidy q s) : Tidy q (opMrel s t slot g f) := by
  unfold opMrel; simp (maxDischargeDepth := 99) [h]

theorem mwldHold_tidy {q s t g f} (h : Tidy q s) : ∀ u', mwldHold s t g f = some u' → Tidy q u' := by
  unfold mwldHold; split
  · simp
  · exact focalHold_tidy h

@[simp ↓] theorem opMwld_tidy {q s t slot g f} (h : Tidy q s) : Tidy q (opMwld s t slot g f) := by
  unfold opMwld; simp (maxDischargeDepth := 99) [h]

@[simp ↓] theorem opMwsw_tidy {q s t slot g f} (h : Tidy q s) : Tidy q (opMwsw s t slot g f) := by
  unfold opMwsw; simp only []; (repeat' split) <;> simp_all (maxDischargeDepth := 99)

theorem mmaHold_tidy {q s t} (h : Tidy q s) : ∀ u', mmaHold s t = some u' → Tidy q u' := by
  intro u hu
  unfold mmaHold at hu
  split at hu <;> cases hu
  exact h

@[simp ↓] theorem mmaOp_tidy {q s t slot g f arrs} (h : Tidy q s) : Tidy q (mmaOp s t slot g f arrs) := by
  unfold mmaOp; simp only []; (repeat' split) <;> simp_all (maxDischargeDepth := 99)

@[simp ↓] theorem opMma_tidy {q s t slot g f} (h : Tidy q s) : Tidy q (opMma s t slot g f) := by
  unfold opMma; simp (maxDischargeDepth := 99) [h]

@[simp ↓] theorem opMma4_tidy {q s t slot g f} (h : Tidy q s) : Tidy q (opMma4 s t slot g f) := by
  unfold opMma4; simp (maxDischargeDepth := 99) [h]


/-! ## LaneMem -/

theorem vecHold_tidy {q s t g f store} (h : Tidy q s) : ∀ u', vecHold s t g f store = some u' → Tidy q u' := by
  unfold vecHold; split
  · simp
  · split
    · simp
    · exact focalHold_tidy h

theorem scalHold_tidy {q s t g f store} (h : Tidy q s) : ∀ u', scalHold s t g f store = some u' → Tidy q u' := by
  unfold scalHold; dsimp only; split
  · simp
  · exact focalHold_tidy h

@[simp ↓] theorem globalLoad_tidy {q s t slot g d size scal pref xs} (h : Tidy q s) : Tidy q (globalLoad s t slot g d size scal pref xs) := by
  unfold globalLoad; simp (maxDischargeDepth := 99) [h]

@[simp ↓] theorem focalLoad_tidy {q s t slot g d size scal xs} (h : Tidy q s) : Tidy q (focalLoad s t slot g d size scal xs) := by
  unfold focalLoad; simp (maxDischargeDepth := 99) +contextual [h]

@[simp ↓] theorem opLd_tidy {q s t slot g f} (h : Tidy q s) : Tidy q (opLd s t slot g f) := by
  unfold opLd; simp only []; (repeat' split) <;> simp_all (maxDischargeDepth := 99)

@[simp ↓] theorem opLds_tidy {q s t slot g f} (h : Tidy q s) : Tidy q (opLds s t slot g f) := by
  unfold opLds; simp (maxDischargeDepth := 99) [h]

@[simp ↓] theorem opPref_tidy {q s t slot g f} (h : Tidy q s) : Tidy q (opPref s t slot g f) := by
  unfold opPref; simp only []; (repeat' split) <;> simp_all (maxDischargeDepth := 99)

@[simp ↓] theorem opSt_tidy {q s t slot g f} (h : Tidy q s) : Tidy q (opSt s t slot g f) := by
  unfold opSt
  split
  · simp (maxDischargeDepth := 99) [h]
  simp only []
  (repeat' split) <;> simp (maxDischargeDepth := 99) +contextual [h]

@[simp ↓] theorem opSts_tidy {q s t slot g f} (h : Tidy q s) : Tidy q (opSts s t slot g f) := by
  unfold opSts; simp (maxDischargeDepth := 99) [h]

@[simp ↓] theorem atomOp_tidy {q s t slot g f fp upd} (h : Tidy q s) : Tidy q (atomOp s t slot g f fp upd) := by
  unfold atomOp
  split
  · simp (maxDischargeDepth := 99) [h]
  simp only []
  split
  · simp (maxDischargeDepth := 99) [h]
  · refine keepGroup_tidy (tidy_foldl_fst _ (fun p a h => ?_) _ ?_)
    · dsimp only; split <;> simp (maxDischargeDepth := 99) [h]
    · simp (maxDischargeDepth := 99) [h]

@[simp ↓] theorem opAadd_tidy {q s t slot g f} (h : Tidy q s) : Tidy q (opAadd s t slot g f) := by
  unfold opAadd; simp (maxDischargeDepth := 99) [h]

@[simp ↓] theorem opAmax_tidy {q s t slot g f} (h : Tidy q s) : Tidy q (opAmax s t slot g f) := by
  unfold opAmax; simp (maxDischargeDepth := 99) [h]

@[simp ↓] theorem opAcas_tidy {q s t slot g f} (h : Tidy q s) : Tidy q (opAcas s t slot g f) := by
  unfold opAcas; simp (maxDischargeDepth := 99) [h]

@[simp ↓] theorem dropLines_tidy {q s t} (h : Tidy q s) : Tidy q (dropLines s t) := by
  unfold dropLines; simp (maxDischargeDepth := 99) [h]

@[simp ↓] theorem opFenceRelease_tidy {q s t slot g f} (h : Tidy q s) : Tidy q (opFenceRelease s t slot g f) := by
  unfold opFenceRelease; simp (maxDischargeDepth := 99) [h]

@[simp ↓] theorem opFenceAcquire_tidy {q s t slot g f} (h : Tidy q s) : Tidy q (opFenceAcquire s t slot g f) := by
  unfold opFenceAcquire; simp (maxDischargeDepth := 99) [h]

@[simp ↓] theorem opFenceFull_tidy {q s t slot g f} (h : Tidy q s) : Tidy q (opFenceFull s t slot g f) := by
  unfold opFenceFull; simp (maxDischargeDepth := 99) [h]

@[simp ↓] theorem loadReturn_tidy {q s t slot} (h : Tidy q s) : Tidy q (loadReturn s t slot) := by
  unfold loadReturn; simp only []; (repeat' split) <;> simp_all (maxDischargeDepth := 99)

@[simp ↓] theorem storeAccepted_tidy {q s t slot} (h : Tidy q s) : Tidy q (storeAccepted s t slot) := by
  unfold storeAccepted; simp only []; (repeat' split) <;> simp_all (maxDischargeDepth := 99)

@[simp ↓] theorem taskResident_tidy {q s t} (h : Tidy q s) : Tidy q (taskResident s t) := by
  unfold taskResident
  split
  · exact h
  · simp (maxDischargeDepth := 99) +contextual [h]

@[simp ↓] theorem taskEnd_tidy {q s t id} (h : Tidy q s) : Tidy q (taskEnd s t id) := by
  unfold taskEnd; (repeat' split) <;> simp (maxDischargeDepth := 99) +contextual [h]


/-! ## LaneIssue -/

theorem instrHold_tidy {q i s g} (h : Tidy q s) : ∀ u', instrHold i s g = some u' → Tidy q u' := by
  cases i with
  | take t slot f => exact atomHold_tidy h
  | give t slot f => exact atomHold_tidy h
  | mwld t slot f => exact mwldHold_tidy h
  | ld t slot f => exact vecHold_tidy h
  | st t slot f => exact vecHold_tidy h
  | lds t slot f => exact scalHold_tidy h
  | sts t slot f => exact scalHold_tidy h
  | aadd t slot f => exact atomHold_tidy h
  | amax t slot f => exact atomHold_tidy h
  | acas t slot f => exact atomHold_tidy h
  | _ => exact tidy_none

theorem issueHold_tidy {q i s g} (h : Tidy q s) : ∀ u', issueHold i s g = some u' → Tidy q u' := by
  unfold issueHold
  split
  · exact mmaHold_tidy h
  · exact instrHold_tidy h

@[simp ↓] theorem noteIssue_tidy {q s t slot pc k} (h : Tidy q s) : Tidy q (noteIssue s t slot pc k) := by
  unfold noteIssue; simp (maxDischargeDepth := 99) [h]

theorem laneRun_tidy {q i s t slot act} (ha : ∀ s g, Tidy q s → Tidy q (act s g)) (h : Tidy q s) : Tidy q (laneRun i t slot s act) := by
  unfold laneRun
  split
  · exact h
  · split
    · rename_i u hu; exact issueHold_tidy h _ hu
    · exact tidy_ite (ha _ _ (noteIssue_tidy h)) h


/-! ## Lane -/

@[simp ↓] theorem laneBody_tidy {q i s g} (h : Tidy q s) : Tidy q (laneBody i s g) := by
  cases i with
  | nop t slot f => exact opNop_tidy h
  | exit t slot f => exact opExit_tidy h
  | bra t slot f => exact opBra_tidy h
  | brs t slot f => exact opBrs_tidy h
  | yield t slot f => exact opYield_tidy h
  | rdsr t slot f => exact opRdsr_tidy h
  | push t slot f => exact opPush_tidy h
  | brk t slot f => exact opBrk_tidy h
  | rcv t slot f => exact opRcv_tidy h
  | pop t slot f => exact opPop_tidy h
  | any t slot f => exact opAny_tidy h
  | all t slot f => exact opAll_tidy h
  | mask t slot f => exact opMask_tidy h
  | take t slot f => exact opTake_tidy h
  | give t slot f => exact opGive_tidy h
  | barg t slot f => exact opBarg_tidy h
  | bart t slot f => exact opBart_tidy h
  | barn t slot f => exact opBarn_tidy h
  | macq t slot f => exact opMacq_tidy h
  | mrel t slot f => exact opMrel_tidy h
  | mwld t slot f => exact opMwld_tidy h
  | mwsw t slot f => exact opMwsw_tidy h
  | mma t slot f => exact opMma_tidy h
  | mma4 t slot f => exact opMma4_tidy h
  | ld t slot f => exact opLd_tidy h
  | st t slot f => exact opSt_tidy h
  | lds t slot f => exact opLds_tidy h
  | sts t slot f => exact opSts_tidy h
  | aadd t slot f => exact opAadd_tidy h
  | amax t slot f => exact opAmax_tidy h
  | acas t slot f => exact opAcas_tidy h
  | fenceRelease t slot f => exact opFenceRelease_tidy h
  | fenceAcquire t slot f => exact opFenceAcquire_tidy h
  | fenceFull t slot f => exact opFenceFull_tidy h
  | pref t slot f => exact opPref_tidy h
  | fadd t slot f => exact opFadd_tidy h
  | fsub t slot f => exact opFsub_tidy h
  | fmul t slot f => exact opFmul_tidy h
  | ffma t slot f => exact opFfma_tidy h
  | fmin t slot f => exact opFmin_tidy h
  | fmax t slot f => exact opFmax_tidy h
  | fcmp t slot f => exact opFcmp_tidy h
  | frcp t slot f => exact opFrcp_tidy h
  | frsq t slot f => exact opFrsq_tidy h
  | fexp2 t slot f => exact opFexp2_tidy h
  | flog2 t slot f => exact opFlog2_tidy h
  | fdiv t slot f => exact opFdiv_tidy h
  | cvtf t slot f => exact opCvtf_tidy h
  | cvtn t slot f => exact opCvtn_tidy h
  | i2f t slot f => exact opI2f_tidy h
  | f2i t slot f => exact opF2i_tidy h
  | iadd t slot f => exact opIadd_tidy h
  | isub t slot f => exact opIsub_tidy h
  | imul t slot f => exact opImul_tidy h
  | imad t slot f => exact opImad_tidy h
  | and t slot f => exact opAnd_tidy h
  | or t slot f => exact opOr_tidy h
  | xor t slot f => exact opXor_tidy h
  | shl t slot f => exact opShl_tidy h
  | shr t slot f => exact opShr_tidy h
  | sar t slot f => exact opSar_tidy h
  | imin t slot f => exact opImin_tidy h
  | imax t slot f => exact opImax_tidy h
  | icmp t slot f => exact opIcmp_tidy h
  | sel t slot f => exact opSel_tidy h
  | mov t slot f => exact opMov_tidy h
  | movi t slot f => exact opMovi_tidy h
  | shfl t slot f => exact opShfl_tidy h
  | sadd t slot f => exact opSadd_tidy h
  | ssub t slot f => exact opSsub_tidy h
  | smul t slot f => exact opSmul_tidy h
  | sand t slot f => exact opSand_tidy h
  | sor t slot f => exact opSor_tidy h
  | sxor t slot f => exact opSxor_tidy h
  | sshl t slot f => exact opSshl_tidy h
  | sshr t slot f => exact opSshr_tidy h
  | ssar t slot f => exact opSsar_tidy h
  | smin t slot f => exact opSmin_tidy h
  | smax t slot f => exact opSmax_tidy h
  | scmp t slot f => exact opScmp_tidy h
  | smov t slot f => exact opSmov_tidy h
  | smovi t slot f => exact opSmovi_tidy h
  | _ => exact h

end Sys2Proof.Machine
end

