-- ==== Sys2Proof/Laws/TidyDevice.lean ====
section
/-!
SUPPORT. `Tidy` is kept by power and thermal events, images, bring-up, the logbook, the pins, the management channel and the passing of a cycle: one law per operation.
-/
namespace Sys2Proof.Machine

/-! ## Power -/

@[simp ↓] theorem setRail_tidy {q s r x} (h : Tidy q s) : Tidy q (setRail s r x) := by
  unfold setRail; simp (maxDischargeDepth := 99) [h]

@[simp ↓] theorem enableHead_tidy {q s} (h : Tidy q s) : Tidy q (enableHead s) := by
  unfold enableHead; (repeat' split) <;> simp (maxDischargeDepth := 99) +contextual [h]

@[simp ↓] theorem enableRails_tidy {q s rs} (h : Tidy q s) : Tidy q (enableRails s rs) := by
  unfold enableRails; simp (maxDischargeDepth := 99) [h]

@[simp ↓] theorem postVdome_tidy {q s} (h : Tidy q s) : Tidy q (postVdome s) := by
  unfold postVdome; simp (maxDischargeDepth := 99) +contextual [h]

@[simp ↓] theorem sampleMin_tidy {q s minF validF timeF u v} (h : Tidy q s) : Tidy q (sampleMin s minF validF timeF u v) := by
  unfold sampleMin; simp (maxDischargeDepth := 99) [h]

@[simp ↓] theorem sampleTile_tidy {q s p v} (h : Tidy q s) : Tidy q (sampleTile s p v) := by
  unfold sampleTile; (repeat' split) <;> simp (maxDischargeDepth := 99) +contextual [h]

@[simp ↓] theorem readRail_tidy {q s x} (h : Tidy q s) : Tidy q (readRail s x) := by
  unfold readRail; simp (maxDischargeDepth := 99) [h]

@[simp ↓] theorem pushWatts_tidy {q s w} (h : Tidy q s) : Tidy q (pushWatts s w) := by
  unfold pushWatts; simp (maxDischargeDepth := 99) [h]

@[simp ↓] theorem raiseQuota_tidy {q s p note} (h : Tidy q s) : Tidy q (raiseQuota s p note) := by
  unfold raiseQuota; simp (maxDischargeDepth := 99) [h]

@[simp ↓] theorem retainTile_tidy {q s p} (h : Tidy q s) : Tidy q (retainTile s p) := by
  unfold retainTile; simp only []; (repeat' split) <;> simp_all (maxDischargeDepth := 99)

@[simp ↓] theorem askWakes_tidy {q s ps} (h : Tidy q s) : Tidy q (askWakes s ps) := by
  unfold askWakes; simp (maxDischargeDepth := 99) [h]

@[simp ↓] theorem stepGate_tidy {q s} (h : Tidy q s) : Tidy q (stepGate s) := by
  unfold stepGate; simp (maxDischargeDepth := 99) [h]

@[simp ↓] theorem wakeTile_tidy {q s p parityOk} (h : Tidy q s) : Tidy q (wakeTile s p parityOk) := by
  unfold wakeTile; simp only []; (repeat' split) <;> simp_all (maxDischargeDepth := 99)

@[simp ↓] theorem putEstimate_tidy {q s e} (h : Tidy q s) : Tidy q (putEstimate s e) := by
  unfold putEstimate; simp only []; (repeat' split) <;> simp_all (maxDischargeDepth := 99)

@[simp ↓] theorem endRailMs_tidy {q s} (h : Tidy q s) : Tidy q (endRailMs s) := by
  unfold endRailMs; simp (maxDischargeDepth := 99) [h]

@[simp ↓] theorem lowerHw_tidy {q s calm} (h : Tidy q s) : Tidy q (lowerHw s calm) := by
  unfold lowerHw; (repeat' split) <;> simp (maxDischargeDepth := 99) +contextual [h]

@[simp ↓] theorem setOver_tidy {q s n t} (h : Tidy q s) : Tidy q (setOver s n t) := by
  unfold setOver; simp (maxDischargeDepth := 99) [h]

@[simp ↓] theorem overRail_tidy {q s n} (h : Tidy q s) : Tidy q (overRail s n) := by
  unfold overRail; (repeat' split) <;> simp (maxDischargeDepth := 99) +contextual [h]

@[simp ↓] theorem trimFails_tidy {q s p c} (h : Tidy q s) : Tidy q (trimFails s p c) := by
  unfold trimFails; simp (maxDischargeDepth := 99) [h]


/-! ## ImgApply -/

@[simp ↓] theorem endWork_tidy {q s op} (h : Tidy q s) : Tidy q (endWork s op) := by
  unfold endWork; simp (maxDischargeDepth := 99) [h]

@[simp ↓] theorem noteRefusal_tidy {q s r} (h : Tidy q s) : Tidy q (noteRefusal s r) := by
  unfold noteRefusal; simp (maxDischargeDepth := 99) [h]

@[simp ↓] theorem refuseImage_tidy {q s r} (h : Tidy q s) : Tidy q (refuseImage s r) := by
  unfold refuseImage; simp (maxDischargeDepth := 99) [h]

@[simp ↓] theorem sealImage_tidy {q s} (h : Tidy q s) : Tidy q (sealImage s) := by
  unfold sealImage; simp (maxDischargeDepth := 99) [h]

@[simp ↓] theorem noteValues_tidy {q s before} (h : Tidy q s) : Tidy q (noteValues s before) := by
  unfold noteValues; simp (maxDischargeDepth := 99) +contextual [h]

@[simp ↓] theorem noteImage_tidy {q s t old new} (h : Tidy q t) : Tidy q (noteImage s t old new) := by
  unfold noteImage
  simp only []
  refine tidy_foldl _ (fun s a h => ?_) _ ?_ <;> simp (maxDischargeDepth := 99) +contextual [h]

@[simp ↓] theorem setPortUp_tidy {q s p} (h : Tidy q s) : Tidy q (setPortUp s p) := by
  unfold setPortUp; simp (maxDischargeDepth := 99) [h]

@[simp ↓] theorem trainPorts_tidy {q s t all} (h : Tidy q t) : Tidy q (trainPorts s t all) := by
  unfold trainPorts; simp (maxDischargeDepth := 99) +contextual [h]

@[simp ↓] theorem moveCarve_tidy {q s t} (h : Tidy q t) : Tidy q (moveCarve s t) := by
  unfold moveCarve; simp (maxDischargeDepth := 99) +contextual [h]

@[simp ↓] theorem moveWindows_tidy {q s t} (h : Tidy q t) : Tidy q (moveWindows s t) := by
  unfold moveWindows; simp (maxDischargeDepth := 99) +contextual [h]

@[simp ↓] theorem takeImage_tidy {q s i} (h : Tidy q s) : Tidy q (takeImage s i) := by
  unfold takeImage; simp (maxDischargeDepth := 99) +contextual [h]

@[simp ↓] theorem changeClock_tidy {q s} (h : Tidy q s) : Tidy q (changeClock s) := by
  unfold changeClock; (repeat' split) <;> simp (maxDischargeDepth := 99) +contextual [h]

@[simp ↓] theorem sweepRegion_tidy {q s r} (h : Tidy q s) : Tidy q (sweepRegion s r) := by
  unfold sweepRegion; simp (maxDischargeDepth := 99) +contextual [h]

@[simp ↓] theorem sweepDue_tidy {q s} (h : Tidy q s) : Tidy q (sweepDue s) := by
  unfold sweepDue; simp (maxDischargeDepth := 99) +contextual [h]

@[simp ↓] theorem fillPins_tidy {q s} (h : Tidy q s) : Tidy q (fillPins s) := by
  unfold fillPins; simp (maxDischargeDepth := 99) +contextual [h]

@[simp ↓] theorem fillFocal_tidy {q s i} (h : Tidy q s) : Tidy q (fillFocal s i) := by
  unfold fillFocal; simp (maxDischargeDepth := 99) [h]

@[simp ↓] theorem moveImage_tidy {q s i} (h : Tidy q s) : Tidy q (moveImage s i) := by
  unfold moveImage; simp (maxDischargeDepth := 99) [h]

@[simp ↓] theorem beginCommit_tidy {q s i} (h : Tidy q s) : Tidy q (beginCommit s i) := by
  unfold beginCommit
  simp only []
  refine tidy_ite ?_ ?_ <;> simp (maxDischargeDepth := 99) [h]

@[simp ↓] theorem reapply_tidy {q s i} (h : Tidy q s) : Tidy q (reapply s i) := by
  unfold reapply; simp (maxDischargeDepth := 99) [h]

@[simp ↓] theorem firstRecord_tidy {q s} (h : Tidy q s) : Tidy q (firstRecord s) := by
  unfold firstRecord; simp (maxDischargeDepth := 99) [h]

@[simp ↓] theorem dropStaged_tidy {q s} (h : Tidy q s) : Tidy q (dropStaged s) := by
  unfold dropStaged; simp (maxDischargeDepth := 99) [h]

@[simp ↓] theorem nameImage_tidy {q s digest id deltas} (h : Tidy q s) : Tidy q (nameImage s digest id deltas) := by
  unfold nameImage; simp (maxDischargeDepth := 99) +contextual [h]

@[simp ↓] theorem finishImage_tidy {q s i} (h : Tidy q s) : Tidy q (finishImage s i) := by
  unfold finishImage; simp (maxDischargeDepth := 99) [h]

@[simp ↓] theorem loseRegion_tidy {q s r} (h : Tidy q s) : Tidy q (loseRegion s r) := by
  unfold loseRegion; simp (maxDischargeDepth := 99) [h]

@[simp ↓] theorem beginDelta_tidy {q s} (h : Tidy q s) : Tidy q (beginDelta s) := by
  unfold beginDelta; simp only []; (repeat' split) <;> simp_all (maxDischargeDepth := 99)

@[simp ↓] theorem finishDelta_tidy {q s d} (h : Tidy q s) : Tidy q (finishDelta s d) := by
  unfold finishDelta; simp (maxDischargeDepth := 99) [h]


/-! ## Mer -/

@[simp ↓] theorem dropDown_tidy {q s} (h : Tidy q s) : Tidy q (dropDown s) := by
  unfold dropDown; (repeat' split) <;> simp (maxDischargeDepth := 99) +contextual [h]

@[simp ↓] theorem answerChild_tidy {q s i v} (h : Tidy q s) : Tidy q (answerChild s i v) := by
  unfold answerChild; (repeat' split) <;> simp (maxDischargeDepth := 99) +contextual [h]

@[simp ↓] theorem answerRepeat_tidy {q s held v} (h : Tidy q s) : Tidy q (answerRepeat s held v) := by
  unfold answerRepeat; (repeat' split) <;> simp (maxDischargeDepth := 99) +contextual [h]

@[simp ↓] theorem keepQuotas_tidy {q s} (h : Tidy q s) : Tidy q (keepQuotas s) := by
  unfold keepQuotas; simp (maxDischargeDepth := 99) +contextual [h]

@[simp ↓] theorem commitPoint_tidy {q s} (h : Tidy q s) : Tidy q (commitPoint s) := by
  unfold commitPoint; simp (maxDischargeDepth := 99) [h]

@[simp ↓] theorem stopCommit_tidy {q s} (h : Tidy q s) : Tidy q (stopCommit s) := by
  unfold stopCommit; simp (maxDischargeDepth := 99) +contextual [h]

@[simp ↓] theorem tryClose_tidy {q s} (h : Tidy q s) : Tidy q (tryClose s) := by
  unfold tryClose; simp (maxDischargeDepth := 99) [h]

@[simp ↓] theorem copyBack_tidy {q s x} (h : Tidy q s) : Tidy q (copyBack s x) := by
  unfold copyBack; simp (maxDischargeDepth := 99) +contextual [h]

@[simp ↓] theorem putPages_tidy {q s pages} (h : Tidy q s) : Tidy q (putPages s pages) := by
  unfold putPages; simp (maxDischargeDepth := 99) +contextual [h]

@[simp ↓] theorem restore_tidy {q s c pages} (h : Tidy q s) : Tidy q (restore s c pages) := by
  unfold restore; simp only []; (repeat' split) <;> simp_all (maxDischargeDepth := 99)


/-! ## Therm -/

@[simp ↓] theorem setSensor_tidy {q s i x} (h : Tidy q s) : Tidy q (setSensor s i x) := by
  unfold setSensor; simp (maxDischargeDepth := 99) [h]

@[simp ↓] theorem setLayer_tidy {q s tower layer x} (h : Tidy q s) : Tidy q (setLayer s tower layer x) := by
  unfold setLayer; simp (maxDischargeDepth := 99) [h]

@[simp ↓] theorem postClass_tidy {q s c i} (h : Tidy q s) : Tidy q (postClass s c i) := by
  unfold postClass; (repeat' split) <;> simp (maxDischargeDepth := 99) +contextual [h]

@[simp ↓] theorem breakSensor_tidy {q s i} (h : Tidy q s) : Tidy q (breakSensor s i) := by
  unfold breakSensor; simp (maxDischargeDepth := 99) [h]

@[simp ↓] theorem noteCold_tidy {q s r} (h : Tidy q s) : Tidy q (noteCold s r) := by
  unfold noteCold; (repeat' split) <;> simp (maxDischargeDepth := 99) +contextual [h]

@[simp ↓] theorem noteRate_tidy {q s i x} (h : Tidy q s) : Tidy q (noteRate s i x) := by
  unfold noteRate; (repeat' split) <;> simp (maxDischargeDepth := 99) +contextual [h]

@[simp ↓] theorem takeReading_tidy {q s i n x r} (h : Tidy q s) : Tidy q (takeReading s i n x r) := by
  unfold takeReading; simp (maxDischargeDepth := 99) [h]

@[simp ↓] theorem declareSuspect_tidy {q s tower layer fallback} (h : Tidy q s) : Tidy q (declareSuspect s tower layer fallback) := by
  unfold declareSuspect; simp (maxDischargeDepth := 99) +contextual [h]

@[simp ↓] theorem putEst_tidy {q tower s e} (h : Tidy q s) : Tidy q (putEst tower s e) := by
  unfold putEst; simp (maxDischargeDepth := 99) [h]

@[simp ↓] theorem putFallback_tidy {q tower s e} (h : Tidy q s) : Tidy q (putFallback tower s e) := by
  unfold putFallback; simp (maxDischargeDepth := 99) [h]

@[simp ↓] theorem putFit_tidy {q s tower layer r} (h : Tidy q s) : Tidy q (putFit s tower layer r) := by
  unfold putFit; simp (maxDischargeDepth := 99) [h]

@[simp ↓] theorem keepModel_tidy {q s tower} (h : Tidy q s) : Tidy q (keepModel s tower) := by
  unfold keepModel; simp (maxDischargeDepth := 99) [h]

@[simp ↓] theorem captureTrip_tidy {q s i fallback} (h : Tidy q s) : Tidy q (captureTrip s i fallback) := by
  unfold captureTrip; simp (maxDischargeDepth := 99) [h]

@[simp ↓] theorem stopDome_tidy {q s} (h : Tidy q s) : Tidy q (stopDome s) := by
  unfold stopDome; simp (maxDischargeDepth := 99) [h]


/-! ## Firm -/

@[simp ↓] theorem putDigest_tidy {q s f d} (h : Tidy q s) : Tidy q (putDigest s f d) := by
  unfold putDigest; simp (maxDischargeDepth := 99) +contextual [h]

@[simp ↓] theorem postSec_tidy {q s} (h : Tidy q s) : Tidy q (postSec s) := by
  unfold postSec; simp only []; (repeat' split) <;> simp_all (maxDischargeDepth := 99)

@[simp ↓] theorem runSet_tidy {q s x} (h : Tidy q s) : Tidy q (runSet s x) := by
  unfold runSet; simp (maxDischargeDepth := 99) [h]

theorem loadFirmware.go_tidy {q s x1} (h : Tidy q s) : Tidy q (loadFirmware.go s x1) := by
  induction x1 generalizing s with
  | nil => unfold loadFirmware.go; simp (maxDischargeDepth := 99) [h]
  | cons r rest ih =>
    unfold loadFirmware.go
    split
    · simp (maxDischargeDepth := 99) [h]
    · exact ih (by simp (maxDischargeDepth := 99) [h])

@[simp ↓] theorem loadFirmware_tidy {q s} (h : Tidy q s) : Tidy q (loadFirmware s) := by
  unfold loadFirmware; exact loadFirmware.go_tidy h


/-! ## Boot -/

theorem offState_tidy {q s} (h : Tidy q s) : Tidy q (offState s) :=
  ⟨h.queue, List.Pairwise.nil, rfl, rfl, rfl, rfl, Nat.zero_le _⟩

theorem darkState_tidy {q s} (h : Tidy q s) : Tidy q (darkState s) :=
  ⟨h.queue, ascending_filter _ h.regs, rfl, rfl, rfl, rfl, h.hist⟩

@[simp ↓] theorem freshSensors_tidy {q s} (h : Tidy q s) : Tidy q (freshSensors s) := by
  unfold freshSensors; simp (maxDischargeDepth := 99) [h]

@[simp ↓] theorem noteRestart_tidy {q s} (h : Tidy q s) : Tidy q (noteRestart s) := by
  unfold noteRestart; simp (maxDischargeDepth := 99) [h]

@[simp ↓] theorem beginTwilight_tidy {q s} (h : Tidy q s) : Tidy q (beginTwilight s) := by
  unfold beginTwilight; simp (maxDischargeDepth := 99) [h]

@[simp ↓] theorem markBad_tidy {q s bad} (h : Tidy q s) : Tidy q (markBad s bad) := by
  unfold markBad; simp (maxDischargeDepth := 99) [h]

@[simp ↓] theorem dropBlocks_tidy {q s bad} (h : Tidy q s) : Tidy q (dropBlocks s bad) := by
  unfold dropBlocks; simp (maxDischargeDepth := 99) [h]

@[simp ↓] theorem resolveLog_tidy {q s found} (h : Tidy q s) : Tidy q (resolveLog s found) := by
  unfold resolveLog; simp (maxDischargeDepth := 99) +contextual [h]

@[simp ↓] theorem checkIdentity_tidy {q s ok} (h : Tidy q s) : Tidy q (checkIdentity s ok) := by
  unfold checkIdentity; simp (maxDischargeDepth := 99) [h]

@[simp ↓] theorem setMemory_tidy {q s} (h : Tidy q s) : Tidy q (setMemory s) := by
  unfold setMemory; (repeat' split) <;> simp (maxDischargeDepth := 99) +contextual [h]

@[simp ↓] theorem trainChannels_tidy {q s} (h : Tidy q s) : Tidy q (trainChannels s) := by
  unfold trainChannels; simp (maxDischargeDepth := 99) +contextual [h]

@[simp ↓] theorem hostAddresses_tidy {q s} (h : Tidy q s) : Tidy q (hostAddresses s) := by
  unfold hostAddresses; (repeat' split) <;> simp (maxDischargeDepth := 99) +contextual [h]

@[simp ↓] theorem hostUp_tidy {q s} (h : Tidy q s) : Tidy q (hostUp s) := by
  unfold hostUp; simp (maxDischargeDepth := 99) [h]

@[simp ↓] theorem beginCore_tidy {q s rails} (h : Tidy q s) : Tidy q (beginCore s rails) := by
  unfold beginCore; simp (maxDischargeDepth := 99) [h]

@[simp ↓] theorem clearColdNext_tidy {q s} (h : Tidy q s) : Tidy q (clearColdNext s) := by
  unfold clearColdNext; simp only []; (repeat' split) <;> simp_all (maxDischargeDepth := 99)

@[simp ↓] theorem leaveTwilight_tidy {q s} (h : Tidy q s) : Tidy q (leaveTwilight s) := by
  unfold leaveTwilight; simp (maxDischargeDepth := 99) [h]

@[simp ↓] theorem setCrossings_tidy {q found s tower} (h : Tidy q s) : Tidy q (setCrossings found s tower) := by
  unfold setCrossings
  simp only []
  split
  · simp (maxDischargeDepth := 99) [h]
  · refine tidy_foldl _ (fun s a h => ?_) _ ?_
    · split <;> simp (maxDischargeDepth := 99) [h]
    · simp (maxDischargeDepth := 99) [h]

@[simp ↓] theorem calibrate_tidy {q found s i} (h : Tidy q s) : Tidy q (calibrate found s i) := by
  unfold calibrate; simp only []; (repeat' split) <;> simp_all (maxDischargeDepth := 99)

@[simp ↓] theorem restoreTile_tidy {q s p} (h : Tidy q s) : Tidy q (restoreTile s p) := by
  unfold restoreTile; simp only []; (repeat' split) <;> simp_all (maxDischargeDepth := 99)

@[simp ↓] theorem restoreModel_tidy {q s tower} (h : Tidy q s) : Tidy q (restoreModel s tower) := by
  unfold restoreModel; exact tidy_foldl _ (fun _ _ h => by simp (maxDischargeDepth := 99) [h]) _ h

@[simp ↓] theorem restoreWarm_tidy {q s} (h : Tidy q s) : Tidy q (restoreWarm s) := by
  unfold restoreWarm
  exact tidy_foldl _ (fun _ _ h => restoreModel_tidy h) _ (tidy_foldl _ (fun _ _ h => restoreTile_tidy h) _ h)

@[simp ↓] theorem steerSpares_tidy {q found s tower} (h : Tidy q s) : Tidy q (steerSpares found s tower) := by
  unfold steerSpares; simp (maxDischargeDepth := 99) [h]

@[simp ↓] theorem placeColumn_tidy {q s c} (h : Tidy q s) : Tidy q (placeColumn s c) := by
  unfold placeColumn; simp (maxDischargeDepth := 99) +contextual [h]

@[simp ↓] theorem placeColumns_tidy {q s} (h : Tidy q s) : Tidy q (placeColumns s) := by
  unfold placeColumns; simp (maxDischargeDepth := 99) +contextual [h]

@[simp ↓] theorem raiseTower_tidy {q s t} (h : Tidy q s) : Tidy q (raiseTower s t) := by
  unfold raiseTower; simp (maxDischargeDepth := 99) +contextual [h]

@[simp ↓] theorem enterIdle_tidy {q s} (h : Tidy q s) : Tidy q (enterIdle s) := by
  unfold enterIdle; simp (maxDischargeDepth := 99) [h]

@[simp ↓] theorem afterIdle_tidy {q s} (h : Tidy q s) : Tidy q (afterIdle s) := by
  unfold afterIdle; (repeat' split) <;> simp (maxDischargeDepth := 99) +contextual [h]

@[simp ↓] theorem enterSleep_tidy {q s} (h : Tidy q s) : Tidy q (enterSleep s) := by
  unfold enterSleep; simp (maxDischargeDepth := 99) +contextual [h]

@[simp ↓] theorem reopenAll_tidy {q s} (h : Tidy q s) : Tidy q (reopenAll s) := by
  unfold reopenAll
  dsimp only
  exact loadChanged_tidy (noSpreads_tidy (clearAll_tidy _ (reopenTiles_tidy _ h)))

@[simp ↓] theorem wakeUp_tidy {q s} (h : Tidy q s) : Tidy q (wakeUp s) := by
  unfold wakeUp; simp (maxDischargeDepth := 99) [h]

@[simp ↓] theorem loadShard_tidy {q s c pages} (h : Tidy q s) : Tidy q (loadShard s c pages) := by
  unfold loadShard; simp (maxDischargeDepth := 99) [h]


/-! ## LaneEv -/

@[simp ↓] theorem enterHalt_tidy {q s} (h : Tidy q s) : Tidy q (enterHalt s) := by
  unfold enterHalt; simp (maxDischargeDepth := 99) [h]

@[simp ↓] theorem dbgHalt_tidy {q s t slot origin} (h : Tidy q s) : Tidy q (dbgHalt s t slot origin) := by
  unfold dbgHalt; (repeat' split) <;> simp (maxDischargeDepth := 99) +contextual [h]

@[simp ↓] theorem stepInstr_tidy {q s t slot g o} (h : Tidy q s) : Tidy q (stepInstr s t slot g o) := by
  cases o with
  | none => exact illegal_tidy (incF_tidy h)
  | some i =>
    unfold stepInstr
    dsimp only
    split
    · rename_i u hu; exact instrHold_tidy h _ hu
    · exact laneBody_tidy (incF_tidy h)

@[simp ↓] theorem stepOne_tidy {q s t slot g} (h : Tidy q s) : Tidy q (stepOne s t slot g) := by
  unfold stepOne; exact stepInstr_tidy h

@[simp ↓] theorem dbgStep_tidy {q s t slot} (h : Tidy q s) : Tidy q (dbgStep s t slot) := by
  unfold dbgStep
  dsimp only
  split
  · exact h
  · exact tidy_ite (setB_tidy (stepOne_tidy h)) h

@[simp ↓] theorem dbgResume_tidy {q s t slot} (h : Tidy q s) : Tidy q (dbgResume s t slot) := by
  unfold dbgResume; (repeat' split) <;> simp (maxDischargeDepth := 99) +contextual [h]

@[simp ↓] theorem writeDbgCtl_tidy {q s t v origin} (h : Tidy q s) : Tidy q (writeDbgCtl s t v origin) := by
  unfold writeDbgCtl; simp (maxDischargeDepth := 99) [h]

@[simp ↓] theorem writeDbgData_tidy {q s t v} (h : Tidy q s) : Tidy q (writeDbgData s t v) := by
  unfold writeDbgData; (repeat' split) <;> simp (maxDischargeDepth := 99) +contextual [h]


/-! ## Fault -/

@[simp ↓] theorem feedWatchdog_tidy {q s v} (h : Tidy q s) : Tidy q (feedWatchdog s v) := by
  unfold feedWatchdog; simp (maxDischargeDepth := 99) [h]

@[simp ↓] theorem revertFirmware_tidy {q s} (h : Tidy q s) : Tidy q (revertFirmware s) := by
  unfold revertFirmware; (repeat' split) <;> simp (maxDischargeDepth := 99) +contextual [h]

@[simp ↓] theorem postErrn_tidy {q s} (h : Tidy q s) : Tidy q (postErrn s) := by
  unfold postErrn; simp (maxDischargeDepth := 99) [h]

@[simp ↓] theorem writeErrnHold_tidy {q s v} (h : Tidy q s) : Tidy q (writeErrnHold s v) := by
  unfold writeErrnHold; simp (maxDischargeDepth := 99) [h]


/-! ## Journal -/

@[simp ↓] theorem logFails_tidy {q s} (h : Tidy q s) : Tidy q (logFails s) := by
  unfold logFails; simp (maxDischargeDepth := 99) [h]

@[simp ↓] theorem openBlock_tidy {q s} (h : Tidy q s) : Tidy q (openBlock s) := by
  unfold openBlock; simp (maxDischargeDepth := 99) [h]

@[simp ↓] theorem flushChanges_tidy {q s} (h : Tidy q s) : Tidy q (flushChanges s) := by
  unfold flushChanges; simp (maxDischargeDepth := 99) +contextual [h]

@[simp ↓] theorem writeColdNext_tidy {q s v} (h : Tidy q s) : Tidy q (writeColdNext s v) := by
  unfold writeColdNext; simp (maxDischargeDepth := 99) [h]


/-! ## Bus -/

@[simp ↓] theorem plainWrite_tidy {q s a r v origin} (h : Tidy q s) : Tidy q (plainWrite s a r v origin) := by
  unfold plainWrite; simp (maxDischargeDepth := 99) [h]

@[simp ↓] theorem rearmMin_tidy {q s r v} (h : Tidy q s) : Tidy q (rearmMin s r v) := by
  unfold rearmMin; simp (maxDischargeDepth := 99) [h]

@[simp ↓] theorem busWrite_tidy {q s a v origin} (h : Tidy q s) : Tidy q (busWrite s a v origin) := by
  unfold busWrite; (repeat' split) <;> simp (maxDischargeDepth := 99) +contextual [h]


/-! ## Pins -/

@[simp ↓] theorem drain_tidy {q s} (h : Tidy q s) : Tidy q (drain s) := by
  unfold drain; simp (maxDischargeDepth := 99) [h]

@[simp ↓] theorem askDrain_tidy {q s} (h : Tidy q s) : Tidy q (askDrain s) := by
  unfold askDrain; simp (maxDischargeDepth := 99) [h]

@[simp ↓] theorem sampleLands_tidy {q s pins load} (h : Tidy q s) : Tidy q (sampleLands s pins load) := by
  unfold sampleLands; simp (maxDischargeDepth := 99) [h]


/-! ## Mcc -/

@[simp ↓] theorem answer_tidy {q s st} (h : Tidy q s) : Tidy q (answer s st).1 := by
  unfold answer; simp (maxDischargeDepth := 99) [h]

@[simp ↓] theorem sendFrames_tidy {q s fs} (h : Tidy q s) : Tidy q (sendFrames s fs) := by
  unfold sendFrames; simp (maxDischargeDepth := 99) +contextual [h]

@[simp ↓] theorem reject_tidy {q s op req st} (h : Tidy q s) : Tidy q (reject s op req st) := by
  unfold reject; simp (maxDischargeDepth := 99) [h]

theorem runBare_tidy {q s op req f} (hf : ∀ s, Tidy q s → Tidy q (f s).1) (h : Tidy q s) : Tidy q (runBare s op req f) := by
  unfold runBare; simp (maxDischargeDepth := 99) [hf, h]

theorem runKept_tidy {q s op req f} (hf : ∀ s, Tidy q s → Tidy q (f s).1) (h : Tidy q s) : Tidy q (runKept s op req f) := by
  unfold runKept
  refine sendFrames_tidy ?_
  have h2 := incF_tidy (f := F.MCC_CMDS_COUNT) (u := 0) (n := 1) (hf _ h)
  refine tidy_ite (hf _ h) ?_
  dsimp only
  split
  · exact tidy_ite h2 h2
  · exact h2

theorem inSession_tidy {q s x op req f} (hf : ∀ s, Tidy q s → Tidy q (f s).1) (h : Tidy q s) : Tidy q (inSession s x op req f) := by
  unfold inSession
  split
  · exact sendFrames_tidy (incF_tidy h)
  · refine tidy_ite (reject_tidy (incF_tidy h)) ?_
    split
    · exact runKept_tidy (fun s h => by simp (maxDischargeDepth := 99) [h]) h
    · exact runKept_tidy hf h

theorem admitReq_tidy {q s op req f} (hf : ∀ s, Tidy q s → Tidy q (f s).1) (h : Tidy q s) : Tidy q (admitReq s op req f) := by
  unfold admitReq
  (repeat' split) <;> simp (maxDischargeDepth := 99) [h, runBare_tidy hf, inSession_tidy hf]

theorem sized_tidy {q n p s f} (hf : ∀ s, Tidy q s → Tidy q (f s).1) (h : Tidy q s) : Tidy q (sized n p s f).1 := by
  unfold sized
  split
  · exact hf _ h
  · exact h

@[simp ↓] theorem dropFrame_tidy {q s} (h : Tidy q s) : Tidy q (dropFrame s) := by
  unfold dropFrame; simp (maxDischargeDepth := 99) [h]

@[simp ↓] theorem secureFresh_tidy {q s session} (h : Tidy q s) : Tidy q (secureFresh s session) := by
  unfold secureFresh; (repeat' split) <;> simp (maxDischargeDepth := 99) +contextual [h]

@[simp ↓] theorem takeRequest_tidy {q s op req} (h : Tidy q s) : Tidy q (takeRequest s op req) := by
  unfold takeRequest
  refine tidy_ite h (admitReq_tidy (fun s h => ?_) h)
  simp (maxDischargeDepth := 99) [h]

@[simp ↓] theorem takeFragment_tidy {q s op session seq idx last b} (h : Tidy q s) : Tidy q (takeFragment s op session seq idx last b) := by
  unfold takeFragment; simp (maxDischargeDepth := 99) [h]

@[simp ↓] theorem readRegs_tidy {q s as} (h : Tidy q s) : Tidy q (readRegs s as).1 := by
  unfold readRegs; simp (maxDischargeDepth := 99) +contextual [h]


/-! ## MccImg -/

@[simp ↓] theorem startLoading_tidy {q s id} (h : Tidy q s) : Tidy q (startLoading s id) := by
  unfold startLoading; simp (maxDischargeDepth := 99) [h]

@[simp ↓] theorem noteHeader_tidy {q s} (h : Tidy q s) : Tidy q (noteHeader s) := by
  unfold noteHeader; simp (maxDischargeDepth := 99) [h]

@[simp ↓] theorem placePart_tidy {q s off d} (h : Tidy q s) : Tidy q (placePart s off d) := by
  unfold placePart; simp (maxDischargeDepth := 99) [h]

@[simp ↓] theorem imgPart_tidy {q s off id d} (h : Tidy q s) : Tidy q (imgPart s off id d).1 := by
  unfold imgPart; simp only []; (repeat' split) <;> simp_all (maxDischargeDepth := 99)

@[simp ↓] theorem newWindow_tidy {q s} (h : Tidy q s) : Tidy q (newWindow s).1 := by
  unfold newWindow; simp (maxDischargeDepth := 99) [h]

@[simp ↓] theorem rdma_tidy {q s d} (h : Tidy q s) : Tidy q (rdma s d) := by
  unfold rdma; simp (maxDischargeDepth := 99) [h]

@[simp ↓] theorem storageBytes_tidy {q s off n k} (h : Tidy q s) : Tidy q (storageBytes s off n k).1 := by
  induction k generalizing s off n with
  | zero => exact h
  | succ k ih =>
    unfold storageBytes
    dsimp only
    split
    · exact h
    · refine ih ?_
      split <;> simp (maxDischargeDepth := 99) [h]

@[simp ↓] theorem focalBytes_tidy {q s t off n} (h : Tidy q s) : Tidy q (focalBytes s t off n).1 := by
  unfold focalBytes; simp (maxDischargeDepth := 99) [h]

@[simp ↓] theorem appendService_tidy {q s type key b} (h : Tidy q s) : Tidy q (appendService s type key b) := by
  unfold appendService; simp (maxDischargeDepth := 99) [h]

@[simp ↓] theorem commitService_tidy {q s} (h : Tidy q s) : Tidy q (commitService s) := by
  unfold commitService; simp (maxDischargeDepth := 99) [h]

@[simp ↓] theorem takeSet_tidy {q s x} (h : Tidy q s) : Tidy q (takeSet s x) := by
  unfold takeSet; simp (maxDischargeDepth := 99) [h]

@[simp ↓] theorem takeOwner_tidy {q s} (h : Tidy q s) : Tidy q (takeOwner s) := by
  unfold takeOwner; simp (maxDischargeDepth := 99) [h]

@[simp ↓] theorem fwCommit_tidy {q s} (h : Tidy q s) : Tidy q (fwCommit s).1 := by
  unfold fwCommit; simp only []; (repeat' split) <;> simp_all (maxDischargeDepth := 99)


/-! ## MccJob -/

@[simp ↓] theorem noSnapshots_tidy {q s} (h : Tidy q s) : Tidy q (noSnapshots s) := by
  unfold noSnapshots; simp (maxDischargeDepth := 99) [h]

@[simp ↓] theorem setResults_tidy {q s p} (h : Tidy q s) : Tidy q (setResults s p) := by
  unfold setResults; simp (maxDischargeDepth := 99) [h]

@[simp ↓] theorem beginJob_tidy {q s p} (h : Tidy q s) : Tidy q (beginJob s p) := by
  unfold beginJob; simp (maxDischargeDepth := 99) [h]

@[simp ↓] theorem reapplyLive_tidy {q s i} (h : Tidy q s) : Tidy q (reapplyLive s i) := by
  unfold reapplyLive; simp (maxDischargeDepth := 99) [h]

@[simp ↓] theorem takeRole_tidy {q s index} (h : Tidy q s) : Tidy q (takeRole s index) := by
  unfold takeRole; (repeat' split) <;> simp (maxDischargeDepth := 99) +contextual [h]

@[simp ↓] theorem leaveTracking_tidy {q s} (h : Tidy q s) : Tidy q (leaveTracking s) := by
  unfold leaveTracking; simp (maxDischargeDepth := 99) [h]

@[simp ↓] theorem changePower_tidy {q s sleep} (h : Tidy q s) : Tidy q (changePower s sleep).1 := by
  unfold changePower; simp only []; (repeat' split) <;> simp_all (maxDischargeDepth := 99)

@[simp ↓] theorem slotData_tidy {q s x off n} (h : Tidy q s) : Tidy q (slotData s x off n).1 := by
  unfold slotData; simp only []; (repeat' split) <;> simp_all (maxDischargeDepth := 99)


/-! ## MccDbg -/

theorem onGroup_tidy {q p s f} (hf : ∀ s t g, Tidy q s → Tidy q (f s t g)) (h : Tidy q s) : Tidy q (onGroup p s f).1 := by
  unfold onGroup
  simp only []
  split
  · exact h
  · exact hf _ _ _ h

@[simp ↓] theorem shutterUnit_tidy {q s kind i} (h : Tidy q s) : Tidy q (shutterUnit s kind i) := by
  unfold shutterUnit; simp (maxDischargeDepth := 99) [h]

@[simp ↓] theorem reopenUnit_tidy {q s kind i} (h : Tidy q s) : Tidy q (reopenUnit s kind i) := by
  unfold reopenUnit; simp (maxDischargeDepth := 99) [h]

@[simp ↓] theorem writeLampRegs_tidy {q s c p} (h : Tidy q s) : Tidy q (writeLampRegs s c p) := by
  unfold writeLampRegs; simp (maxDischargeDepth := 99) +contextual [h]


/-! ## Tick -/

@[simp ↓] theorem tickCycle_tidy {q s} (h : Tidy q s) : Tidy q (tickCycle s) := by
  unfold tickCycle; simp (maxDischargeDepth := 99) +contextual [h]

@[simp ↓] theorem settleTiles_tidy {q s} (h : Tidy q s) : Tidy q (settleTiles s) := by
  unfold settleTiles; simp (maxDischargeDepth := 99) +contextual [h]

@[simp ↓] theorem serveWaiting_tidy {q s} (h : Tidy q s) : Tidy q (serveWaiting s) := by
  unfold serveWaiting; simp (maxDischargeDepth := 99) +contextual [h]

@[simp ↓] theorem countCongestion_tidy {q s n} (h : Tidy q s) : Tidy q (countCongestion s n) := by
  unfold countCongestion; simp (maxDischargeDepth := 99) [h]

@[simp ↓] theorem tick_tidy {q s} (h : Tidy q s) : Tidy q (tick s) := by
  unfold tick; simp (maxDischargeDepth := 99) [h]

end Sys2Proof.Machine
end

