-- ==== Sys2Proof/Tests/Slice0.lean ====
section
/-!
SUPPORT. The modeller's own tests: terms that the checks of WellFormed refuse, small steps whose results the spec gives, and for
every statement with hypotheses states that meet the hypotheses of each of its clauses.
-/
namespace Sys2Proof.Tests
open Sys2Proof Sys2Proof.Machine Sys2Proof.Claims

set_option Elab.async false

/-! ## Helpers -/

/-- The answer is a next state of which `p` holds. -/
def gives (o : Out) (p : State → Bool) : Bool :=
  match o with
  | .next t => p t
  | _ => false

/-- A group of 32 active lanes at offset 0x100. -/
def grp : Group :=
  { task := 0, index := 0, pc := 0x100, mask := 0xFFFFFFFF, exited := 0, stack := [], vreg := [], sreg := [], locks := [],
    lockStart := none, wait := .none, active := true, since := 0, barStart := [], stores := 0, halted := false }

/-- The reset state with a group in slot 0 of tile 0. -/
def lanes (g : Group) : State := { lane := { tiles := [(0, { groups := [(0, some g)] })] }, clk := { running := true } }

def rf : RForm := ⟨5, 6, 7, 8, false, false, false, false, 0, 0, 0, 0, false⟩
def nf : IForm := ⟨5, 0, false, false, 0⟩
def mf : MForm := ⟨5, 1, 2, false, 0, 2, false, 0x40⟩
def cf : CForm := ⟨6, false, 2, 3⟩

/-- A lane instruction of tile 0 issues for the group in slot 0. -/
def goes (i : Instr) (s : State) (g : Group) : Bool :=
  runnable s 0 0 == some g && (issueHold i s g).isNone && issueOk s 0 0 g (issueOf i)
/-! ## Terms that WellFormed refuses -/

theorem test_wf_tile : (Instr.load 511).wf = true ∧ (Instr.load 512).wf = false := by decide
theorem test_wf_slot : (Instr.nop 511 31 nf).wf = true ∧ (Instr.nop 0 32 nf).wf = false := by decide
theorem test_wf_lane : (Instr.lregParity 0 31 31).wf = true ∧ (Instr.lregParity 0 0 32).wf = false := by decide
theorem test_wf_phys : (Instr.trimOpen 575).wf = true ∧ (Instr.trimOpen 576).wf = false := by decide
theorem test_wf_layer : (Instr.layerPllLost 3 7).wf = true ∧ (Instr.layerPllLost 4 0).wf = false ∧ (Instr.layerPllLost 0 8).wf = false := by decide
theorem test_wf_tower : (Instr.refclkLost 3).wf = true ∧ (Instr.refclkLost 4).wf = false := by decide
theorem test_wf_bar : (Instr.namedBarrierComplete 63).wf = true ∧ (Instr.namedBarrierComplete 64).wf = false := by decide
theorem test_wf_slice : (Instr.sliceAccess 191).wf = true ∧ (Instr.sliceAccess 192).wf = false := by decide
theorem test_wf_tag : (Instr.tagLost 191 32767 15).wf = true ∧ (Instr.tagLost 0 32768 0).wf = false ∧ (Instr.tagLost 0 0 16).wf = false := by decide
theorem test_wf_chan : (Instr.chTimeout 191).wf = true ∧ (Instr.chTimeout 192).wf = false := by decide
theorem test_wf_pkg : (Instr.pkgTempPoll 23 85 false).wf = true ∧ (Instr.pkgTempPoll 24 85 false).wf = false := by decide
theorem test_wf_target : (Instr.etaHint (.slice 191)).wf = true ∧ (Instr.etaHint (.slice 192)).wf = false ∧ (Instr.etaHint (.chan 192)).wf = false := by decide
theorem test_wf_master : (Instr.heldRequestIssue 5 0 7).wf = true ∧ (Instr.heldRequestIssue 6 0 0).wf = false ∧ (Instr.heldRequestIssue 0 0 8).wf = false := by decide
theorem test_wf_patrol : (Instr.patrolVisit (.focal 511)).wf = true ∧ (Instr.patrolVisit (.focal 512)).wf = false ∧
    (Instr.patrolVisit (.slice 192)).wf = false ∧ (Instr.patrolVisit (.chan 192)).wf = false := by decide
theorem test_wf_port : (Instr.portDown 191).wf = true ∧ (Instr.portDown 255).wf = true ∧ (Instr.portDown 192).wf = false := by decide
theorem test_wf_cage : (Instr.cageUnplug 48).wf = true ∧ (Instr.cageUnplug 49).wf = false := by decide
theorem test_wf_rail : (Instr.railFault 13).wf = true ∧ (Instr.railFault 14).wf = false := by decide
theorem test_wf_sensor : (Instr.thmTrip 1151 false).wf = true ∧ (Instr.thmTrip 1152 false).wf = false := by decide
theorem test_wf_fcst : (Instr.fcstFrame 4 255).wf = true ∧ (Instr.fcstFrame 5 0).wf = false ∧ (Instr.fcstFrame 0 256).wf = false := by decide
theorem test_wf_volts : (Instr.tileDroop 575 1023).wf = true ∧ (Instr.tileDroop 0 1024).wf = false := by decide

/-- A vote frame whose fields are all 0. -/
def vote0 : VoteFrame := ⟨0, 0, 0, 0, 0, 0, 0, 0, 0, 0, 0, 0, 0, 0, 0⟩

theorem test_wf_vote : (Instr.up vote0).wf = true ∧ (Instr.down { vote0 with step := 2 ^ 64 }).wf = false ∧
    (Instr.closeUp { vote0 with attempt := 2 ^ 16 }).wf = false ∧ (Instr.closeDown { vote0 with crc := 2 ^ 32 }).wf = false ∧
    (Instr.up { vote0 with sender := 2 ^ 16 }).wf = false := by decide

/-- A block frame whose fields are all 0. -/
def blk0 : BlockFrame := ⟨0, 0, 0, 0, 0, 0, 0, 0, 0, 0, 0, 0, 0, [], 0, true⟩

theorem test_wf_block : (Instr.blockReceive 0 blk0).wf = true ∧ (Instr.blockReceive 192 blk0).wf = false ∧
    (Instr.blockReceive 0 { blk0 with poison := 2 ^ 128 }).wf = false ∧ (Instr.nakReceive 0 { blk0 with seq := 2 ^ 32 }).wf = false ∧
    (Instr.blockReceive 0 { blk0 with length := 2 ^ 16 }).wf = false := by decide

theorem test_wf_req : (Instr.ping ⟨2 ^ 32 - 1, 2 ^ 64 - 1, []⟩).wf = true ∧ (Instr.ping ⟨2 ^ 32, 0, []⟩).wf = false ∧
    (Instr.hello ⟨0, 2 ^ 64, []⟩).wf = false := by decide

theorem test_wf_payload (l : List Byte) (h : 143360 < l.length) : (Instr.imgPart ⟨0, 0, l⟩).wf = false := by
  have h2 : ¬ l.length ≤ 16 * 8960 := by omega
  show (decide (0 < 2 ^ 32) && decide (0 < 2 ^ 64) && decide (l.length ≤ 16 * 8960)) = false
  rw [decide_eq_false h2]
  rfl

theorem test_wf_block_payload (l : List Byte) (h : 4096 < l.length) : (Instr.blockReceive 0 { blk0 with payload := l }).wf = false := by
  have h2 : ¬ l.length ≤ 4096 := by omega
  simp [Instr.wf, BlockFrame.wf, h2]

/-! ## Witnesses for the statements: the lane unit -/

/-- A group of lanes 0 and 31 whose v2 holds offsets 4 apart, with a base in s1. -/
def offs : Group :=
  { grp with mask := 0x80000001, exited := 0x7FFFFFFE, vreg := (List.range 32).map (fun l => ((2, l), (⟨BitVec.ofNat 32 (4 * l), false⟩ : LaneVal))), sreg := [(1, ⟨0x1000, false⟩)] }

/-- A group with one lane left, lane 0. -/
def solo : Group := { grp with mask := 1, exited := 0xFFFFFFFE, sreg := [(1, ⟨0x1000, false⟩)], vreg := [((5, 0), ⟨7, false⟩)] }

/-- An M form with a vector index. -/
def mv (size : BitVec 3) (space : BitVec 2) : MForm := { mf with vx := true, size := size, space := space }

/-- The state in which an instruction of slot 0 of tile 0 has issued. -/
def gone (i : Instr) (s : State) (g : Group) : State := noted i s 0 0 g

theorem test_goes (i : Instr) (s : State) (g : Group) (h : goes i s g = true) : Issues i s 0 0 g := by
  simp only [goes, Bool.and_eq_true, beq_iff_eq, Option.isNone_iff_eq_none] at h
  exact ⟨h.1.1, h.1.2, h.2⟩

theorem test_goes_r : rInstrs.all (fun k => goes (k 0 0 rf) (lanes grp) grp) = true := by decide +kernel
theorem test_goes_i : iInstrs.all (fun k => goes (k 0 0 nf) (lanes grp) grp) = true := by decide +kernel
theorem test_goes_c : cInstrs.all (fun k => goes (k 0 0 cf) (lanes grp) grp) = true := by decide +kernel

theorem test_meets_LaneIntegerVector :
    (∀ f ∈ [rf, { rf with cc := 7, d := 63 }, { rf with cc := 5, a := 31, aS := true }], rBad f = false ∧ f.dS = false ∧ f.cc ≠ 6 ∧ rInstrs.all (fun k => goes (k 0 0 f) (lanes grp) grp) = true) := by decide +kernel

theorem test_meets_LaneFloatVector :
    (∀ f ∈ [rf, { rf with cc := 6, rnd := 1 }], rBad f = false ∧ f.dS = false ∧ f.cc ≠ 7 ∧ f.rnd ≠ 2 ∧ rInstrs.all (fun k => goes (k 0 0 f) (lanes grp) grp) = true) ∧
    (∀ f ∈ [{ rf with rnd := 2, cS := true }, { rf with rnd := 2, cS := true, c := 31 }], rBad f = false ∧ f.dS = false ∧ f.rnd = 2 ∧ f.cS = true ∧
      goes (.cvtn 0 0 f) (lanes grp) grp = true) ∧
    goes (.cvtn 0 0 { rf with rnd := 2 }) (lanes grp) grp = true := by
  decide +kernel

theorem test_meets_LaneScalar :
    (∀ f ∈ [rf, { rf with d := 31, a := 31, b := 31, cc := 7 }], rBad f = false ∧ f.d.toNat < 32 ∧ f.a.toNat < 32 ∧ f.b.toNat < 32 ∧ f.cc ≠ 6 ∧ rInstrs.all (fun k => goes (k 0 0 f) (lanes grp) grp) = true) ∧
    (∀ f ∈ [nf, { nf with d := 31 }], iBad f = false ∧ f.d.toNat < 32 ∧ f.dS = false ∧ iInstrs.all (fun k => goes (k 0 0 f) (lanes grp) grp) = true) := by decide +kernel

theorem test_special_values (s : State) (k : Nat × Nat) (h : k = (0, nowNs s) ∨ k = (4, 0)) :
    (k.1, k.2) ∈ [(0, nowNs s), (1, getF s F.SEG_STEP_STEP 0), (2, segCycle s), (3, 0), (4, 0)] := by
  rcases h with h | h <;> subst h <;> simp

theorem test_meets_LaneVectorToScalar : vectorOps.all (fun k => goes (k 0 0 { rf with dS := true, d := 31 }) (lanes grp) grp) = true ∧
    goes (.movi 0 0 { nf with dS := true, d := 31 }) (lanes grp) grp = true ∧
    rBad { rf with dS := true, d := 31 } = false ∧ iBad { nf with dS := true, d := 31 } = false := by decide +kernel

theorem test_meets_LaneWaits : runnable State.reset 0 0 = none ∧ runnable (lanes { grp with active := false }) 0 0 = none ∧
    runnable (lanes { grp with wait := .macq }) 0 0 = none ∧ runnable (lanes { grp with halted := true }) 0 0 = none ∧
    runnable { lanes grp with eph := { inSlot := true } } 0 0 = none := by decide +kernel

/-- The books of tile 0 after one issue of slot 1 on both ports, with v7 of slot 0 still to come. -/
def busyTile : LaneSt := { groups := [(0, some grp), (1, some grp)], issueCyc := 5, issues := [⟨1, 0x100, { x := true, y := true }⟩],
                           late := [⟨0, 7, 9, false⟩], last := [(1, 6)] }

/-- Tile 0 in lane cycle 5 with books of its own. -/
def booked (l : LaneSt) : State := { lane := { tiles := [(0, l)] }, clk := { laneCyc := 5 } }

theorem test_waits_ports : (issueHold (.mma 0 0 rf) { lanes grp with clk := {} } grp).isSome ∧
    issueOk (booked { busyTile with issues := [⟨1, 0x100, { x := true, y := false }⟩, ⟨2, 0x100, { x := false, y := true }⟩] }) 0 0 grp (issueOf (.nop 0 0 nf)) = false ∧
    2 ≤ (issuesNow (booked { busyTile with issues := [⟨1, 0x100, { x := true, y := false }⟩, ⟨2, 0x100, { x := false, y := true }⟩] }) 0).length ∧
    issuesNow (booked busyTile) 0 = [⟨1, 0x100, { x := true, y := true }⟩] ∧
    (issueOf (.iadd 0 0 { rf with a := 7 })).reads.contains 7 = true ∧
    issueOk (booked { busyTile with issues := [] }) 0 0 grp (issueOf (.iadd 0 0 { rf with a := 7 })) = false ∧
    issueOk (booked { busyTile with issues := [], late := [], last := [(0, 6)] }) 0 0 grp (issueOf (.nop 0 0 nf)) = false ∧
    issueOk (booked { busyTile with issues := [], late := [], last := [(1, 6)] }) 0 0 grp (issueOf (.nop 0 0 nf)) = true := by decide +kernel

theorem test_meets_LaneReservedFaults : (mInstrs.filter (fun k => (k 0 0 mf) != .mwld 0 0 mf)).all (fun k => goes (k 0 0 { mf with size := 3 }) (lanes grp) grp) = true ∧
    goes (.reservedInstruction 0 0 0xFF) (lanes grp) grp = true ∧
    (∀ f ∈ [{ rf with rnd := 3 }, { rf with cc := 8 }, { rf with d := 32, dS := true }, { rf with c := 63, cS := true }], rBad f = true) ∧
    iBad { nf with a := 32, aS := true } = true ∧ cBad { cf with c := 32, cS := true } = true ∧ decodeLane 0 0 0xFF = none ∧ (decodeLane 0 0 0).isSome := by
  decide +kernel

theorem test_meets_LaneControl :
    (∀ k ∈ [([] : List MaskEntry), List.replicate 14 (.pend 1 1), List.replicate 15 (.pend 1 1), List.replicate 16 (.pend 1 1), [.waiting 2 0x200 0]],
      cInstrs.all (fun i => goes (i 0 0 cf) (lanes { grp with stack := k }) { grp with stack := k }) = true) ∧ cBad cf = false ∧
    (let g := { grp with stack := List.replicate 14 (.pend 1 1), vreg := [((6, 0), ⟨1, false⟩)] }
     let c := condMask g 6 false
     g.stack.length + 2 ≤ 16 ∧ c.1 ≠ 0 ∧ g.mask &&& ~~~c.1 ≠ 0) ∧
    (let g := { grp with stack := List.replicate 15 (.pend 1 1), sreg := [(6, ⟨1, false⟩)] }
     let c := condMask g 6 true
     g.stack.length + 1 ≤ 16 ∧ c.1 ≠ 0 ∧ g.mask &&& ~~~c.1 = 0) ∧
    ((condMask grp 6 false).1 = 0 ∧ grp.mask ≠ 0) ∧
    (let g := { grp with stack := [.pend 2 0x200, .rejoin 3 0x300], sreg := [(6, ⟨1, false⟩)] }
     let c := condMask g 6 true
     joinRejoin c.1 g.stack = .pend 2 0x200 :: joinRejoin c.1 [.rejoin 3 0x300] ∧ g.mask &&& ~~~c.1 = 0) ∧
    (let g := { grp with stack := [.rejoin 3 0x300], sreg := [(6, ⟨1, false⟩)] }
     let c := condMask g 6 true
     joinRejoin c.1 g.stack = [.rejoin (3 ||| c.1) 0x300] ∧ g.mask &&& ~~~c.1 = 0) ∧
    cf.c.toNat < 32 ∧ ({ cf with c := 31 } : CForm).c.toNat < 32 := by decide +kernel

theorem test_meets_LaneExit : goes (.exit 0 0 cf) (lanes grp) grp = true ∧ cBad cf = false ∧ grp.exited ||| grp.mask = 0xFFFFFFFF ∧
    (let g := { grp with mask := 3, stack := [.rejoin 0xFF 0x200, .pend 0xF 0x300] }
     goes (.exit 0 0 cf) (lanes g) g = true ∧ g.exited ||| g.mask ≠ 0xFFFFFFFF) ∧
    (let g := { grp with mask := 3, stack := [.pend 0xFF 0x200], locks := [(0x40, 1), (0x44, 0)] }
     goes (.exit 0 0 cf) (lanes g) g = true ∧ g.locks.filter (fun x => inMask g.mask x.2) ≠ []) := by decide +kernel

theorem test_waiting_rejoin (b : Nat) : waitingLanes b [.pend 0xF 0x300] = 0 ∧ waitingLanes b [] = 0 := ⟨rfl, rfl⟩

/-- The focal access of a lane memory instruction meets what its statement asks: it issues, its addresses are accepted and its words
read cleanly. -/
def accesses (k : Nat → Nat → MForm → Instr) (g : Group) (f : MForm) : Bool :=
  let s := lanes g
  let u := usePoison (gone (k 0 0 f) s g) 0 0 g.pc (poisonAddrs g f)
  goes (k 0 0 f) s g && !mBad f && firstBad u g f (sizeBytes f.size.toNat) == none &&
    (laneOffs g f).all (fun x => (readWord u (focalAddr 0 x.2 / 32 * 32)).1 == .clean)

/-- A state whose lane cache holds the line of the offsets. -/
def cached (g : Group) : State :=
  setLane (lanes g) 0 { getLane (lanes g) 0 with lines := [⟨0x1000, List.replicate 256 7, List.replicate 256 false⟩] }

/-- The state in which a load or store of `offs` has issued. -/
def wentLd (f : MForm) : State := gone (.ld 0 0 f) (lanes offs) offs

theorem test_meets_LaneLoads_focal : accesses .ld offs (mv 2 0) = true ∧ accesses .ld offs (mv 0 0) = true ∧ accesses .pref offs (mv 2 0) = true ∧
    accesses .ld { offs with sreg := [(1, ⟨0x1000, true⟩)] } (mv 2 0) = true := by decide +kernel

theorem test_meets_LaneLoads_global :
    (goes (.ld 0 0 (mv 2 1)) (cached offs) offs = true ∧ firstBad (gone (.ld 0 0 (mv 2 1)) (cached offs) offs) offs (mv 2 1) 4 = none ∧
      ∀ x ∈ laneOffs offs (mv 2 1), (lcFind (getLane (gone (.ld 0 0 (mv 2 1)) (cached offs) offs) 0) (x.2 / 256 * 256)).isSome) ∧
    (goes (.ld 0 0 (mv 2 1)) (lanes offs) offs = true ∧ goes (.pref 0 0 (mv 2 1)) (lanes offs) offs = true ∧ firstBad (wentLd (mv 2 1)) offs (mv 2 1) 4 = none ∧
      ∃ x ∈ laneOffs offs (mv 2 1), lcFind (getLane (wentLd (mv 2 1)) 0) (x.2 / 256 * 256) = none) := by decide +kernel

theorem test_meets_LaneLoads_edges :
    (let f := { mv 2 0 with off := 0xDFEF84 }
     goes (.ld 0 0 f) (lanes offs) offs = true ∧ goes (.pref 0 0 f) (lanes offs) offs = true ∧ firstBad (wentLd f) offs f 4 = some 31) ∧
    (let f := { mv 2 0 with off := 0xDFEF80 }
     goes (.ld 0 0 f) (lanes offs) offs = true ∧ firstBad (wentLd f) offs f 4 = none) ∧
    firstBad (wentLd { mv 2 0 with off := 2 }) offs { mv 2 0 with off := 2 } 4 = some 0 := by decide +kernel

theorem test_meets_LaneLoads_scalar :
    (let g := { grp with sreg := [(1, ⟨0x1000, true⟩)] }
     goes (.lds 0 0 mf) (lanes g) g = true ∧ (laneAddr g mf 0).2 = true) ∧
    (goes (.lds 0 0 mf) (lanes offs) offs = true ∧ mf.d.toNat < 32 ∧ (laneAddr offs mf 0).2 = false ∧ laneAddrNeg offs mf 0 = false ∧
      (let w := gone (.lds 0 0 mf) (lanes offs) offs
       badAddr w 0 (laneAddr offs mf 0).1 4 = false ∧ badAddr w 0 0xDFFFFC 4 = false ∧ badAddr w 0 0xE00000 4 = true ∧
         badAddr w 1 (laneAddr offs mf 0).1 4 = false ∧ (readWord w (focalAddr 0 0x1040 / 32 * 32)).1 = .clean)) ∧
    goes (.lds 0 0 { mf with space := 1 }) (lanes offs) offs = true ∧ goes (.lds 0 0 { mf with off := 0xE00000 }) (lanes offs) offs = true := by
  decide +kernel

theorem test_meets_LaneStores : accesses .st offs (mv 2 0) = true ∧ accesses .st offs (mv 1 0) = true ∧
    (goes (.st 0 0 (mv 2 1)) (lanes offs) offs = true ∧ firstBad (gone (.st 0 0 (mv 2 1)) (lanes offs) offs) offs (mv 2 1) 4 = none) ∧
    (let f := { mv 2 0 with off := 0xDFEF84 }
     goes (.st 0 0 f) (lanes offs) offs = true ∧ firstBad (gone (.st 0 0 f) (lanes offs) offs) offs f 4 = some 31) := by decide +kernel

theorem test_meets_LaneStores_scalar :
    (let g := { grp with sreg := [(1, ⟨0x1000, true⟩)] }
     goes (.sts 0 0 mf) (lanes g) g = true ∧ (laneAddr g mf 0).2 = true) ∧
    goes (.sts 0 0 mf) (lanes offs) offs = true ∧ goes (.sts 0 0 { mf with space := 1 }) (lanes offs) offs = true ∧
    goes (.sts 0 0 { mf with off := 0xE00000 }) (lanes offs) offs = true ∧ (laneAddr offs mf 0).2 = false ∧ laneAddrNeg offs mf 0 = false ∧
    (let w := gone (.sts 0 0 mf) (lanes offs) offs
     badAddr w 0 (laneAddr offs mf 0).1 4 = false ∧ badAddr w 1 (laneAddr offs mf 0).1 4 = false ∧ badAddr w 0 0xE00000 4 = true) := by decide +kernel

/-- The state of `solo` with a word at its address. -/
def lockAt (g : Group) (v : Nat) : State := putFocal32 (lanes g) 0 0x1040 v

/-- What LaneAtomics asks of an instruction and the one lane's address. -/
def atomMet (k : Nat → Nat → MForm → Instr) (g : Group) (v : Nat) : Bool :=
  let s := lockAt g v
  let w := gone (k 0 0 mf) s g
  goes (k 0 0 mf) s g && activeLanes g == [0] && laneAddr g mf 0 == (0x1040, false) && focalBad w g mf 4 == none && focalBad s g mf 4 == none &&
    focalWord s 0 0x1040 == v && (focalRead w 0 0x1040 4).1 == w

theorem test_meets_LaneAtomics_take : atomMet .take solo 0 = true ∧ atomMet .take solo 0x7FFFFFFF = true ∧ atomMet .take solo 0x80000020 = true ∧
    atomMet .take solo 0x8000001F = true ∧ atomMet .take { solo with locks := (List.range 8).map (fun k => (k, 0)) } 0 = true := by decide +kernel

theorem test_meets_LaneAtomics_give : atomMet .give { solo with locks := [(0x1040, 0)] } 0x80000000 = true ∧ atomMet .give solo 0x80000001 = true ∧
    atomMet .aadd solo 7 = true ∧ atomMet .amax solo 7 = true ∧ atomMet .acas solo 7 = true := by decide +kernel

theorem test_meets_LaneAtomics : mBad mf = false ∧ mf.size ≠ 3 ∧ mf.d ≠ 63 ∧ solo.locks.length < 8 ∧
    (0x80000020 - 0x80000000) / 32 ≠ 0 ∧ (0x8000001F - 0x80000000) / 32 = 0 ∧ lockId 0 0 = 0x80000000 ∧
    ([.take, .give, .aadd, .amax, .acas] : List (Nat → Nat → MForm → Instr)).all (fun k =>
      goes (k 0 0 { mf with off := 2 }) (lanes offs) offs && focalBad (gone (k 0 0 { mf with off := 2 }) (lanes offs) offs) offs { mf with off := 2 } 4 == some 0) = true := by
  decide +kernel

theorem test_meets_LaneFencesBarriers : iBad nf = false ∧ grp.stores = 0 ∧
    goes (.fenceRelease 0 0 nf) (lanes { grp with stores := 1 }) { grp with stores := 1 } = true ∧
    goes (.fenceFull 0 0 nf) (lanes { grp with stores := 1 }) { grp with stores := 1 } = true ∧ goes (.barg 0 0 nf) (lanes { grp with mask := 1 }) { grp with mask := 1 } = true ∧
    goes (.bart 0 0 { nf with imm := 7 }) (lanes grp) grp = true ∧ goes (.barn 0 0 { nf with imm := 63 }) (lanes grp) grp = true ∧
    (grp.mask ||| grp.exited ||| waitingLanes 3 grp.stack = 0xFFFFFFFF) ∧
    (let g := { grp with mask := 1, stack := [.pend 2 0x200, .rejoin 3 0x300] }
     g.mask ||| g.exited ||| waitingLanes 3 g.stack ≠ 0xFFFFFFFF ∧ (swapPending (.waiting g.mask (g.pc + 8) 3) g.stack).isSome) ∧
    (let g := { grp with mask := 1 }
     g.mask ||| g.exited ||| waitingLanes 3 g.stack ≠ 0xFFFFFFFF ∧ swapPending (.waiting g.mask (g.pc + 8) 3) g.stack = none) ∧
    ({ nf with imm := 3 } : IForm).imm.toNat < 4 ∧ ({ nf with imm := 7 } : IForm).imm.toNat < 8 ∧ ({ nf with imm := 63 } : IForm).imm.toNat < 64 ∧
    ((mget (lanes grp).lane.bars 63 {}).members.contains 0 = false) ∧
    ((mget ({ lanes grp with lane := { (lanes grp).lane with bars := [(63, { members := [0] })] } } : State).lane.bars 63 {}).members.contains 0 = true) := by
  decide +kernel

/-- A weight set of code 1. -/
def wset : WeightSet := { fmt := 1, rows := 32, elems := List.replicate 4096 (1, false) }

theorem test_meets_LaneArrays_owner : let s := lanes grp
    goes (.macq 0 0 cf) s grp = true ∧ goes (.mrel 0 0 cf) s grp = true ∧ goes (.mwsw 0 0 cf) s grp = true ∧ cBad cf = false ∧ (getArr s 0).owner ≠ some 0 ∧ dpBusy s 0 = false ∧ macqSlots s 0 = [] ∧
    (getArr s 0).active = none ∧ (getArr s 0).shadow = none ∧ (getArr (setArr s 0 { owner := some 0 }) 0).owner = some 0 ∧
    dpBusy (setArr s 0 { owner := some 1 }) 0 = true ∧ (getArr (setArr s 0 { owner := some 1 }) 0).owner ≠ some 0 := by decide +kernel

theorem test_meets_LaneArrays : rBad rf = false ∧ rf.dS = false ∧ rf.aS = false ∧ mmaPair 1 1 = true ∧
    (let g := { grp with sreg := [(1, ⟨0x1000, true⟩)] }
     goes (.mwld 0 0 mf) (lanes g) g = true ∧ (mwldBase g mf).2 = true) ∧
    (let g := { grp with sreg := [(1, ⟨0xE00000, false⟩)] }
     goes (.mwld 0 0 { mf with off := 0 }) (lanes g) g = true ∧ mwldBad g { mf with off := 0 } = true ∧ (mwldBase g { mf with off := 0 }).2 = false) := by
  decide +kernel

/-- The arrays of tile 0 owned by slot 0 with both weight sets. -/
def armed : ArrSt := { owner := some 0, active := some wset, shadow := some wset }

theorem test_meets_LaneArrays_sets : getArr { lanes grp with arr := [(0, armed)] } 0 = armed ∧ armed.active = some wset ∧ armed.shadow = some wset ∧
    armed.owner = some 0 ∧ runnable { lanes grp with arr := [(0, armed)] } 0 0 = some grp ∧ mmaPair 1 wset.fmt = true := ⟨rfl, rfl, rfl, rfl, rfl, rfl⟩

/-- Bytes of an empty memory are zeros. -/
theorem test_empty_bytes (a : Nat) : ∀ n, memBytes [] a n = List.replicate n 0
  | 0 => rfl
  | n + 1 => by rw [memBytes, test_empty_bytes (a + 1) n]; rfl

/-- A word reads cleanly where nothing is stored for it. -/
theorem test_empty_word (s : State) (a : Nat) (hm : s.store.mem = []) (hp : s.store.pcode = []) (hl : s.store.lost = [])
    (hs : mget s.store.side (a / 32) 0 = 0) : (readWord s a).1 = .clean ∧ (decodeWord s a).1 = .clean := by
  have h1 : isLost s a = false := by
    unfold isLost
    split
    · split <;> simp [hl]
    · rfl
  have hb : pageBits s a = 0 := by
    unfold pageBits pageSym
    have h0 : ∀ k, mget ([] : NMap Nat) k 0 = 0 := fun _ => rfl
    split
    · simp [hp, h0, bits]
    · rfl
  have h2 : topSymbol s a false = 0 := by simp [topSymbol, hb]
  have h3 : rawWord s a = ⟨List.replicate 32 0, 0, 0, false⟩ := by
    simp only [rawWord, hm, hs, pageCheck, h2]
    rw [test_empty_bytes]
    decide +kernel
  have h4 : (syndromes 1 ([(0 : Byte), 0] ++ List.replicate 32 0 ++ [0])) = (0, 0) := by decide +kernel
  have h5 : (decodeWord s a).1 = .clean := by
    simp only [decodeWord, h3, h2, h4, Bool.false_eq_true, if_false, and_self, if_true]
  exact ⟨by simp only [readWord, h1, h5, Bool.false_eq_true, if_false], h5⟩

theorem test_meets_LaneArrays_mwld : let s := lanes offs
    Issues (.mwld 0 0 { mf with off := 0 }) s 0 0 offs ∧ mwldBad offs { mf with off := 0 } = false ∧
    (mwldBase offs { mf with off := 0 }).2 = false := by
  refine ⟨⟨by decide +kernel, ?_, by decide +kernel⟩, by decide +kernel, by decide +kernel⟩
  have hb : (mwldBad offs { mf with off := 0 } || (mwldBase offs { mf with off := 0 }).2) = false := by decide +kernel
  have hl : ∀ o, focalLost (lanes offs) 0 o = false := by
    intro o
    simp only [focalLost, (test_empty_word (lanes offs) (focalAddr 0 o) rfl rfl rfl rfl).1]
    rfl
  have hf : finderStreams (lanes offs) 0 = false := by decide +kernel
  show mwldHold (lanes offs) 0 offs { mf with off := 0 } = none
  unfold mwldHold
  rw [hb]
  simp [focalHold, hl, hf]

/-! ## Witnesses: registers, events and stored data -/

/-- A register of the map with a property. -/
def regHas (a : Nat) (p : RegAt → Bool) : Bool :=
  match regAt a with
  | some r => p r
  | none => false

/-- The write reaches its register and leaves nothing replaced. -/
def plainWrite (a : Nat) (v : W32) : Bool :=
  regHas a (fun r => !ownEffect r && r.reg.parts.all (fun p => p.acc != .rws) && !rwReplaced State.reset (writeFields State.reset r v.toNat 0) r)

theorem test_meets_RegisterWrites : regAt 0 = none ∧ regAt 0x3f0000000004 ≠ none ∧ plainWrite 0x3f0000002020 0xFFFFFFFF = true ∧ plainWrite 0x3f000200015c 0 = true ∧
    regHas 0x3f0000002038 (fun r => !ownEffect r && !isMin r && r.reg.parts.any (fun p => p.acc == .w1c)) = true ∧
    regHas 0x3f0010007008 (fun r => isMin r && holds r F.TRIM_MIN_VALID) = true ∧
    regHas 0x3f00003002a8 (fun r => isMin r && !holds r F.TRIM_MIN_VALID) = true ∧
    bits (0x400 : W32).toNat 10 1 = 1 ∧ bits (0x3FF : W32).toNat 10 1 = 0 := by decide +kernel

theorem test_meets_PairReads : regHas 0x3f0000002018 (fun r => r.reg.pair == .lo) = true ∧ regHas 0x3f000000201c (fun r => r.reg.pair == .hi) = true := by
  decide +kernel

/-- The reset state in a phase of the meridian and a state of the device. -/
def inPhase (p d : Nat) : State := setF (setF State.reset F.MER_PHASE_PHASE 0 p) F.DEV_STATE_STATE 0 d

theorem test_meets_EventRecording : State.reset.flt.selfTick ≠ some (sidereal State.reset) ∧ getF State.reset F.FLT_STATUS_WORST 0 < 8 ∧
    nowNs State.reset < 2 ^ 64 ∧ getB State.reset F.FLT_FIRST_VALID 0 = false ∧ getB (setB State.reset F.FLT_FIRST_VALID 0 true) F.FLT_FIRST_VALID 0 = true ∧
    suppressed State.reset 0x0E01 1 5 = false ∧ suppressed (recordAs State.reset 0x0E01 1 5 0) 0x0E01 1 5 = true ∧
    suppressed (recordAs State.reset 0x0E01 2 5 0) 0x0E01 2 5 = false ∧ phase (inPhase 1 6) = 1 ∧ phase (inPhase 2 6) = 2 ∧
    (inPhase 1 6).flt.selfTick ≠ some (sidereal (inPhase 1 6)) := by decide +kernel

/-- 32 bytes, all different. -/
def bytes32 : List Byte := (List.range 32).map (fun i => BitVec.ofNat 8 (7 * i + 1))

theorem test_meets_StoredWords : bytes32.length = 32 := by decide

theorem test_meets_OneSymbolCorrected : bytes32.length = 32 ∧ bytes32.getD 0 0 ≠ 0xFF ∧ bytes32.getD 31 0 ≠ 0 := by decide

/-- Bench with an address in CHK_ADDR and the bits of a word in `CHK_SIDE`. -/
def checker (a : Nat) : State :=
  setF (setB (setF (setB State.reset F.GLB_MODES_BENCH 0 true) F.CHK_ADDR_ADDR 0 a) F.CHK_SIDE_POISON 0 true) F.CHK_SIDE_CHECK 0 0xFFFF

/-- A word of the page of the address stored with check bits of another. -/
def spoiled (a : Nat) (sd : Nat) : State := { checker a with store := { (checker a).store with side := [(a / 32, sd)] } }

theorem test_meets_CheckerOperations :
    (∀ a ∈ [0x1000, 0x1FE0, focalAddr 511 0xDFFFE0], ∀ k ∈ ([1, 2, 3, 4] : List Nat),
      bits (BitVec.ofNat 32 (0x0C4E0000 + k) : W32).toNat 16 16 = 0x0C4E ∧ bits (BitVec.ofNat 32 (0x0C4E0000 + k) : W32).toNat 0 3 = k ∧
      inBench (checker a) = true ∧ chkPlace (checker a) (chkAddr (checker a)) = true) ∧
    getF (checker 0x1000) F.CHK_SIDE_CHECK 0 < 65536 ∧ bits (0x0C4F0001 : W32).toNat 16 16 ≠ 0x0C4E ∧ inBench State.reset = false := by decide +kernel

theorem test_meets_CheckerOperations_outcomes : (decodeWord (checker 0x1000) 0x1000).1 = .clean ∧
    (decodeWord (spoiled 0x1000 1) 0x1000).1 = .corrected 0 ∧ (decodeWord (spoiled 0x1000 1) 0x1000).2.2 = false ∧
    (decodeWord (spoiled 0x1000 0xFFFF) 0x1000).1 = .poisoned ∧ (decodeWord (spoiled 0x1000 0x0301) 0x1000).1 = .uncorrectable := by decide +kernel

theorem test_meets_EventRecording_again : let s := recordAs State.reset 0x0E01 2 5 0
    s.flt.firstTick = some (sidereal s) ∧ goesBefore ⟨0, 0x0E01, 4, 5, 0, sidereal s, []⟩ (firstEvent s) = true ∧
      goesBefore ⟨0, 0x0E01, 2, 6, 0, sidereal s, []⟩ (firstEvent s) = false := by decide +kernel

/-- The last word of the page of 0x1FE0 waits for its page's recovery; the sweep of its region may be due. -/
def waiting (due : Bool) : State :=
  let s := setF { spoiled 0x1FE0 0x0301 with store := { (spoiled 0x1FE0 0x0301).store with recov := [⟨0x1000, 127, 0⟩] } } F.MEM_CFG_TYPE 0 1
  { s with act := { s.act with sweepDue := if due then [⟨0, 0x2000, none, 0, true, false⟩] else [] } }

theorem test_meets_bad_words (due : Bool) : badWords (waiting due) 0x1000 = [127] := by
  have h : ∀ w ∈ List.range 128, ((readWord (waiting due) (0x1000 + 32 * w)).1 == .uncorrectable) = (w == 127) := by
    intro w hw
    have hw := List.mem_range.mp hw
    by_cases e : w = 127
    · subst e; cases due <;> decide +kernel
    · have hs : mget (waiting due).store.side ((0x1000 + 32 * w) / 32) 0 = 0 := by
        have h1 : (0x1000 + 32 * w) / 32 ≠ 0x1FE0 / 32 := by omega
        simp [waiting, spoiled, setF, mget, h1.symm]
      rw [(test_empty_word (waiting due) (0x1000 + 32 * w) rfl rfl rfl hs).1, show (w == 127) = false from beq_false_of_ne e]
      rfl
  rw [badWords, List.filter_congr h]
  decide

theorem test_meets_RecoveryAndPatrol : (waiting false).store.recov.any (fun r => r.page == 0x1000) = true ∧
    State.reset.store.recov.any (fun r => r.page == 0) = false ∧ (∀ c ∈ [C.RECOVERED_M, C.UNRECOVERED_M], effClass (waiting false) c ≤ 2) ∧
    mediumOf 0x1000 = .lpddr ∧ (recoverWord (waiting false) 0x1000 127).isSome ∧ recoverWord (waiting true) 0x1000 127 = none ∧
    getB State.reset F.SCRUB_CFG_ENABLE 0 = true ∧ getB (setB State.reset F.SCRUB_CFG_ENABLE 0 false) F.SCRUB_CFG_ENABLE 0 = false := by decide +kernel

/-- The reset state with a visit of every store at its instant. -/
def visited (k : Nat × Nat) : State := { store := { visits := [(k, 0)] } }

theorem test_meets_RecoveryAndPatrol_due : ([.focal 511, .slice 191, .chan 191] : List PatrolStore).all (fun p =>
    patrolDue State.reset p && !patrolDue (visited (patrolKey p)) p) = true := by decide +kernel

/-! ## Witnesses: the deep store, the channels, the arbiters and the arrays -/

def txn0 : Txn :=
  { id := 1, cls := 0, inst := 0, band := 2, kind := .read, addr := 0x1000, len := 64, data := [], poison := [], owner := .other,
    offset := 0, born := 0, hinted := false, locked := false, last := false }
def wtx : Txn := { txn0 with kind := .write, data := List.replicate 64 9, poison := [false, false] }

/-- One region of 1 MiB, and the pages from `0` to `n` committed. -/
def region (n : Nat) : State := { act := { regions := [⟨0, 0x100000, none, 0, true, false⟩], committed := [(0, n)] } }

/-- Slice `i` has granted a transaction. -/
def granted (s : State) (i : Nat) (x : Txn) : State := setSlice s i { getSlice s i with rq := { (getSlice s i).rq with granted := [x] } }

/-- The line of 0x1000 in way 3 of its set, which holds no other. -/
def line0 (filled : Bool) : CLine := ⟨3, 1, 0, 0x1000, List.replicate 256 false, filled, false⟩
def holding (s : State) (y : CLine) : State := { s with deep := { s.deep with sets := [((1, 0), [y])] } }

/-- The transaction is the slice's next access. -/
def isNext (s : State) (i : Nat) (x : Txn) : Bool :=
  firstAccess s i (getSlice s i).rq.granted [] == some x && (x.kind != .turnRead || barred s i == false) && s.store.repeatDue.isEmpty

/-- Its line lies in set 0 of slice 1 (`plainLine`). -/
def plain (s : State) (x : Txn) : Bool :=
  match linePlace s x.addr with
  | some q => q.slice == 1 && q.set == 0 && (joinOverflow s 1 x).isNone && (x.kind != .write || isCommitted s x.addr == false) && (getSet s 1 0).any (·.pinned) == false
  | none => false

/-- The line of 0x1000 is held, and no word of it needs recovery. -/
def hits (s : State) (x : Txn) (y : CLine) : Bool :=
  match linePlace s x.addr with
  | some q => cachedLine s q == some y && (needsRecovery s x (lineData q y)).isNone
  | none => false

theorem test_meets_SliceAccesses : firstAccess State.reset 191 (getSlice State.reset 191).rq.granted [] = none ∧
    (let s := granted (region 2) 1 wtx; isNext s 1 wtx = true ∧ isCommitted s wtx.addr = true ∧ gateAccepts s wtx = false) ∧
    (∀ x ∈ [{ txn0 with addr := 0x100000 }, { wtx with addr := 0x15000000000 }], let s := granted (region 2) 0 x
     isNext s 0 x = true ∧ linePlace s x.addr = none ∧ scratchSlice s x.addr = none ∧ isCommitted s x.addr = false) ∧
    (∀ x ∈ [{ txn0 with addr := scratchBase }, { wtx with addr := scratchBase + 0x1000000 - 64 }], let s := setF (granted (region 2) 0 x) F.SLC_CFG_CARVE 0 1
     isNext s 0 x = true ∧ linePlace s x.addr = none ∧ scratchSlice s x.addr = some 0 ∧ isCommitted s x.addr = false ∧
       needsRecovery s x (x.addr / 256 * 256) = none) ∧
    (let s := granted (holding (region 1) (line0 false)) 1 wtx; isNext s 1 wtx = true ∧ plain s wtx = true ∧ hits s wtx (line0 false) = true) ∧
    (let s := granted (holding (region 2) (line0 true)) 1 txn0; isNext s 1 txn0 = true ∧ plain s txn0 = true ∧ hits s txn0 (line0 true) = true) ∧
    (let s := granted (region 2) 1 txn0
     isNext s 1 txn0 = true ∧ plain s txn0 = true ∧ (linePlace s 0x1000).all (fun q => (cachedLine s q).isNone) ∧ (getChan s 1).rq.queue.length < 64) := by
  decide +kernel

/-- Slice 1 is barred in every sub-slot of the stagger table of the image. -/
def staggered (s : State) : State :=
  setB { s with act := { s.act with stagger := leBytes 1 8 ++ [1, 0, 0xFF, 0xFF, 0, 0, 0, 0] } } F.THM_CFG_STAGGER 0 true

theorem test_meets_SliceAccesses_barred : let x := { txn0 with kind := .turnRead }
    let s := staggered (granted (region 2) 1 x)
    firstAccess s 1 (getSlice s 1).rq.granted [] = some x ∧ barred s 1 = true ∧ barred (granted (region 2) 1 x) 1 = false := by decide +kernel

/-- A read of 0x1000 whose line has come from its channel. -/
def missed (place : Nat) : State :=
  let s := setF (region 2) F.MCH_STATUS_STATE 1 2
  let s := setChan s 1 { getChan s 1 with rq := { (getChan s 1).rq with granted := [txn0] } }
  setSlice s 1 { getSlice s 1 with pendingMiss := [⟨txn0, place⟩] }

/-- A slice with its state changed. -/
def sliced (i : Nat) (c : SliceSt) : State := setSlice State.reset i c

theorem test_meets_SliceUpkeep : readyMiss State.reset 191 = none ∧
    (∀ p ∈ [0, 1, 2], let s := missed p
     readyMiss s 1 = some ⟨txn0, p⟩ ∧ (linePlace s 0x1000).any (fun q => q.slice == 1 && (cachedLine s q).isNone && q.set == 0) ∧
      needsRecovery s { txn0 with kind := .read, addr := 0x1000, len := 256 } 0x1000 = none ∧ victim (endMiss s 1 1) 1 0 = some (0, none)) ∧
    (getSlice (sliced 0 { lookups := 65535 }) 0).lookups < 65536 ∧ 65536 ≤ (getSlice (sliced 0 { lookups := 65536, misses := 65536 }) 0).lookups ∧
    (getSet State.reset 0 0).find? (fun x => x.way == 15) = none ∧
    ((getSet (holding State.reset (line0 true)) 1 0).find? (fun x => x.way == 3) = some (line0 true) ∧ phase State.reset ≠ 1 ∧ phase State.reset ≠ 2) ∧
    ((getSet (holding State.reset { line0 true with dirty := List.replicate 256 true }) 1 0).find? (fun x => x.way == 3)).any (fun x => x.dirty.any id) ∧
    (getSlice State.reset 191).folding = false ∧ (getSlice (sliced 191 { folding := true }) 191).folding = true ∧
    getB (setB (sliced 191 { folding := true }) F.SLC_STATUS_SHUTTERED 190 true) F.SLC_STATUS_SHUTTERED (191 ^^^ 1) = true ∧
    getB (sliced 191 { folding := true }) F.SLC_STATUS_SHUTTERED (191 ^^^ 1) = false ∧ (flushSlice (sliced 191 { folding := true }) 191).store.repeatDue = [] ∧ (sliced 191 { folding := true }).act.pinned = [] := by decide +kernel

/-- A co-add fragment with sequence number `q` of stream 0 waits for slice 1, which has granted its transaction; `next` is the stream's
NEXT and `n` fragments wait in the window. -/
def frag0 (a q : Nat) : Frag := ⟨1, 1, 1, a, List.replicate 64 0, [false, false], a, 0, q, 0⟩
def ctx (a : Nat) : Txn := { txn0 with kind := .coadd, addr := a }
def coadds (a q next n : Nat) : State :=
  let s := { region 1 with deep := { (region 1).deep with frags := [frag0 a q] } }
  setSlice s 1 { rq := { granted := [ctx a] }, next := if next = 0 then [] else [((1, 0), next)], window := List.replicate n (frag0 0x2000 (next + 1)) }

/-- The fragment is the slice's next, with these numbers. -/
def fragMet (a q n win : Nat) (s : State) : Bool :=
  let u := dropGranted { s with deep := { s.deep with frags := s.deep.frags.filter (fun g => g != frag0 a q) } } 1 1
  barred s 1 == false && s.store.repeatDue.isEmpty && nextFrag s 1 (getSlice s 1).rq.granted [] == some (ctx a, frag0 a q) &&
    tagSeq (frag0 a q).tag == q && nextOf u 1 (frag0 a q) == n && (getSlice u 1).window.length == win

/-- The state in which the fragment has left. -/
def fragLeft (s : State) (a q : Nat) : State :=
  dropGranted { s with deep := { s.deep with frags := s.deep.frags.filter (fun g => g != frag0 a q) } } 1 1

/-- An overflow co-add of slice 191 whose write its channel has granted. -/
def overflowed : State :=
  setChan (sliced 191 { ovf := [⟨frag0 0x1000 0, 7, []⟩] }) 191 { rq := { granted := [{ txn0 with id := 7 }] } }

theorem test_meets_CoaddsAndUpdates :
    (let s := coadds 0x15000000000 0 0 0; fragMet 0x15000000000 0 0 0 s = true ∧ targetSlice (fragLeft s 0x15000000000 0) 0x15000000000 = none) ∧
    (let s := coadds 0 0 0 0; fragMet 0 0 0 0 s = true ∧ (targetSlice (fragLeft s 0 0) 0).isSome ∧ isCommitted (fragLeft s 0 0) 0 = true) ∧
    (let s := coadds 0x1000 5 5 0; fragMet 0x1000 5 5 0 s = true ∧ (targetSlice (fragLeft s 0x1000 5) 0x1000).isSome ∧
      isCommitted (fragLeft s 0x1000 5) 0x1000 = false ∧ relaxed (fragLeft s 0x1000 5) = false ∧ relaxed (fragLeft (setB s F.EPH_MODE_RELAXED 0 true) 0x1000 5) = true) ∧
    (let s := coadds 0x1000 4 5 0; fragMet 0x1000 4 5 0 s = true ∧ relaxed s = false) ∧
    (let s := coadds 0x1000 68 5 63; fragMet 0x1000 68 5 63 s = true ∧ relaxed s = false) ∧
    (let s := coadds 0x1000 69 5 0; fragMet 0x1000 69 5 0 s = true ∧ relaxed s = false) ∧
    (let s := coadds 0x1000 6 5 64; fragMet 0x1000 6 5 64 s = true ∧ relaxed s = false) ∧
    barred (staggered State.reset) 1 = true ∧ nextFrag State.reset 191 (getSlice State.reset 191).rq.granted [] = none ∧
    firstOverflow State.reset (getSlice State.reset 191).ovf [] = none ∧
    firstOverflow overflowed (getSlice overflowed 191).ovf [] = some ⟨frag0 0x1000 0, 7, []⟩ ∧
    (let s := { inPhase 4 6 with mer := { (inPhase 4 6).mer with working := true, entries := [0] } }; s.mer.working = true ∧ phase s = 4 ∧ 0 ∈ s.mer.entries) ∧
    State.reset.mer.working = false ∧ phase State.reset ≠ 4 := by decide +kernel

theorem test_meets_poisoned_update (a b c : Bool) (h : UpdShare) (u : UpdEntry) (hp : h.lrPoison = true) (hr : u.rule = 0) :
    (a || b || c || h.lrPoison) = true ∧ u.rule ≠ 1 := by
  simp [hp, hr]

/-- A queue at slice 1. -/
def queued (q : ReqQueue) : State := setSlice (region 1) 1 { rq := q }

/-- A locked transaction. -/
def ltx : Txn := { txn0 with locked := true }

/-- Held and refused requests of master class 5, instance 0, band 7. -/
def far (x : Txn) : Txn := { x with cls := 5, band := 7 }
def heldReqs (n : Nat) : State :=
  let s := queued { queue := List.replicate n txn0 }
  { s with deep := { s.deep with heldReq := [far txn0], refused := [⟨{ far txn0 with id := 2 }, .slice 1, 1, 8, false⟩] } }

theorem test_meets_Arbitration :
    (let s := queued { queue := [txn0, { txn0 with id := 2, band := 7 }] }; (getQ s (.slice 1)).lock = none ∧ txn0 ∈ (getQ s (.slice 1)).queue ∧ olderOutside s txn0 = false) ∧
    (getQ State.reset (.chan 191)).lock = none ∧ (getQ State.reset (.chan 191)).queue = [] ∧
    (let s := queued { queue := [txn0, ltx], lock := some (0, 0, 15, 0) }
     (getQ s (.slice 1)).lock = some (0, 0, 15, 0) ∧ lockTooLong s (getQ s (.slice 1)) = false ∧ (getQ s (.slice 1)).queue.find? (ofLock (0, 0, 15, 0)) = some ltx) ∧
    (let s := queued { queue := [ltx], lock := some (0, 0, 16, 0) }; lockTooLong s (getQ s (.slice 1)) = true) ∧
    (let s := heldReqs 127
     (heldOf s 5 0 7).head? = some (far txn0) ∧ routeSlice s (far txn0).addr = 1 ∧
      mayIssue (setF s F.BND_QUOTA_SQ 47 0) (far txn0) = false ∧ mayIssue s (far txn0) = true ∧ (getQ s (.slice 1)).queue.length < 128) ∧
    128 ≤ (getQ (heldReqs 128) (.slice 1)).queue.length ∧
    (let s := queued { queue := [{ txn0 with hinted := true }, txn0] }
     (getQ { s with clk := { s.clk with mono := 10000000 } } (.slice 1)).queue.find?
       (fun x => !x.hinted && decide (x.born + etaDelay s ≤ mountCyc { s with clk := { s.clk with mono := 10000000 } })) = some txn0) ∧
    (let s := heldReqs 127
     let r : Refused := ⟨{ far txn0 with id := 2 }, .slice 1, 1, 8, false⟩
     let u := { s with clk := { s.clk with mono := 1240 } }
     s.deep.refused.find? (fun r => r.txn.cls == 5 && r.txn.inst == 0 && r.txn.band == 7 && mayResend s r) = none ∧
      u.deep.refused.find? (fun r => r.txn.cls == 5 && r.txn.inst == 0 && r.txn.band == 7 && mayResend u r) = some r ∧
      (getQ u (.slice (routeSlice u r.txn.addr))).queue.length < qCap (.slice 1) ∧ qCap (.chan 1) ≤ 64 ∧ 64 ≤ qCap (.chan 1)) ∧
    (let s := { State.reset with deep := { State.reset.deep with scaleDue := some 10 } }
     s.deep.scaleDue = some 10 ∧ nowNs s < 10 ∧ 10 ≤ nowNs { s with clk := { s.clk with dev := 2170 } }) := by decide +kernel

/-- Channel `c` in a state, with what its channel holds. -/
def chan (c st : Nat) (h : ChanSt) : State := setChan (setF State.reset F.MCH_STATUS_STATE c st) c h

/-- Channel 191 in a state, at the end of its refresh interval. -/
def refreshDue (st : Nat) : State :=
  let s := chan 191 st { derateDue := true }
  { s with clk := { s.clk with mono := 217 * refreshGap s 191 } }

theorem test_meets_refresh_due (st : Nat) :
    passed (refreshDue st) (getChan (refreshDue st) 191).lastRefresh (refreshGap (refreshDue st) 191) = true := by
  have e : (getChan (refreshDue st) 191).lastRefresh = 0 := rfl
  have g : refreshGap (refreshDue st) 191 = refreshGap (chan 191 st { derateDue := true }) 191 := rfl
  have n : elapsedNs (refreshDue st) = 217 * refreshGap (chan 191 st { derateDue := true }) 191 / 217 := rfl
  rw [passed, e, g, n]
  simp

theorem test_meets_refresh_early (s : State) (h : s.clk.mono = 0) : passed s 1 (refreshGap s 191) = false := by
  simp [passed, elapsedNs, h]

theorem test_meets_ChannelUpkeep : getF (chan 191 0 {}) F.MCH_STATUS_STATE 191 = 0 ∧ getF (chan 191 3 {}) F.MCH_STATUS_STATE 191 = 3 ∧
    (∀ st ∈ [1, 2, 4, 5, 6], getF (chan 191 st {}) F.MCH_STATUS_STATE 191 = st) ∧ (0 < bankTurns State.reset ∧ 0 ∉ busyBanks State.reset 191 ∧
      0 ∉ (getChan (chan 191 2 {}) 191).refreshed ∧ (getChan (chan 191 2 { derateDue := true }) 191).derateDue = true) ∧
    (∀ i, i < 8 → (getChan State.reset (8 * 23 + i)).lastPoll = 0) ∧
    (getF (chan 184 2 {}) F.MCH_STATUS_STATE 184 ≠ 0 ∧ getF (chan 184 2 {}) F.MCH_STATUS_TEMP 184 < tempUp 86 false) ∧
    ((getChan (chan 184 2 { lastPoll := 1 }) 184).lastPoll ≠ 0 ∧ passed (chan 184 2 { lastPoll := 1 }) 1 16000000 = false) ∧
    (getB (chan 191 2 {}) F.FLT_SHUT_CHANNEL 191 = false ∧ phase (chan 191 2 {}) ≠ 1 ∧ phase (chan 191 2 {}) ≠ 2) ∧
    getB (setB (chan 191 5 { copy := some false }) F.FLT_SHUT_CHANNEL 191 true) F.FLT_SHUT_CHANNEL 191 = true ∧
    (getChan (chan 191 5 {}) 191).copy = none ∧ (getChan (chan 191 5 { copy := some true }) 191).copy = some true ∧
    (getChan (chan 191 5 { copy := some false }) 191).copy = some false ∧ getB (chan 191 1 {}) F.DEV_STATE_COLD 0 = false ∧
    outcomeOf .pass (warmRun (chan 191 1 {}) 191) 77 77 = .pass ∧ outcomeOf .pass (warmRun (chan 191 1 {}) 191) 76 77 = .marginal ∧
    outcomeOf .retrained true 77 77 = .retrained := by decide +kernel

theorem test_meets_training_warm (c r : Nat) (s : State) (h1 : getB s F.DEV_STATE_COLD 0 = false) (h2 : s.boot.rateStepped = false)
    (h3 : (lastRec s tLpddr (4 * c + getF s F.MEM_CFG_RATE 0)).isSome) : outcomeOf .retrained (warmRun s c) r r = .retrained := by
  simp [outcomeOf, warmRun, h1, h2, h3]

theorem test_meets_Lamps : (bits (0x1A4D0001 : W32).toNat 16 16 = 0x1A4D ∧ (0x1A4D0001 : W32).toNat.testBit 0 = true ∧ bits (0x1A4D0003 : W32).toNat 16 16 = 0x1A4D) ∧
    (bits (0x1A4D0002 : W32).toNat 16 16 = 0x1A4D ∧ (0x1A4D0002 : W32).toNat.testBit 0 = false ∧ (0x1A4D0002 : W32).toNat.testBit 1 = true) ∧
    bits (0x1A4E0001 : W32).toNat 16 16 ≠ 0x1A4D ∧ (getF (chan 191 4 {}) F.MCH_STATUS_STATE 191 = 4 ∧ (getChan (chan 191 4 {}) 191).copy = none) ∧
    lampSettings (setF (chan 191 4 {}) F.LAMP_LEN_PAGES 191 1) 191 = true ∧ lampSettings (chan 191 4 {}) 191 = false ∧
    (getChan (chan 191 4 {}) 191).lamp = none ∧ (getChan (chan 191 6 { lamp := some ⟨0, false⟩ }) 191).lamp = some ⟨0, false⟩ ∧
    (getChan (chan 191 6 { lamp := some ⟨0, true⟩ }) 191).lamp = some ⟨0, true⟩ ∧ getF (setF (chan 191 6 {}) F.LAMP_PASSES_COUNT 191 0) F.LAMP_PASSES_COUNT 191 = 0 ∧
    getF (setF (chan 191 6 {}) F.LAMP_PASSES_COUNT 191 3) F.LAMP_PASSES_COUNT 191 ≠ 0 := by decide +kernel

/-- A product of 32 by 16 by 32 elements, and an operation in progress on it. -/
def desc0 : ADesc := ⟨32, 16, 32, 32, 1, 1, 1, false, false, false, false, true, 0, false, false, false, 0, 0x1000, 0x2000, 0⟩
def op0 (acc drained : Nat) (ends : List Nat) : ArrOp :=
  { desc := desc0, bundle := 0, rerun := false, acc := acc, chunk := 0, passEnd := 0, drainEnds := ends, drained := drained, passes := 0, poisonRerun := false }
def running (a : ArrSt) : State := { State.reset with arr := [(511, a)], clk := { State.reset.clk with running := true, cyc := 100 } }

theorem test_meets_ArrayOperations :
    (let s := running { op := some (op0 0 0 []) }
     (getArr s 511).op = some (op0 0 0 []) ∧ 0 < pieces desc0 ∧ dpRuns s 511 = true ∧ halfFree (op0 0 0 []) = true ∧ halfFree (op0 2 0 []) = false ∧ (op0 0 0 []).passEnd ≤ dpTime s 511 ∧ opFinished s 511 (op0 0 0 []) = false) ∧
    (let s := running { op := some (op0 (pieces desc0) 0 [100]) }
     (op0 (pieces desc0) 0 [100]).drainEnds[0]? = some 100 ∧ desc0.drain = true ∧ dpRuns s 511 = true ∧ 100 ≤ dpTime s 511) ∧
    (let o := op0 (pieces desc0) (pieces desc0) [100]
     opFinished (running { op := some o }) 511 o = true ∧ dpRuns (running { op := some o }) 511 = true ∧ (getArr (running { op := some o }) 511).rest = [] ∧
      (getArr (running { op := some o, rest := [desc0] }) 511).rest = [desc0]) ∧
    0 + 1 < chunks { desc0 with k := 8192 } ∧ chunks desc0 ≤ 0 + 1 ∧ dpRuns State.reset 511 = false := by decide +kernel

theorem test_meets_ArrayFaults :
    (let s := running { op := some (op0 0 0 []) }
     getF s F.ARR_FAULTS_IN_WINDOW 511 + 1 < faultLimit s 511 ∧ getF s F.ARR_FAULTS_IN_WINDOW 511 < 15 ∧ (getArr s 511).window = windowAt s 511 ∧ getB s F.ARR_CAPTURE_VALID 511 = false ∧
      getF (setF s F.ARR_FAULTS_IN_WINDOW 511 2) F.ARR_FAULTS_IN_WINDOW 511 + 1 < faultLimit s 511 ∧
      faultLimit s 511 ≤ getF (setF s F.ARR_FAULTS_IN_WINDOW 511 3) F.ARR_FAULTS_IN_WINDOW 511 + 1 ∧ (op0 0 0 []).rerun = false ∧ (op0 0 0 []).poisonRerun = false) ∧
    (let r : Rerun := ⟨100, [5], true, [desc0], 0⟩
     let s := running { rerun := some r }
     (getArr s 511).rerun = some r ∧ r.readyAt ≤ s.clk.cyc ∧ dpRuns s 511 = true ∧ s.store.recov = [] ∧ dpRuns State.reset 511 = false ∧ (⟨5, 0, 0⟩ : Recovery).page ∈ r.pages) ∧
    (getArr (running {}) 511).op = none ∧ (getArr (running {}) 511).rerun = none ∧ ({ op0 0 0 [] with rerun := true, poisonRerun := true } : ArrOp).poisonRerun = true ∧
    (getArr (running { window := 1 }) 511).window ≠ windowAt (running { window := 1 }) 511 ∧
    (getArr (running {}) 511).window = windowAt (running {}) 511 := by decide +kernel

/-! ## Witnesses: the towers, the ephemeris, blocks and collectives, tasks and the debug halt -/

/-- A segment of tile 511 with a held burst and others. -/
def seg (x : SpineSeg) (s : State := State.reset) : State := { s with tower := { s.tower with spine := [((511, 2), x)] } }
def atMono (n : Nat) (s : State := State.reset) : State := { s with clk := { s.clk with mono := n } }

theorem test_meets_SpineBursts :
    crc16 [0, 0] = 0x1D0F ∧ crc16 [0, 0] ≠ 0 ∧ weakNow State.reset (getSeg State.reset 511 .pierL0) = false ∧
    (let s := seg { recent := [(0, true)] }; weakNow s (getSeg s 511 .pierL0) = true ∧ (getSeg s 511 .pierL0).weak = false ∧
      effClass { s with flt := { s.flt with overrides := [(0x0E03, 1)] } } C.SPINE_SEGMENT_WEAK < 2) ∧
    (getSeg (seg { holds := [.held 1 6 [] false, .resend 2 7] }) 511 .pierL0).holds = [.held 1 6 [] false] ++ .resend 2 7 :: [] ∧
    (getSeg State.reset 511 .pierL0).holds = [] ∧
    (let s := seg { holds := [.held 1 6 [1] false] }; (getSeg s 511 .pierL0).holds = .held 1 6 [1] false :: [] ∧ s.clk.cyc < 6 ∧
      6 ≤ { s with clk := { s.clk with cyc := 6 } }.clk.cyc ∧ spineEnd s 511 .pierL0 1 false = .good ∧ spineEnd s 511 .pierL0 1 true = .poisoned ∧
      spineEnd { s with tower := { s.tower with resets := [⟨3, some 0, 0, 0, false⟩] } } 511 .pierL0 1 false = .retry ∧
      spineEnd { s with tower := { s.tower with resets := [⟨3, none, 0, 0, false⟩] } } 511 .pierL0 1 false = .discarded) ∧
    (let s := granted (seg {}) 1 txn0
     spineEnd { s with tower := { s.tower with resets := [⟨0, none, 0, 0, false⟩] } } 511 .pierL0 1 false = .partitionDown) := by decide +kernel

/-- Bench. -/
def bench (s : State := State.reset) : State := setB s F.GLB_MODES_BENCH 0 true
def resetting (l : Option Nat) : State := { bench with tower := { bench.tower with resets := [⟨3, l, 0, 0, false⟩] } }
def aged (n : Nat) : State := { inPhase 0 5 with tower := { (inPhase 0 5).tower with phys := [(575, { age := n })] } }

theorem test_meets_TowerUpkeep : (getPll State.reset 3 7).standbyLock = false ∧
    (getPll { State.reset with tower := { State.reset.tower with pll := [((3, 7), ⟨true, true, true⟩)] } } 3 7).standbyLock = true ∧
    agingPeriod State.reset 575 = none ∧ agingPeriod (aged 0) 575 = some 1000000 ∧ (getPhys (aged 0) 575).lastEval = 0 ∧
    setPoint (aged 49) 575 < 360 ∧ 360 ≤ setPoint (aged 50) 575 ∧ (5 : BitVec 4) ≠ 0 ∧
    bits (0x7A100001 : W32).toNat 16 16 ≠ 0x7A11 ∧ bits (0x7A110100 : W32).toNat 16 16 = 0x7A11 ∧ inBench bench = true ∧ phase bench = 0 ∧
    (0x7A110100 : W32).toNat.testBit 8 = true ∧ partitionDown bench 3 = false ∧
    (∀ l, l < 8 → bits (BitVec.ofNat 32 (0x7A110000 + 2 ^ l) : W32).toNat 0 9 = 2 ^ l ∧ inReset bench 3 l = false) ∧
    (resetting (some 7)).tower.resets.any (fun r => r.tower == 3 && r.layer == some 7) = true ∧ partitionDown (resetting none) 3 = true := by decide +kernel

/-- Step 0 of a run in a phase, its mark at the present, with a frame of 1,024 cycles over. -/
def marking (p : Nat) : State :=
  let s := { inPhase p 6 with clk := { running := true, cyc := 1024 } }
  { s with eph := { s.eph with nextMark := some 0 } }

theorem test_meets_PauseAndMarks : (marking 4).clk.running = true ∧ (marking 4).eph.frame + 1024 ≤ (marking 4).clk.cyc ∧ (marking 4).thm.rateDue = false ∧
    (marking 4).pwr.hwDue = false ∧ State.reset.clk.running = false ∧
    (let s := setF { marking 4 with clk := { running := true, cyc := 1023 } } F.PAUSE_STATUS_DUTY 0 1
     slotNow s = 15 ∧ s.eph.inSlot = false ∧ isPauseSlot (getF s F.PAUSE_STATUS_DUTY 0) (slotNow s) = true) ∧
    isPauseSlot (getF State.reset F.PAUSE_STATUS_DUTY 0) (slotNow State.reset) = false ∧
    ({ State.reset with eph := { inSlot := true, slotUntil := 64 }, clk := { cyc := 64 } } : State).eph.slotUntil ≤ 64 ∧
    markDue State.reset = false ∧ markDue (marking 4) = true ∧ phase (marking 4) ≠ 7 ∧
    markDue (marking 7) = true ∧ phase (marking 7) = 7 ∧ (marking 7).mer.loading = none ∧
    ({ marking 7 with mer := { (marking 7).mer with loading := some 0 } } : State).mer.loading.isSome := by decide +kernel

/-- Tile 511 in a segment with a bundle at the front, its words, its descriptors and what else its queue and arrays hold. -/
def bundle (w md nd : Nat) : Fetched := ⟨0, w, desc0, md, nd, slotsOf w⟩
def dueIn (w : Nat) (md : Nat := 0) (nd : Nat := 0) (a : ArrSt := {}) : State :=
  let s := setF (inPhase 1 6) F.EPH_LEN_COUNT 511 1
  { s with eph := { s.eph with inSegment := true, tiles := [(511, { queue := [bundle w md nd] })] }, arr := [(511, a)] }

/-- The last tile's unit fetches; its first word holds the given side bits. -/
def fetching (sd : Nat) (r : Option (Nat × Nat)) : State :=
  let s := setF (inPhase 1 6) F.EPH_LEN_COUNT 511 1
  { s with eph := { s.eph with inSegment := true, tiles := [(511, { refetch := r })] }, store := { s.store with side := if sd = 0 then [] else [(focalAddr 511 0 / 32, sd)] } }

theorem test_meets_BundleIssue_fetch :
    (∀ sd ∈ [0, 0xFFFF], let s := fetching sd none
     s.eph.inSegment = true ∧ (getEph s 511).refetch = none ∧ (getEph s 511).nextFetch < getF s F.EPH_LEN_COUNT 511 ∧
      fetchOffs s 511 0 = [0] ∧ (fetchWord s 511 0).2 = (sd != 0)) ∧
    (∀ sd ∈ [0, 0xFFFF], let s := fetching sd (some (0, 0))
     (getEph s 511).refetch = some (0, 0) ∧ s.store.recov = [] ∧ fetchOffs s 511 0 = [0] ∧ (fetchWord s 511 0).2 = (sd != 0)) := by decide +kernel

/-- A lane slot: LAUNCH 0 or JOIN 1 with token 15. -/
def laneWord (op : Nat) : Nat := 2 ^ 19 + (op + 16 * 15) * 2 ^ 160

theorem test_meets_BundleIssue : State.reset.eph.inSegment = false ∧ (frontDue (dueIn 0x10000) 511 (·.arr)).isSome ∧ frontDue State.reset 511 (·.arr) = none ∧
    (let s := dueIn 0x10000 0 0 { op := some (op0 0 0 []) }
     (getEph s 511).queue.head? = some (bundle 0x10000 0 0) ∧ isDue s (getEph s 511) (bundle 0x10000 0 0) = true ∧ (bundle 0x10000 0 0).left.arr = true ∧ dpBusy s 511 = true) ∧
    (let s := { dueIn 0x10000 with eph := { (dueIn 0x10000).eph with causes := [⟨511, 3, 0⟩] } }
     s.eph.causes.any (fun c => c.tile == 511 && c.cause == 3) = true ∧ dpBusy s 511 = false) ∧
    (frontDue (dueIn 0x100000) 511 (·.ctl)).any (fun f => bCtl f.word == 1) = true ∧ (frontDue (dueIn 0x200000) 511 (·.ctl)).any (fun f => bCtl f.word == 2) = true ∧
    (frontDue (dueIn (laneWord 0)) 511 (·.lane)).any (fun f => bLop f.word == 0 && bToken f.word == 15) = true ∧
    (frontDue (dueIn (laneWord 1)) 511 (·.lane)).any (fun f => bLop f.word == 1) = true := by decide +kernel

/-- A running task with token 15 of a due JOIN. -/
def task0 (res : Bool) (slots : List Nat) : Task := ⟨0, 0x100, 64, 0, false, 0, 2, 0, 15, 0, false, res, slots, 0, none⟩
def joining (ts : List Task) (tok : NMap (Nat × Nat)) : State :=
  let s := dueIn (laneWord 1)
  { s with eph := { s.eph with tiles := [(511, { queue := [bundle (laneWord 1) 0 0], tokens := tok })] }, lane := { tiles := [(511, { tasks := ts })], nextTask := 1 } }

theorem test_meets_BundleIssue_join : ∀ c ∈ ([([], []), ([], [(15, (1, 0))]), ([task0 true [0, 1]], [(15, (1, 0))])] : List (List Task × NMap (Nat × Nat))),
    let s := joining c.1 c.2
    let f := bundle (laneWord 1) 0 0
    let v := retireSlot (settleAll (slotDone s 511 { f.left with lane := false }) 511) 511 f.idx
    (frontDue s 511 (·.lane)) = some f ∧ bLop f.word = 1 ∧ (openTask v 511 (bToken f.word) = if c.2 = [] then none else some (0, 0)) ∧
      (findTask v 511 0 = none ↔ c.1 = []) := by decide +kernel

/-- A finder operation that streams from the focal store of tile 511. -/
def finding : State := running { op := some { op0 0 0 [] with desc := { desc0 with finder := true, k := 8192 } } }

theorem test_meets_finder : finderStreams finding 511 = true ∧ finderStreams State.reset 511 = false := by decide +kernel

/-- A descriptor of 4,096 bytes with REMOTE 0xFFFF. -/
def xd : Nat := 4096 + 0xFFFF * 2 ^ 64

theorem test_meets_SlotTransfers : (∀ op, op < 5 → (movDue (dueIn (2 ^ 17 + op * 2 ^ 64) xd) 511 op).isSome = true) ∧ movDue State.reset 511 0 = none ∧
    (∀ op, op < 3 → (netDue (dueIn (2 ^ 18 + op * 2 ^ 128) 0 xd) 511 op).isSome = true ∧ (dueIn (2 ^ 18 + op * 2 ^ 128) 0 xd).net.held = []) ∧
    phasesOf (dueIn (2 ^ 18 + 2 * 2 ^ 128) 0 xd) (xRemote xd % 65536) = [] ∧ netDue State.reset 511 0 = none := by decide +kernel

/-- A transfer of tile 511, its kind and what is left of it, in a state whose array may hold the extent it lands in. -/
def xfer0 (k : XKind) (n : Nat) : Xfer := ⟨7, 511, k, 0, 0, 64, 0, 0, 0x1000, focalAddr 510 0x1000, 5, 3, 0xFFFFFFFE, 0, n, [], none, false, false⟩
def outstandingX (k : XKind) (n : Nat) (held : Bool) (cyc : Nat) (cs : List StallCause := []) : State :=
  let s := setF (inPhase 2 6) F.SEG_CYCLE_CYCLE 0 cyc
  let o : ArrOp := op0 0 0 []
  { s with eph := { s.eph with inSegment := true, xfers := [xfer0 k n], causes := cs, stallStart := some 0 }, arr := if held then [(510, { op := some o }), (511, { op := some o })] else [] }

theorem test_meets_LandingsAndLateness :
    (∀ b ∈ [false, true], let s := outstandingX .mesh 0 b 9; let x := xfer0 .mesh 0
     findX s 7 = some x ∧ meshCycle x = 9 ∧ meshCycle x ≤ segCycle s ∧ paused s = false ∧ extentHeld s (landPlace x).1 (landPlace x).2 (landSpan x) = b) ∧
    segCycle (outstandingX .mesh 0 false 8) < meshCycle (xfer0 .mesh 0) ∧
    (∀ k ∈ [XKind.load, .turn, .store, .coadd], let u := collect (outstandingX k 0 false 9) 7
     findX u 7 = some (xfer0 k 0) ∧ extentHeld u (landPlace (xfer0 k 0)).1 (landPlace (xfer0 k 0)).2 (landSpan (xfer0 k 0)) = false ∧
      findX (collect (outstandingX k 1 false 9) 7) 7 = some (xfer0 k 1)) ∧
    (let s := outstandingX .load 1 false 9; let x := xfer0 .load 1
     findX s 7 = some x ∧ hasDeadline x = true ∧ x.late = none ∧ s.eph.inSegment = true ∧ x.arrival + x.slack < segCycle s ∧ getB s F.OVERRUN_CAPTURE_VALID 0 = false) ∧
    segCycle (outstandingX .load 1 false 8) ≤ (xfer0 .load 1).arrival + (xfer0 .load 1).slack ∧ hasDeadline (xfer0 .send 1) = false ∧
    (let s := { outstandingX .load 1 false 9 with clk := { mono := 217 * (stallLimitNs State.reset + 1) } }
     s.eph.stallStart = some 0 ∧ 0 + stallLimitNs s < elapsedNs s) ∧ State.reset.eph.stallStart = none ∧
    (let s := { inPhase 2 6 with eph := { inSegment := true } }; phase s = 2 ∧ segmentDone s = true) ∧ segmentDone State.reset = false ∧
    (∀ k ∈ [XKind.load, .expect], let s := outstandingX k 0 false 9 [⟨511, 4, 7⟩]
     findX s 7 = some (xfer0 k 0) ∧ s.eph.causes.any (fun c => c.cause == 4 && c.key == 7) = true ∧ readyToLand (xfer0 k 0) = true ∧ s.net.held = []) := by
  decide +kernel

/-- A route to the peer 9 over port 255, and a SEND with one block left on it. -/
def route0 : Route := ⟨0x1000, 9, 1, 3, 0, 0, 255, 255, 4, 5, 4, 5, 0⟩
def sending (n : Nat) (cs : List StallCause := []) (bl : List TxBlock := []) : State :=
  let s := setF (outstandingX .send n false 9 cs) F.PRT_STATUS_STATE 255 2
  { s with act := { s.act with routes := [route0] }, net := { s.net with replay := bl } }

/-- A block of the stream, with its checks. -/
def blkT (t : Nat) : BlockFrame := sealBlock ⟨1, t, 0x1000, 0xFFFFFFFE, 0, 9, 4, 64, 0, 1, 0, 0, 0, List.replicate 64 3, 0, true⟩
def held0 (re : Bool) (sent : Option Nat) : TxBlock := ⟨blkT 0, 255, 3, sent, 100, re⟩

theorem test_meets_BlocksSent :
    (∀ n ∈ [0, 1], let s := sending n; let x := xfer0 .send n
     findX s 7 = some x ∧ (routeTo s (x.remote % 65536) none) = some route0 ∧ x.size ≤ 4096 ∧ 0 < x.size ∧ replayFull s (portOf s route0) = false) ∧
    (sending 0 [⟨511, 6, 7⟩]).eph.causes.any (fun c => c.cause == 6 && c.key == 7) = true ∧ nextTx State.reset 255 = none ∧
    (let s := sending 0 [] [held0 false none, held0 true (some 0)]
     nextTx s 255 = some (held0 true (some 0)) ∧ portReady s 255 = true ∧ gateOpen s 255 3 (blockWire s 255 (blkT 0)) = true ∧ s.net.txq = []) ∧
    portReady State.reset 255 = false ∧ blockPasses (blkT 1) = true ∧ blockPasses { blkT 1 with fcsOk := false } = false ∧
    (let s := { sending 0 [] [held0 false none] with act := { (sending 0).act with gates := [(255, [256, 256 * 1000 + 0xFF])] }, clk := { dev := 217 } }
     gatesFor s 255 = [256, 256 * 1000 + 0xFF] ∧ nextTx s 255 = some (held0 false none) ∧ gateOpen { s with clk := {} } 255 3 (blockWire s 255 (blkT 0)) = false ∧
      (getPort s 255).gateStart + (gatesFor s 255).getD ((getPort s 255).gate % 2) 0 / 256 ≤ nowNs s) := by decide +kernel

/-- An EXPECT of the blocks 0xFFFFFFFE to 0 with the given landings. -/
def expecting (l : List (Nat × Nat)) (naks : PMap Nat) (last : Option Nat) (left : Nat) : State :=
  let s := sending 0
  let x := { xfer0 .expect left with size := 12288, remote := 0x1000 }
  { s with eph := { s.eph with xfers := [x] }, net := { s.net with recv := [⟨7, false, 0x1000, l, naks, last, false⟩] } }

/-- Tile 511's program is one bundle whose EXPECT is for the stream. -/
def awaiting : State :=
  let w := 2 ^ 18 + 2 ^ 128 + 2 ^ 132
  let d := 64 + 0x1000 * 2 ^ 64 + 0xFFFFFFFE * 2 ^ 192
  writeBytes (setF (sending 0) F.EPH_LEN_COUNT 511 1) (focalAddr 511 0) (leBytes w 32 ++ leBytes d 32) []

theorem test_meets_BlocksReceived_later : let b := sealBlock { blkT 0 with step := 1 }
    portReady awaiting 255 = true ∧ blockPasses b = true ∧ getF awaiting F.SEG_STEP_STEP 0 < b.step ∧ awaited awaiting b = true ∧
      awaited (sending 0) b = false := by decide +kernel

theorem test_meets_BlocksReceived : portReady State.reset 255 = false ∧ blockPasses { blkT 0 with hchk := 0x10000 } = false ∧
    (∀ b ∈ [{ blkT 0 with version := 2 }, { blkT 0 with type := 2 }], portReady (sending 0) 255 = true ∧ blockPasses (sealBlock b) = true ∧
      ((sealBlock b).version ≠ 1 ∨ 1 < (sealBlock b).type)) ∧
    (blockPasses (blkT 1) = true ∧ (blkT 1).type = 1) ∧
    (let s := expecting [] [] none 3; let b := blkT 0
     portReady s 255 = true ∧ blockPasses b = true ∧ ¬ (s.eph.inSegment = true ∧ b.step < getF s F.SEG_STEP_STEP 0) ∧ b.step ≤ getF s F.SEG_STEP_STEP 0 ∧ (expectFor s b).isSome ∧
      b.poison = 0 ∧ b.seq = 0xFFFFFFFE ∧ extentHeld s 511 0x1000 b.payload.length = false) ∧
    (expectFor (expecting [(0, 0xFFFFFFFE)] [] none 2) (blkT 0)).any (fun v => v.1.landed.contains (blockKey false (blkT 0)) && v.2.left == 2) = true ∧
    (let s := sending 0; let b := blkT 0
     expectFor s b = none ∧ collFor s b = none ∧ s.net.ended.contains (endedKey b) = false ∧ awaited s b = false) ∧
    (let s := expecting [(0, 0xFFFFFFFF)] [((0, 0), 1)] (some 0) 2
     (findRecv s 7).any (fun v => (missingOf v (recvKeys s v)).filter (fun k => mget v.naks k 0 != 0) == [(0, 0)] && v.lastNak == some 0 &&
        recvRoute s v 0 == some route0) = true ∧ elapsedNs s < 0 + resendNs s route0 ∧ 0 + resendNs s route0 ≤ elapsedNs (atMono (217 * resendNs s route0) s)) ∧
    (let s := expecting [] [] none 3
     (findRecv s 7).any (fun v => !v.arrivalNak && !(missingOf v (recvKeys s v)).isEmpty) = true ∧ (findX s 7).any (fun x => decide (x.arrival < segCycle s)) = true) ∧
    (let s := { sending 0 with net := { (sending 0).net with colls := [⟨7, 0x10, 0, [], []⟩] } }
     (findX s 7).isSome ∧ (findRun s 7).any (fun c => (runPhase s c).isNone) = true ∧ s.net.txq = []) := by decide +kernel

/-- Tile 511's lane unit. -/
def unit (u : LaneSt) (c : Nat := 0) : State := { lane := { tiles := [(511, u)] }, clk := { laneCyc := c } }
def stxn (k : Nat) : Txn := { txn0 with owner := .laneStore 511 31 k }

theorem test_meets_LaneEvents :
    (let s := unit { tasks := [task0 false []] }; (getLane s 511).tasks.find? (fun x => !x.resident) = some (task0 false []) ∧ (task0 false []).groups ≤ (freeSlots s 511).length) ∧
    (let s := unit { tasks := [{ task0 false [] with groups := 32 }], groups := [(31, some grp)] }; (freeSlots s 511).length < 32) ∧
    findTask State.reset 511 0 = none ∧
    (let s := unit { tasks := [task0 true []] }; findTask s 511 0 = some (task0 true []) ∧ taskSlots s 511 0 = []) ∧
    (let s := unit { tasks := [task0 true [31]], groups := [(31, some grp)] }; taskSlots s 511 0 ≠ []) ∧
    (let g := { grp with stores := 2 }; let s := { unit { groups := [(31, some g)] } with deep := { done := [(stxn 0, [], [])] } }
     s.deep.done = [(stxn 0, [], [])] ∧ (stxn 0).owner = .laneStore 511 31 g.task ∧ getGroup s 511 31 = some g ∧ 1 < g.stores) ∧
    (let g := { grp with lockStart := some 0 }; getGroup (unit { groups := [(31, some g)] } 1048576) 511 31 = some g ∧ (unit {} 1048575).clk.laneCyc < 0 + 1048576) ∧
    (let g := { grp with wait := .groupBarrier 3, barStart := [(3, 1)] }; let s := unit { groups := [(31, some g)] } (2 ^ 22)
     getGroup s 511 31 = some g ∧ 0 ∈ barrierStarts s 511 g ∧ paused s = false ∧ 0 + barLimit s 511 (findTask s 511 g.task) ≤ s.clk.laneCyc) ∧
    barrierStarts State.reset 511 grp = [] ∧ paused ({ eph := { inSlot := true } } : State) = true ∧
    (let s : State := { lane := { bars := [(15, ⟨[0, 511], [0, 511], some 0⟩)] } }
     (mget s.lane.bars 15 {}).members ≠ [] ∧ ∀ m ∈ (mget s.lane.bars 15 {}).members, m ∈ (mget s.lane.bars 15 {}).arrived) ∧
    (mget State.reset.lane.bars 15 {}).members = [] ∧
    (let g := { grp with wait := .macq }; let s := unit { groups := [(31, some g)] }; macqSlots s 511 = [31] ∧ dpBusy s 511 = false ∧ getGroup s 511 31 = some g) ∧
    macqSlots State.reset 511 = [] ∧
    (∀ p ∈ [[], [0, 0]], let s := unit { groups := [(31, some grp)], parity := p }
     (getGroup s 511 31).isSome ∧ (getLane (groupFault s 511 31 C.LREG_PARITY 31) 511).parity = p) := by decide +kernel

/-- A halted group in slot 31 of tile 511, in Bench, with the device held. -/
def haltedLanes (h : Bool) : State :=
  let s := bench (unit { groups := [(31, some { grp with halted := h })], haltSlot := if h then some 31 else none })
  { s with eph := { s.eph with debugHalt := h } }

theorem test_meets_DebugHalt : bits (0x0B5E003F : W32).toNat 16 16 = 0x0B5E ∧ inBench (haltedLanes true) = true ∧ bits (0x0B5F003F : W32).toNat 16 16 ≠ 0x0B5E ∧
    (bits (0x0B5E003F : W32).toNat 0 5 = 31 ∧ bits (0x0B5E003F : W32).toNat 5 3 = 1 ∧ bits (0x0B5E005F : W32).toNat 5 3 = 2 ∧ bits (0x0B5E009F : W32).toNat 5 3 = 4) ∧
    (getGroup (haltedLanes false) 511 31 = some grp ∧ haltedAt (haltedLanes false) = none) ∧
    (let s := haltedLanes true; let g := { grp with halted := true }
     getGroup s 511 31 = some g ∧ g.wait = .none ∧ s.eph.debugHalt = true ∧ haltedAt s = some (511, 31) ∧ haltedGroup s 511 = some g ∧ (getLane s 511).haltSlot = some 31 ∧
      (decodeLane 511 31 (fetchLane (incF s F.LANE_ISSUE_COUNT 511 1) 511 g.pc)).isSome ∧ (∀ k, k < 4 → getF (setF s F.DBG_SEL_FILE 511 k) F.DBG_SEL_FILE 511 = k)) ∧
    haltedGroup State.reset 511 = none := by decide +kernel
/-! ## Witnesses: the piers and the meridian -/

/-- Ports 0 and 4 up at widths `a` and `b`, with a VLAN 1 of both that learns, and an entry of MAC 7 to port 4. -/
def ports (a b : Nat) : State :=
  let s := setF (setF State.reset F.PRT_STATUS_STATE 0 2) F.PRT_STATUS_STATE 4 2
  let s := setF (setF s F.PRT_STATUS_WIDTH_UP 0 a) F.PRT_STATUS_WIDTH_UP 4 b
  { s with act := { s.act with vlans := [⟨1, true, 0⟩], fdb := [⟨1, 7, 4, 0xFFFF, true⟩], linkMac := 0xAA, hostMac := 0xBB, schedBuf := 4 } }
def frame0 (dmac len pcp : Nat) : EthFrame := ⟨1, pcp, dmac, 0x55, none, len, true, false, 0x800, none⟩

/-- A frame that goes through the switch from port 0, and whether its pier has room. -/
def through (s : State) (f : EthFrame) (full : Bool) : Bool :=
  portUp s 0 && !f.secured && !getB s F.PRT_CFG_MACSEC 0 && !ownFrame s 0 f && noRoom (learn s 0 f) 0 f == full

theorem test_meets_FramesForwarded : portUp State.reset 0 = false ∧
    (let s := setB (ports 2 2) F.PRT_CFG_MACSEC 0 true; getB s F.PRT_CFG_MACSEC 0 = true ∧ (frame0 7 64 0).secured = false) ∧
    ownFrame (ports 2 2) 0 (frame0 0xAA 64 0) = true ∧ portUp (ports 2 2) 0 = true ∧ portUp (setF (ports 2 2) F.PRT_STATUS_STATE 255 2) 255 = true ∧
    through (ports 2 2) (frame0 7 20971520 4) false = true ∧ through (ports 2 2) (frame0 7 20971521 4) true = true ∧
    through (ports 2 2) (frame0 7 25165824 5) false = true ∧ through (ports 2 2) (frame0 7 25165825 5) true = true ∧
    egressOf (learn (ports 2 2) 0 (frame0 7 64 0)) 0 (frame0 7 64 0) = some [4] ∧
    (let s := { ports 2 2 with act := { (ports 2 2).act with vlans := [] } }; egressOf (learn s 0 (frame0 8 64 0)) 0 (frame0 8 64 0) = none) ∧
    widthUp (ports 2 2) 4 ≤ widthUp (ports 2 2) 0 ∧ widthUp (ports 1 2) 0 < widthUp (ports 1 2) 4 ∧
    fdbFind (learn (ports 2 2) 0 (frame0 8 64 0)) 1 8 = none ∧ (egressOf (learn (ports 2 2) 0 (frame0 8 64 0)) 0 (frame0 8 64 0)).isSome := by decide +kernel

theorem test_meets_FramesForwarded_host : let s := setF (ports 2 2) F.PRT_STATUS_STATE 255 2
    portUp s 255 = true ∧ hostTakes s (frame0 0xBB 64 0) = false ∧ hostTakes s { frame0 0xBB 64 0 with etype := 0x88CC } = true ∧
      hostTakes { s with mcc := { s.mcc with session := some ⟨1, false, [], 0, none, []⟩ } } { frame0 0xBB 64 0 with secured := true } = true ∧
      ownFrame s 255 (frame0 0xBB 64 0) = true ∧ ownFrame s 255 (frame0 7 64 0) = false := by decide +kernel

/-- Port 4 has gates of which only class 0 is open now. -/
def gatedPort : State := { ports 2 2 with act := { (ports 2 2).act with gates := [(4, [256 * 100000 + 1, 256 * 1000 + 0xFF])] } }

theorem test_meets_FramesForwarded_gates : gateOpen gatedPort 4 0 84 = true ∧ gateOpen gatedPort 4 4 84 = false ∧ gateOpen (ports 2 2) 4 4 84 = true ∧
    gatedPort.net.gated = [] := by decide +kernel

/-- Without overrides no code is raised. -/
theorem test_calm (s : State) (h : s.flt.overrides = []) : calm s := by
  intro c hc
  show mget s.flt.overrides c.code c.cls ≤ 3
  rw [h]
  exact hc

/-- Port 0 in a state, with a width and its least width. -/
def port0 (st w m : Nat) : State := setF (setF (setF State.reset F.PRT_STATUS_STATE 0 st) F.PRT_CFG_WIDTH 0 w) F.PRT_CFG_MIN_LANES 0 m

theorem test_meets_PortsTrainAndFall : getF (port0 1 2 0) F.PRT_STATUS_STATE 0 = 1 ∧ getF (port0 1 2 0) F.PRT_CFG_WIDTH 0 = 2 ∧
    (let ok (t : Nat) := t &&& (laneMask 0 8 &&& 255) &&& (255 - lanesOff (port0 1 2 1) 0 % 256)
     widest (ok 0) 0 8 2 = none ∧ widest (ok 0xFF) 0 8 2 = some (2, 0) ∧ widest (ok 0xF0) 0 8 2 = some (1, 4) ∧ widest (ok 0x0E) 0 8 2 = some (0, 2)) ∧
    widthLanes 0 < widthLanes (getF (port0 1 2 1) F.PRT_CFG_MIN_LANES 0) ∧ widthLanes (getF (port0 1 2 1) F.PRT_CFG_MIN_LANES 0) ≤ widthLanes 1 ∧
    portUp State.reset 0 = false ∧ portUp (port0 2 2 0) 0 = true ∧ (getPort (port0 2 2 0) 0).downs = [] ∧
    (let s := setPort (atMono (217 * 59999999999) (port0 2 2 0)) 0 { downs := [0, 0, 0] }
     ((getPort s 0).downs.filter (fun t => decide (elapsedNs s < t + 60000000000))).length = 3 ∧ phase s = 0 ∧ 2 ≤ effClass s C.PORT_FLAP) ∧
    (let s := { port0 0 0 0 with act := { (port0 0 0 0).act with cages := [(47, 100)] } }
     s.act.cages.find? (fun c => c.1 == 47) = some (47, 100) ∧ 100 < 101) ∧ State.reset.act.cages.find? (fun c => c.1 == 47) = none ∧
    getB (setB (port0 0 0 0) F.PRT_CFG_ENABLE 191 true) F.PRT_CFG_ENABLE 191 = true ∧ 191 ∈ groupPorts 47 ∧
    (port0 4 0 0 |> fun s => getF s F.PRT_STATUS_STATE 0) = 4 ∧
    (let s := setPort (setB (port0 2 2 0) F.PRT_CFG_MACSEC 0 true) 0 { upSince := some 0 }
     getB s F.PRT_CFG_MACSEC 0 = true ∧ portUp s 0 = true ∧ (getPort s 0).secured = false ∧ (getPort s 0).upSince = some 0 ∧ elapsedNs s < 2000000000 ∧
      0 + 2000000000 ≤ elapsedNs (atMono (217 * 2000000000) s)) := by decide +kernel

/-- Port 255 is a PTP slave and the SyncE source. -/
def timed (up : Bool) (p : Nat) : State := setB (if up then setF (inPhase p 6) F.PRT_STATUS_STATE 255 2 else inPhase p 6) F.TIME_STATUS_SYNCE_LOCKED 0 true

theorem test_meets_FrequencyAndTime : getB State.reset F.TIME_STATUS_SYNCE_LOCKED 0 = false ∧ getB (timed true 0) F.TIME_STATUS_SYNCE_LOCKED 0 = true ∧
    (let s := timed true 0; synceChoice { s with net := { s.net with synceBad := getF s F.TIME_STATUS_SYNCE_PORT 0 :: s.net.synceBad } } = some 255 ∨
      getF s F.TIME_STATUS_SYNCE_PORT 0 = 255) ∧ synceChoice (timed true 0) = some 255 ∧ synceChoice (timed false 0) = none ∧
    ((timed true 0).act.ptp.contains (255, 1) = true ∧ portUp (timed true 0) 255 = true ∧ getB (timed true 0) F.PRT_CFG_MACSEC 255 = false) ∧ portUp (timed false 0) 255 = false ∧
    effClass (timed true 0) C.TIME_ALIGN ≤ 3 ∧ phase (timed true 0) = 0 ∧ phase (timed true 6) ≠ 0 ∧ (-500 : Int) ≤ -500 ∧ ¬ ((501 : Int) ≤ 500) ∧
    (let s := atMono (217 * 2000000000) (timed true 0); s.net.lastSync + 2000000000 ≤ elapsedNs s ∧ getB s F.TIME_STATUS_HOLDOVER 0 = false ∧ s.act.ptp ≠ []) ∧
    elapsedNs (timed true 0) < (timed true 0).net.lastSync + 2000000000 ∧
    (let s := atMono (217 * 62500000); s.net.syncOut + 62500000 ≤ elapsedNs s) ∧ elapsedNs State.reset < State.reset.net.syncOut + 62500000 := by decide +kernel

def data0 : Dataset := ⟨1, 64, 100, 2, 4, 0, 2, 9, 0x1000⟩
def loading (l : LoaderSt) : State := { State.reset with act := { State.reset.act with dataset := some data0 }, net := { State.reset.net with loader := l } }
def snap (w : Bool) (p : Bool) : Snapshot := ⟨5, [], [(0, [], [p])], w, false, false, 0⟩
def writing (w p : Bool) : State := { State.reset with act := { State.reset.act with committed := [(0, 1)] }, net := { State.reset.net with newer := some (snap w p) } }

theorem test_meets_StorageAndTelemetry : State.reset.act.dataset = none ∧ (loading {}).act.dataset = some data0 ∧
    mayStage (loading { step := 2, staged := [0] }) data0 = false ∧ mayStage (loading { step := 1 }) data0 = true ∧ mayStage (loading { step := 2, staged := [1] }) data0 = true ∧
    (0 + 1 < data0.batch ∧ data0.batch ≤ 1 + 1) ∧ (writing false false).net.newer = some (snap false false) ∧ (snap true true).writing = true ∧
    (snapPoisoned (writing true true) (snap true true)).2 = true ∧ (snapPoisoned (writing true false) (snap true false)).2 = false ∧
    (snapPoisoned (writing true true) (snap true true)).1.store.repeatDue = [] ∧ (snapPoisoned (writing true false) (snap true false)).1.store.repeatDue = [] ∧ State.reset.net.newer = none ∧
    (let s := { State.reset with act := { State.reset.act with telemetry := some ⟨1, 2, 255, 1, 3⟩ } }
     s.act.telemetry = some ⟨1, 2, 255, 1, 3⟩ ∧ s.flt.coreUp = true ∧ portReady s 255 = false ∧ portReady (setF s F.PRT_STATUS_STATE 255 2) 255 = true ∧ elapsedNs s < s.net.lastTlm + 1 * 1000000 ∧
      s.net.lastTlm + 1 * 1000000 ≤ elapsedNs (atMono 217000000 s)) := by decide +kernel

/-- A member with the children 8 and 9 and, where `p`, a parent. -/
def tree (p : Bool) (ph : Nat) (kids : List Nat := [8, 9]) : State :=
  let s := inPhase ph 6
  { s with act := { s.act with parent := if p then some ⟨1, 0x11, 0, 3⟩ else none, children := kids.map (fun i => ⟨i, 0x10 + i, i, 1⟩), n := 3, index := 2, upd := [[0]] }, mer := { s.mer with verdict := 31, entry := some 0 } }
def vote (type sender verdict flags : Nat) : VoteFrame := sealVote ⟨1, type, 1, flags, 0, 0, 0, sender, verdict, 1, 0, 65535, 7, 5, 0⟩
def withUps (s : State) (l : List VoteFrame) : State := { s with mer := { s.mer with ups := l } }

/-- A first report of a child in the round. -/
def freshUp (s : State) (f : VoteFrame) : Bool :=
  voteOk s 0 f && isChild s f.sender && sameRound s f && s.mer.down.isNone && s.mer.up.isNone && !s.mer.gone.contains f.sender && !s.mer.ups.any (fun v => v.sender == f.sender)

theorem test_meets_VerdictRound : voteOk (tree true 3) 0 { vote 0 8 127 0 with crc := 0 } = false ∧
    (voteOk (tree true 3) 0 (vote 0 7 127 0) = true ∧ isChild (tree true 3) 7 = false) ∧
    (let s := { tree true 3 with mer := { (tree true 3).mer with down := some (vote 1 1 127 0) } }
     voteOk s 0 (vote 0 8 127 0) = true ∧ sameRound s (vote 0 8 127 0) = true ∧ s.act.children.find? (fun c => c.index == 8) = some ⟨8, 0x18, 8, 1⟩) ∧
    (∀ p ∈ [1, 2, 3], freshUp (tree true p) (vote 0 8 127 0) = true) ∧ allUp (withUps (tree true 3) [vote 0 8 127 0]) = false ∧
    (∀ b ∈ [true, false], let s := withUps (tree b 3) [vote 0 8 127 0]; let u := withUps s [vote 0 8 127 0, vote 0 9 127 0]
     freshUp s (vote 0 9 127 0) = true ∧ allUp u = true ∧ (s.act.parent.isSome = b) ∧ (tally u).missing = 0 ∧ (tally u).policy = 0 ∧ s.mer.remains = true ∧ s.act.upd ≠ []) ∧
    (∀ p, p < 7 → voteOk (tree true 3) 1 (vote 1 1 (256 * p) 0) = true ∧ policyOf (vote 1 1 (256 * p) 0).verdict = p ∧ sameRound (tree true 3) (vote 1 1 0 0) = true) ∧
    (tree true 3).act.parent.isSome = true ∧ (tree true 3).mer.down = none ∧ 3 < phase (tree true 4) := by decide +kernel

theorem test_meets_VerdictRound_timers :
    (let vt := getF (tree true 3) F.MER_TIMEOUT_VOTE_TIMEOUT 0 * 100000; let s := atMono (217 * vt) (tree true 3)
     s.mer.entry = some 0 ∧ phase s = 3 ∧ s.mer.up = none ∧ s.mer.down = none ∧ 0 + vt ≤ elapsedNs s ∧ s.act.parent.isSome = true ∧ effClass s C.VOTE_MISSING ≤ 3) ∧
    State.reset.mer.entry = none ∧
    (let s := { tree true 3 with mer := { (tree true 3).mer with up := some (vote 0 2 127 0) } }
     s.mer.up.isSome ∧ s.mer.down = none ∧ passed s s.mer.upAt (voteResendNs s) = false ∧
      passed (atMono (217 * voteResendNs s) s) s.mer.upAt (voteResendNs s) = true) ∧
    (let vt := getF (tree true 3) F.MER_TIMEOUT_VOTE_TIMEOUT 0 * 100000
     let s := setF (atMono (217 * 2 * vt) { tree true 3 with mer := { (tree true 3).mer with up := some (vote 0 2 127 0) } }) F.MER_CKPT_STEP 0 5
     s.mer.upFirst + 2 * vt ≤ elapsedNs s ∧ phase s ≠ 0 ∧ hasCkpt s = true ∧ effClass s C.VOTE_LOST ≤ 3) ∧ State.reset.mer.up = none ∧ State.reset.mer.closeUp = none := by
  decide +kernel

/-- A decision's work. -/
def work (d : Nat) (es : List Nat) (roll : Option Nat) : State :=
  { tree true 5 with mer := { (tree true 5).mer with working := true, decision := d, entries := es, rolling := roll } }

theorem test_meets_CommitOverBudget :
    (let s := work 0 [0] none; let due := s.mer.workStart + getF s F.MER_BUDGET_COMMIT_BUDGET 0 * 1000
     s.mer.working = true ∧ s.mer.decision = 0 ∧ s.mer.lateRec = false ∧ elapsedNs s ≤ due ∧ due < elapsedNs (atMono (217 * (due + 1)) s) ∧
      effClass s C.COMMIT_LATE ≤ 3) ∧ State.reset.mer.working = false := by decide +kernel

/-- The close round of a member. -/
def closing (kids : List Nat) (up : Option VoteFrame) : State :=
  { tree true 5 kids with mer := { (tree true 5).mer with closeDue := true, closeUp := up } }
def slewing : State := { State.reset with tower := { State.reset.tower with slews := [(127, 7)] } }

theorem test_meets_CommitCloseRollback : State.reset.mer.working = false ∧ (work 0 [0] (some 5)).mer.rolling.isSome ∧
    (commitDone (work 0 [0] none) = false ∧ (work 0 [0] none).mer.commitFault = false ∧ (work 0 [0] none).mer.rolling = none) ∧
    (getF (work 3 [] none) F.IMG_STATUS_STATE 0 ≠ 3 ∧ (work 3 [] none).mer.decision ≠ 0) ∧ commitDone (work 0 [] none) = true ∧
    closeReady State.reset = false ∧ (closeReady (closing [] none) = true ∧ allClosed (closing [] none) = true ∧ (closing [] none).mcc.stopStep = none) ∧
    allClosed (closing [8] none) = false ∧
    (let s := tree true 5; let f := vote 2 8 64 0
     voteOk s 2 f = true ∧ isChild s f.sender = true ∧ sameClose s f = true ∧ s.mer.closeDown = none ∧ s.mer.closeUp = none ∧ phase s = 5 ∧ closeReady s = false) ∧
    voteOk (tree true 5) 2 { vote 2 8 64 0 with crc := 0 } = false ∧
    (∀ p ∈ [0, 5, 6], let s := closing [] (some (vote 2 2 64 0)); let f := vote 3 1 (256 * p) 0
     voteOk s 3 f = true ∧ s.mer.closeUp.isSome ∧ s.mer.closeDown = none ∧ sameClose s f = true ∧ policyOf f.verdict = p ∧ f.ckpt < 2 ^ 64 - 1) ∧
    (let s := work 5 [] (some 5); pagesToRead { s with act := { s.act with committed := [(0, 1)] } } 5 ≠ []) ∧
    (pagesToRead (work 4 [] (some 5)) 5 = [] ∧ (work 4 [] (some 5)).mer.decision ≠ 5) ∧
    (slewing.tower.slews = (127, 7) :: [] ∧ slewing.eph.inSegment = false ∧ phase slewing ≠ 3 ∧ (getCol slewing 127).spare = some 8) := by decide +kernel
/-! ## Witnesses: pins, bring-up, images, power and temperature -/

/-- In a place, with RESET_N low since `r` and the internal reset over at `e`. -/
def placed (p : Place) (r e : Option Nat) (s : State := State.reset) : State := { s with boot := { s.boot with place := p, resetLow := r, resetEnd := e } }

theorem test_meets_PinsAndReset : (placed .off none none).boot.place = .off ∧ State.reset.boot.place ≠ .off ∧ (placed .dark (some 0) none).boot.resetLow.isSome ∧
    (State.reset.boot.place ≠ .off ∧ State.reset.boot.resetLow = none) ∧ ¬ (State.reset.boot.vaonAt + 2000000 ≤ elapsedNs State.reset) ∧
    (let s := atMono (217 * 2000000) (placed .dark (some 0) none); s.boot.vaonAt + 2000000 ≤ elapsedNs s) ∧
    (let s := placed .dark none (some 2000000); s.boot.resetEnd = some 2000000 ∧ elapsedNs s < 2000000 ∧ 2000000 ≤ elapsedNs (atMono (217 * 2000000) s) ∧ s.thm.restarted = false) ∧
    (let s := atMono (217 * 10000000000) { State.reset with thm := { State.reset.thm with held := true, coldSince := some 0 } }
     s.thm.coldSince = some 0 ∧ s.thm.held = true ∧ latched s = false ∧ 0 + 10000000000 ≤ elapsedNs s ∧ s.boot.place = .up ∧
       (let d := { s with boot := { s.boot with place := .dark } }; latched d = false ∧ 0 + 10000000000 ≤ elapsedNs d)) ∧
    latched { State.reset with thm := { State.reset.thm with latch := true } } = true ∧
    getB State.reset F.PIN_STATUS_DRAIN_REQ 0 = false ∧ (phase (inPhase 0 4) = 0 ∧ devState (inPhase 0 4) ∈ [4, 6, 7]) ∧ devState (inPhase 0 5) ∉ [4, 6, 7] ∧
    (phase (inPhase 1 6) ∉ [0, 6, 7] ∧ getF (inPhase 1 6) F.MER_POLICY_DEPART 0 ≠ 6 ∧ getF (setF (inPhase 7 6) F.MER_POLICY_DEPART 0 6) F.MER_POLICY_DEPART 0 = 6 ∧
      phase (inPhase 7 6) ∉ [0, 6]) ∧
    elapsedNs State.reset < State.reset.pin.ledAt + 10000000 ∧ (atMono (217 * 10000000)).pin.ledAt + 10000000 ≤ elapsedNs (atMono (217 * 10000000)) := by decide +kernel

/-- Twilight with its rails up, and collimation with every channel trained. -/
def dusk0 : State := { setF State.reset F.DEV_STATE_STATE 0 2 with pwr := { State.reset.pwr with order := [] } }
def core0 : State :=
  { State.reset with
    sys := { State.reset.sys with regs := (List.range 192).map (fun c => ((F.MCH_STATUS_TRAIN.id, c), 1)) ++ [((F.DEV_STATE_STATE.id, 0), 3)] }
    pwr := { State.reset.pwr with order := [] }
    boot := { State.reset.boot with core := true } }

theorem test_meets_BringUp_core : devState core0 = 3 ∧ core0.boot.core = true ∧ core0.pwr.order = [] ∧ allTrained core0 = true ∧ core0.boot.fromSleep = false ∧ core0.flt.overrides = [] ∧
    (∀ t, t < 4 → crossingBad core0 ⟨[(3, 6, 12)], [(0, -48), (1151, 48)], []⟩ t = false) ∧ crossingBad core0 ⟨[(3, 6, 13)], [], []⟩ 3 = true := by decide +kernel

/-- Every tile on, with its margin met. -/
def litAll : State :=
  let s := inPhase 0 5
  { s with pwr := { s.pwr with tiles := (List.range 576).map (fun p => (p, { state := 2 })) }, tower := { s.tower with phys := (List.range 576).map (fun p => (p, { met := true })) } }

theorem test_mget {α : Type} (l : List Nat) (x d : α) (k : Nat) (h : k ∈ l) : mget (l.map (fun p => (p, x))) k d = x := by
  induction l with
  | nil => simp at h
  | cons a l ih =>
    simp only [List.map_cons, mget]
    split
    · rfl
    · rename_i hne
      exact ih ((List.mem_cons.mp h).resolve_left (fun e => hne e.symm))

theorem test_tile_on (p : Nat) (h : p < 576) : (getTileP litAll p).state = 2 := by
  simp only [getTileP, litAll]
  rw [test_mget (List.range 576) _ _ p (List.mem_range.mpr h)]

theorem test_meets_BringUp_light : devState litAll = 5 ∧ litAll.boot.lightDone = false ∧ lit litAll = true ∧ lightImage litAll = none := by
  refine ⟨by decide +kernel, rfl, ?_, by decide +kernel⟩
  have h : ∀ p ∈ hostTiles litAll, p < 576 := by
    intro p hp
    simp only [hostTiles, List.mem_filter, List.mem_flatMap, List.mem_map, List.mem_range] at hp
    omega
  simp only [lit, Bool.and_eq_true, List.all_eq_true, Bool.or_eq_true, beq_iff_eq]
  refine ⟨⟨⟨rfl, rfl⟩, fun p hp => .inl (test_tile_on p (h p hp))⟩, fun p hp => .inr ?_⟩
  simp only [getPhys, litAll]
  rw [test_mget (List.range 576) _ _ p hp]

theorem test_not_lit : lit (inPhase 0 5) = false := by decide +kernel

theorem test_meets_BringUp : phaseMax { State.reset with boot := { State.reset.boot with place := .dark } } = none ∧
    (let m := 200000000; let s := inPhase 0 5; phaseMax s = some m ∧ elapsedNs s < s.boot.phaseStart + 2 * m ∧
      (atMono (217 * 400000000) s).boot.phaseStart + 2 * m ≤ elapsedNs (atMono (217 * 400000000) s)) ∧
    (dusk0.boot.place = .up ∧ devState dusk0 = 2 ∧ dusk0.pwr.order = [] ∧ dusk0.boot.netboot = false ∧ dusk0.boot.lightDone = false) ∧
    fuseBad dusk0 = false ∧ fuseBad { dusk0 with boot := { dusk0.boot with fuse := [(0, 1), (2, 0xB0), (64, 3)] } } = true ∧ packagesBad (List.replicate 24 ⟨0, 1, 2, 2, 1, 2⟩) = false ∧
    packagesBad (List.replicate 23 ⟨0, 1, 2, 2, 1, 2⟩) = true ∧
    (let s := setF State.reset F.DEV_STATE_STATE 0 3; devState s = 3 ∧ s.boot.core = false ∧ portsTrained s = true ∧
      s.flt.overrides = [] ∧ portsTrained (setF s F.PRT_STATUS_STATE 191 1) = false) ∧
    (let s := setB { inPhase 0 5 with boot := { (inPhase 0 5).boot with lightDone := true } } F.TIME_STATUS_ALIGNED 0 true
     devState s = 5 ∧ s.boot.lightDone = true ∧ getB s F.TIME_STATUS_ALIGNED 0 = true ∧ routesCovered s = true ∧ s.mer.remains = true) := by decide +kernel

/-- What Twilight leaves of `dusk0` whose flash does not answer. -/
def found0 (ident : Bool) (ps : List PkgId) : State :=
  loadFirmware (checkIdentity (resolveLog { dusk0 with boot := { dusk0.boot with packages := ps } } ⟨true, false, [], [], ident, ps⟩) ident)

theorem test_meets_BringUp_found : ∀ b ∈ [true, false], (found0 b []).boot.netboot = true ∧ (found0 b []).thm.held = false := by decide +kernel

/-- Its package temperature is over the limit. -/
theorem test_meets_BringUp_hot : (let s := { dusk0 with thm := { dusk0.thm with held := true } }
    (loadFirmware (checkIdentity (resolveLog { s with boot := { s.boot with packages := [] } } ⟨true, false, [], [], true, []⟩) true)).thm.held = true) := by decide +kernel

/-- A staged base image of one section-less header, as parsed, and one that a commit or a delta applies. -/
def image0 (k : Nat) : Image := ⟨k, 0, 7, 9, 512, 1, 0, 0, 0, [], [], [1]⟩
def applyingImage (k : Nat) (live : Bool) : State :=
  let s := setB (setF (inPhase 0 6) F.IMG_STATUS_STATE 0 4) F.IMG_STATUS_ACTIVE 0 true
  { s with act := { s.act with staged := some (image0 k), live := live }, boot := { s.boot with lightDone := true } }

/-- A role to join, and a checkpoint that loads. -/
def joiningRole : State := { setB (inPhase 0 6) F.IMG_STATUS_ACTIVE 0 true with mcc := { State.reset.mcc with spare := some ⟨0, true, 5⟩, work := [0x44] } }
def loadingCkpt (m : List (Nat × Nat)) : State := { inPhase 7 6 with mer := { State.reset.mer with loading := some 5 }, act := { State.reset.act with committed := m } }

theorem test_meets_ImagesAndLoads : State.reset.mcc.spare = none ∧
    (let s := joiningRole; s.mcc.spare = some ⟨0, true, 5⟩ ∧ devState s = 6 ∧ phase s = 0 ∧ getF s F.IMG_STATUS_STATE 0 = 0 ∧ getB s F.IMG_STATUS_ACTIVE 0 = true ∧
      s.mer.remains = true ∧ s.mcc.stopStep = none ∧ s.flt.overrides = [] ∧ wholeShard s [] = true) ∧
    (let s := loadingCkpt [(0, 1)]; s.mer.loading = some 5 ∧ phase s = 7 ∧ wholeShard s [] = false ∧ wholeShard (loadingCkpt []) [] = true ∧ s.mer.remains = true ∧
      s.mcc.stopStep = none ∧ s.flt.overrides = []) ∧
    (let s := setF (inPhase 0 4) F.IMG_STATUS_STATE 0 2; getF s F.IMG_STATUS_STATE 0 = 2 ∧ 4 ≤ devState s ∧ s.flt.coreUp = true ∧ (validate s).isSome) ∧
    committing State.reset = none ∧
    (let s := applyingImage 0 false; committing s = some (image0 0) ∧ portsTrained s = true ∧ s.act.live = false ∧ s.boot.lightDone = true) ∧
    (deltaDue State.reset = false ∧ applying State.reset = none) ∧
    (let s := applyingImage 1 true; deltaDue s = false ∧ applying s = some (image0 1) ∧ portsTrained s = true ∧ portsTrained (setF s F.PRT_STATUS_STATE 191 1) = false) := by
  decide +kernel

/-- Tile 511's physical tile with a trim regulator, in Tracking, at a time. -/
def trim (x : TileP) (t : Nat) : State := { atMono (217 * t) (inPhase 0 6) with pwr := { State.reset.pwr with tiles := [(physOf State.reset 511, x)], order := [] } }

/-- The rail events in class 3, by override records. -/
def lowered : State := { State.reset with flt := { State.reset.flt with overrides := [(C.RAIL_FAULT.code, 3), (C.RAIL_OVERCURRENT.code, 3)] } }

theorem test_meets_RailsAndTiles : State.reset.flt.coreUp = true ∧ ({ State.reset with flt := { State.reset.flt with coreUp := false } } : State).flt.coreUp = false ∧
    (State.reset.pwr.order = 6 :: [7, 8, 9, 10, 5, 4] ∧ 6 ∉ [7, 8, 9, 10, 5, 4] ∧ dusk0.pwr.order = []) ∧
    railMayFail State.reset 7 = false ∧ railMayFail lowered 13 = true ∧ effClass lowered C.RAIL_FAULT ≤ 3 ∧ (getRail lowered 13).on = true ∧
    (let s := trim { state := 2, tracked := some 0, quota := 6 } 1000000000; let q := getTileP s (physOf s 511); let low := fellBelow s 511 (setPoint s (physOf s 511) - 4) q.seenMin
     devState s = 6 ∧ q.state = 2 ∧ low = false ∧ q.settled = false ∧ q.tracked = some 0 ∧ elapsedNs s < 0 + 10000000000 ∧ max q.lastEval 0 + 1000000000 ≤ elapsedNs s) ∧
    (let s := setF (setB (trim { state := 2 } 0) F.TRIM_MIN_VALID 511 true) F.TRIM_MIN_MIN 511 (setPoint State.reset 0 - 5)
     fellBelow s 511 (setPoint s (physOf s 511) - 4) (getTileP s (physOf s 511)).seenMin = true) ∧
    holdSince State.reset = none ∧
    (let s := setF (setF { trim { state := 2 } 1000 with eph := { State.reset.eph with stallStart := some 0 } } F.PWR_CFG_GATE_AFTER 0 1) F.PAUSE_STATUS_POWER_REQ 0 1
     holdSince s = some 0 ∧ s.pwr.gated = false ∧ getF s F.PWR_CFG_GATE_AFTER 0 ≠ 0 ∧ 0 + 1000 * getF s F.PWR_CFG_GATE_AFTER 0 ≤ elapsedNs s ∧
      getF s F.PAUSE_STATUS_POWER_REQ 0 ≠ 0 ∧ gates s 511 = true) ∧
    (∀ n ∈ [0, 16, 17], let s := { trim {} 0 with pwr := { (trim {} 0).pwr with queue := [(575, 0)], ramps := List.replicate n ⟨432, false, 0, 120⟩ } }
     let used := ((s.pwr.ramps.filter (fun r => r.phys / 144 == 575 / 144)).map (fun r => charge r.step r.slow)).foldl (· + ·) 0
     s.pwr.gated = false ∧ s.pwr.queue.find? (fun e => e.1 / 144 == 575 / 144) = some (575, 0) ∧ slowWake s 575 = false ∧
      (used + charge (wakeStep s) false ≤ wakeBudget s ↔ n < 16)) ∧
    (let s := { trim { state := 3, wakeFrom := 1 } 8000 with pwr := { (trim { state := 3 } 0).pwr with ramps := [⟨575, true, 0, 120⟩] } }
     s.pwr.ramps.find? (fun r => r.phys == 575) = some ⟨575, true, 0, 120⟩ ∧ s.pwr.gated = false ∧ 0 + 8000 ≤ elapsedNs s ∧ elapsedNs (atMono (217 * 7999) s) < 0 + 8000) ∧
    State.reset.pwr.ramps = [] := by decide +kernel

theorem test_meets_RailsAndTiles_limits :
    (let s := setF (atMono 217000000) F.PWR_PKG_AVG 0 3801; s.pwr.capAt + 1000000 ≤ elapsedNs s ∧ limitOf s.act.image 4 2 3800 < getF s F.PWR_PKG_AVG 0) ∧
    (let s := setF (atMono (217 * 100000000) { State.reset with pwr := { State.reset.pwr with capLow := some 0 } }) F.PWR_PKG_AVG 0 3685
     getF s F.PWR_PKG_AVG 0 * 100 < limitOf s.act.image 4 2 3800 * 97 ∧ s.pwr.capLow = some 0 ∧ 0 + 100000000 ≤ elapsedNs s ∧ getF s F.PWR_STATUS_CAP_REQ 0 < 16) ∧
    elapsedNs State.reset < State.reset.pwr.capAt + 1000000 ∧ 11500 < railSum ([(0, 11501)].foldl putEstimate State.reset) 0 ∧ effClass lowered C.RAIL_OVERCURRENT ≤ 3 ∧
    getB State.reset F.PWR_STATUS_FCST 0 = false ∧ getB (setB State.reset F.PWR_STATUS_FCST 0 true) F.PWR_STATUS_FCST 0 = true ∧
    (let s := trim { state := 2 } 0; (getTileP s (physOf s 511)).state = 2 ∧ 289 + 20 < setPoint s (physOf s 511) ∧ setPoint s (physOf s 511) ≤ 290 + 20) ∧
    getB (setB State.reset F.FLT_SHUT_TILE 575 true) F.FLT_SHUT_TILE 575 = true ∧ (getTileP State.reset 575).state < 2 ∧ getB State.reset F.FLT_SHUT_TILE 575 = false := by
  decide +kernel

/-- A sensor, at a time in periods of 100 MHz. -/
def sensed (i : Nat) (x : Sensor) (n : Nat) : State := { atMono (2170 * n) with thm := { State.reset.thm with sensors := [(i, x)] } }

theorem test_meets_Temperature : (∀ m ∈ [0, 1], let s := sensed 1151 { misses := m } 0; let x := getSensor s 1151
      s.boot.place ≠ .off ∧ x.broken = false ∧ sampleSlot s x = some 0 ∧ x.misses = m ∧ x.reads = []) ∧
    (getSensor (sensed 0 { broken := true } 0) 0).broken = true ∧ (let s := sensed 0 { sampled := some 0 } 0; sampleSlot s (getSensor s 0) = none) ∧
    (let x := getSensor (sensed 0 { offset := -8, reads := [(0, 80)] } 100000) 0
     (80 < (169 : Int) + x.offset - 80 ∧ ((168 : Int) + x.offset - 80 ≤ 80 ∧ 80 - ((168 : Int) + x.offset) ≤ 80) ∧ (-160 : Int) ≤ 168 + x.offset ∧ 168 + x.offset ≤ 1200)) ∧
    (let s := sensed 0 { reads := [(0, 80)] } 100000; s.boot.place ≠ .off ∧ s.thm.interval < sidereal s / 100000 ∧ s.thm.excess = false) ∧
    sidereal State.reset / 100000 ≤ State.reset.thm.interval ∧ ({ State.reset with thm := { State.reset.thm with excess := true } } : State).thm.excess = true ∧
    sharesOk [] 4 (stackMw State.reset) = false ∧ sharesOk (List.replicate 28 0) 4 (stackMw State.reset) = true ∧ sharesOk (List.replicate 7 0) 1 (stackMw State.reset / 4) = true ∧
    layerMean (sensed 0 { reads := [(0, 80)] } 0) 0 7 = some 10000000 ∧
    (tripReached (sensed 0 { reads := [(0, 840)] } 0) 0 false = true ∧ tripReached (sensed 0 { reads := [(0, 839)] } 0) 0 false = false) ∧
    (effClass State.reset C.THM_TRIP = 5 ∧ State.reset.flt.selfTick ≠ some (sidereal State.reset)) := by decide +kernel

theorem test_meets_Temperature_cool : (∀ p ∈ [(456, true), (457, false)], let s := sensed 0 { reads := [(0, p.1)] } 1000000
    anyOver s = false ∧ s.thm.excess = false ∧ s.thm.warm = false ∧ s.thm.coolSince = none ∧ (allCool s = p.2 ∨ throttleAt s 0 ≠ 480)) ∧ anyOver (sensed 0 { reads := [(0, 839)] } 1000000) = true := by decide +kernel
/-! ## Witnesses: the collector, the logbook, the control channel and the block -/

/-- A journal with an OWNER record of one signature bit under group 1's commit, and a pending record. -/
def journal0 (pend : List LogRec) : LogS :=
  { State.reset.log with
    seq := 4, blocks := [⟨0, 1, 1, [⟨tOwner, 2, 1, 0, [0xFF], false⟩, ⟨tCommit, 0, 2, 0, [1, 0, 0, 0, 0, 0, 0, 0, 1, 0, 0, 0, 0, 0, 0, 0], false⟩] ++ pend⟩] }
def logging (l : LogS) (s : State := State.reset) : State := { setB (setB s F.LOG_STATUS_PRESENT 0 true) F.LOG_STATUS_WRITABLE 0 true with log := l }

/-- Firmware that runs with a rollback number to burn. -/
def burning (b : Bool) (n : Nat) : State := { atMono (217 * 86400000000000) with log := { State.reset.log with running := some ⟨0, n, b, 1, []⟩ } }

theorem test_meets_CollectorAndLogbook : (0xFFFF5A7C : W32).toNat % 65536 = 0x5A7C ∧ (0x5A7D : W32).toNat % 65536 ≠ 0x5A7C ∧
    (State.reset.boot.place = .up ∧ State.reset.flt.coreUp = true) ∧ ¬ (State.reset.flt.fedAt + 500000000 ≤ elapsedNs State.reset) ∧
    (∀ l ∈ [[0], [0, 0]], let s := { atMono (217 * 3599999999999) with flt := { State.reset.flt with stops := l } }
     s.boot.place = .up ∧ s.flt.coreRestart = none ∧ getB s F.FLT_MGC_FAILED 0 = false ∧ s.flt.fedAt + 500000000 ≤ elapsedNs s ∧
      (s.flt.stops.filter (fun t => decide (elapsedNs s < t + 3600000000000))) = l) ∧
    State.reset.flt.coreRestart = none ∧ ({ State.reset with flt := { State.reset.flt with coreRestart := some 0 } } : State).flt.coreRestart.isSome ∧
    State.reset.flt.errnEnd = none ∧ elapsedNs State.reset < 1000000 ∧ 1000000 ≤ elapsedNs (atMono 217000000) ∧ (placed .off none none).boot.place = .off ∧
    (State.reset.flt.selfTick ≠ some (sidereal State.reset) ∧ effClass State.reset C.REFCLK_LOST = 5) ∧ State.reset.log.running = none ∧
    (let s := burning true 1; s.log.running = some ⟨0, 1, true, 1, []⟩ ∧ s.log.fuses.rollback < 1 ∧ s.log.runSince + 86400000000000 ≤ elapsedNs s ∧
      (⟨0, 1, false, 1, []⟩ : FwSet).burn = false) ∧
    (let s := logging State.reset.log (atMono (217 * 10000000000)); s.flt.coreUp = true ∧ logWrites s = true ∧ s.log.lastCommit + 10000000000 ≤ elapsedNs s) ∧
    logWrites State.reset = false ∧ (let s := logging { State.reset.log with size := 4, blocks := List.replicate 3 ⟨0, 1, 1, []⟩ }
     logWrites s = true ∧ s.log.compact = none ∧ 3 * s.log.size ≤ 4 * s.log.blocks.length) ∧
    (let s := logging { State.reset.log with compact := some 0 }; s.log.compact.isSome ∧ logWrites s = true ∧ pendingOf s 1 = []) ∧
    pendingOf (logging (journal0 [⟨tChunk, 2, 3, 0, [], false⟩])) 1 ≠ [] ∧ State.reset.log.changes = [] ∧
    ({ State.reset with log := { State.reset.log with changes := [⟨0, 0, 0, 0, 0, 0, 0⟩] } } : State).log.changes ≠ [] := by decide +kernel

/-- The session 5 with the highest SEQUENCE 10, its response kept, and a request of it. -/
def sess0 : Session := ⟨5, false, [], 0, some 10, [⟨10, [[1]]⟩]⟩
def inSession (op : Nat) (p : List Byte) (q : Nat := 11) (s : State := State.reset) (x : Session := sess0) : State :=
  { s with mcc := { s.mcc with session := some x, inbox := [(op, ⟨5, q, p⟩)], endedIds := [4] } }
def asked (op : Nat) (req : MccReq) (s : State) : Bool := s.mcc.inbox.contains (op, req) && s.flt.coreUp && !s.boot.netboot

/-- The request is new and nothing turns it away. -/
def taking (op : Nat) (p : List Byte) (s : State := State.reset) : Bool :=
  let s := inSession op p 11 s
  asked op ⟨5, 11, p⟩ s && s.mcc.session == some sess0 && (sess0.kept.find? (fun k => k.seq == 11)).isNone && (turnedAway s sess0 op ⟨5, 11, p⟩).isNone

/-- `n` bytes that begin with these. -/
def bytes (l : List Byte) (n : Nat) : List Byte := l ++ List.replicate (n - l.length) 0

theorem test_meets_ControlChannel : State.reset.mcc.inbox.contains (0x04, ⟨5, 11, []⟩) = false ∧
    (let s := inSession 4 [] 11 { State.reset with flt := { State.reset.flt with coreUp := false } }; s.mcc.inbox.contains (0x04, ⟨5, 11, []⟩) = true ∧ s.flt.coreUp = false) ∧
    (let s := inSession 3 [] 11 { State.reset with boot := { State.reset.boot with netboot := true } }
     s.mcc.inbox.contains (0x03, ⟨5, 11, []⟩) = true ∧ s.boot.netboot = true ∧ netbootOps.contains 0x03 = false) ∧
    (let s := { inSession 4 [] with mcc := { (inSession 4 []).mcc with session := none } }; asked 4 ⟨5, 11, []⟩ s = true ∧ s.mcc.session = none) ∧
    (let s := inSession 4 [] 11 State.reset { sess0 with id := 4 }; asked 4 ⟨5, 11, []⟩ s = true ∧ s.mcc.session = some { sess0 with id := 4 }) ∧
    (asked 4 ⟨5, 10, []⟩ (inSession 4 [] 10) = true ∧ sess0.kept.find? (fun k => k.seq == 10) = some ⟨10, [[1]]⟩) ∧
    (asked 4 ⟨5, 9, []⟩ (inSession 4 [] 9) = true ∧ sess0.kept.find? (fun k => k.seq == 9) = none ∧ sess0.top = some 10) ∧
    turnedAway (inSession 0xC6 [1, 2]) sess0 0x82 ⟨5, 11, []⟩ = none ∧ taking 0xC6 [1, 2] = true ∧
    (turnedAway State.reset sess0 0xA0 ⟨5, 11, []⟩ = some stNotBench ∧ devState State.reset ≠ 8 ∧ inBench State.reset = false) ∧
    (inSession 4 []).mcc.session = some sess0 ∧ sess0.id = 5 := by decide +kernel

/-- A datagram of the control channel. -/
def datagram (op f seg : Nat) (body : List Byte) : List Byte :=
  let h : List Byte := [1, BitVec.ofNat 8 op, BitVec.ofNat 8 f, 0] ++ leBytes 5 4 ++ leBytes 11 8 ++ leBytes body.length 4 ++ [0, 0] ++ leBytes seg 2
  h ++ leBytes (crc32c (h ++ body)) 4 ++ leBytes 0 4 ++ body

/-- Port 255 up in a state, and a session whose keys run. -/
def linked (s : State) : State := setF s F.PRT_STATUS_STATE 255 2
def fresh0 : State := { linked State.reset with mcc := { State.reset.mcc with fresh := some sess0 } }

theorem test_meets_SessionCommands : ¬ (portUp State.reset 255 = true) ∧
    (let s := linked (inSession 4 []); s.boot.place = .up ∧ s.flt.coreUp = true ∧ portUp s 255 = true ∧ s.mcc.fresh = none ∧ s.mcc.frags = [] ∧ frameTaken s true 4 = true ∧
      frameTaken s false 4 = false) ∧ frameOk (datagram 4 0 0x8000 []) = true ∧ frameOk [] = false ∧ frameOk (datagram 4 0 0x8000 [] ++ [1]) = false ∧
    (∀ g ∈ [0x8000, 15], let d := datagram 0x20 0 g (bytes [1] 40); frameOk d = true ∧ fld d 22 2 = g ∧ fld d 1 1 ∈ opcodes ∧ bit (fld d 2 1) 0 = false) ∧
    State.reset.mcc.fresh = none ∧ fresh0.mcc.fresh = some sess0 ∧ elapsedNs fresh0 < sess0.authAt + 2000000000 ∧ 2000000000 ≤ elapsedNs (atMono (217 * 2000000000)) ∧
    (asked 0 ⟨5, 11, []⟩ (inSession 0 []) = true ∧ effClass (inSession 0 []) C.CERT_MISSING ≤ 3) ∧
    (let p := bytes [] 1216; asked 1 ⟨5, 11, p⟩ (inSession 1 p) = true ∧ p.length = 1216 ∧ State.reset.mcc.setup = none) ∧
    asked 2 ⟨5, 11, []⟩ (inSession 2 []) = true ∧ State.reset.mcc.setup.bind (·.kex) = none ∧
    (let s := { State.reset with mcc := { State.reset.mcc with setup := some ⟨[], some ([1], [2])⟩ } }; s.mcc.setup.bind (·.kex) = some ([1], [2]) ∧ authNeeded s = false ∧
      authNeeded (logging (journal0 []) s) = true ∧ authOk (logging (journal0 []) s) (bytes [0, 1] 8) [1] = false) ∧
    (taking 3 [] = true ∧ taking 4 [] = true ∧ taking 8 (bytes [] 32) = true ∧ taking 9 [] = true) := by decide +kernel

/-- Little-endian fields one after another. -/
def le (l : List (Nat × Nat)) : List Byte := l.flatMap (fun e => leBytes e.1 e.2)

/-- A state of the staged image, and a bulk connection with windows at 0x1000. -/
def imgState (n : Nat) (s : State := State.reset) : State := setF s F.IMG_STATUS_STATE 0 n
def bulk0 : State :=
  let s := setF (setF (inPhase 0 6) F.RES_PAGES_PAGES 0 1) F.MEM_CFG_PKG 0 3
  { imgState 1 s with mcc := { s.mcc with bulk := some ⟨0, [], 1⟩, staging := some (0x1000, 7), results := some (0x1000, 7) } }

theorem test_meets_ImageAndFirmwareCommands :
    (∀ n ∈ [16, 17, 48], let p := bytes [] n; taking 0x20 p = true ∧ 16 ≤ p.length ∧ p.length ≤ 8960 ∧ zr p 12 4 = true) ∧
    (∀ n ∈ [0, 1, 2, 3, 4, 5], getF (imgState n) F.IMG_STATUS_STATE 0 = n) ∧ taking 0x21 [] = true ∧ taking 0x22 [] = true ∧ taking 0x23 [] = true ∧ taking 0x24 [] = true ∧
    taking 0x25 (bytes [] 20) = true ∧ taking 0x26 [] = true ∧ taking 0x61 [] = true ∧ taking 0xA5 (le [(512, 2)]) bench = true ∧ taking 0xA5 (le [(511, 2)]) bench = true ∧
    sealedFull (imgState 3) = none ∧ sealedFull { imgState 3 with act := { State.reset.act with staged := some (image0 0) } } = some (image0 0) ∧ devState (inPhase 0 4) = 4 ∧
    (bulkUp State.reset = false ∧ bulkUp bulk0 = true ∧ bulk0.mcc.staging = some (0x1000, 7) ∧ bulk0.mcc.results = some (0x1000, 7)) ∧
    (0x1001 + 64 ≤ 0x1000 + stagingLen bulk0 ∧ (0x1000 : Nat) < 0x1001 ∧ 0x1000 + storageLen bulk0 ≤ 0x1000 + storageLen bulk0 ∧ 0x1000 + stagingLen bulk0 < 0x1000 + stagingLen bulk0 + 1) ∧
    (let p := bytes (le [(tSite, 2)]) 8; taking 0x81 p = true ∧ zr p 2 2 = true ∧ serviceTypes.contains (fld p 0 2) = true ∧ logWrites State.reset = false ∧
      logWrites (logging State.reset.log) = true) ∧ serviceTypes.contains 1 = false ∧ taking 0x82 [] = true ∧
    (let s := logging { journal0 [⟨tManifest, 2, 3, 9, [], false⟩] with next := some ⟨0, 1, false, 1, []⟩ }
     s.log.next.isSome ∧ (pendingSet s).isSome ∧ (servicePending s).any (fun r => !serviceOk s r) = true) ∧
    (pendingSet (logging (journal0 [])) = none ∧ servicePending (logging (journal0 [])) = []) := by decide +kernel

theorem test_meets_bulk_read : (let s := bulk0; (0x1000 : Nat) ≤ 0x1002 ∧ 0x1002 + 4 ≤ 0x1000 + storageLen s ∧ s.store.repeatDue = [] ∧
      2 % 4096 + 4 ≤ max (4096 * getF s F.RES_PAGES_PAGES 0) 1 ∧ (mget s.mcc.slots (2 / 4096) {}).state ≠ 2) ∧
    (let s : State := { bench with mcc := { State.reset.mcc with bulk := some ⟨0, [], 1⟩, debug := some (511, 0x1000, 7) } }
     bulkUp s = true ∧ s.mcc.results = none ∧ inBench s = true ∧ (0x1000 : Nat) + 4 ≤ 0x1000 + 0xE00000) := by decide +kernel

theorem test_meets_image_parts : (let s := imgState 1 bulk0; 0 + (8960 - 16) ≤ min (2 ^ 34) (stageRoom s) ∧ lengthFits s (2 ^ 34) = true ∧ lengthFits s (2 ^ 34 + 1) = false) ∧
    (let p := le [(0, 8), (7, 4), (0, 4), (0, 24), (512, 8)]; p.length = 48 ∧ fld p 40 8 = 512 ∧ fld p 0 8 = 0) := by decide +kernel

/-- A tile's trim regulator in RETAIN. -/
def retainedTile : State := { setB (inPhase 6 6) F.FLT_SHUT_TILE 575 true with pwr := { State.reset.pwr with tiles := [(0, { state := 1 })] } }

/-- The device ready for a job, and a job's payload. -/
def jobState (p : Nat) : State := setF (setB (setB (inPhase p 6) F.IMG_STATUS_ACTIVE 0 true) F.TIME_STATUS_ALIGNED 0 true) F.EPOCH_PERIOD_PERIOD 0 1000000
def jobPayload (start ck k : Nat) : List Byte := le [(start, 8), (ck, 4), (0, 4), (k, 1), (0, 3), (0, 4), (5, 8)]

theorem test_meets_JobCommands : (taking 0x40 (jobPayload 20 0 0) = true ∧ (jobPayload 20 0 0).length = 32 ∧ phase State.reset = 0 ∧ jobReady State.reset = false) ∧
    phase (jobState 1) ≠ 0 ∧ (jobReady (jobState 0) = true ∧ jobParamsOk (jobState 0) (jobPayload 19 0 0) = false ∧ jobParamsOk (jobState 0) (jobPayload 20 2 0) = false) ∧
    (∀ ck ∈ [0, 1], jobParamsOk (jobState 0) (jobPayload 20 ck 0) = true) ∧
    (taking 0x41 [] = true ∧ phase retainedTile = 6 ∧ retainedTile.mer.resume = false) ∧
    (taking 0x42 (bytes [] 8) = true ∧ phase (inPhase 7 6) ∈ [6, 7] ∧ phase (inPhase 5 6) ∉ [0, 6, 7]) ∧ taking 0x43 [] = true ∧
    (let p := le [(2, 2), (0, 6), (5, 8)]; taking 0x44 p = true ∧ p.length = 16 ∧ zr p 2 6 = true ∧ zr (le [(2, 2), (1, 6), (5, 8)]) 2 6 = false ∧ State.reset.mcc.spare = none ∧
      devState (inPhase 0 7) = 7 ∧ joiningRole.mcc.spare.isSome) ∧
    (let s := { imgState 3 (inPhase 0 7) with act := { State.reset.act with staged := some (image0 0) } }; sealedAs s 0 = some (image0 0)) ∧
    taking 0x45 [] = true ∧ taking 0x46 [1] = true ∧ taking 0x47 [15] = true ∧ fld [15] 0 1 ≤ 15 ∧ 15 < fld [16] 0 1 ∧
    (∀ d ∈ [2, 3, 4, 5, 6, 7], devState (inPhase 0 d) = d) ∧ taking 0x60 (bytes [] 16) = true ∧ taking 0x62 [] = true ∧
    (let p := le [(255, 8), (0, 4), (8192, 4)]; let s := setF { State.reset with mcc := { State.reset.mcc with slots := [(255, { state := 2, step := 255 })] } } F.RES_PAGES_PAGES 0 2
     fld p 12 4 ≤ 8192 ∧ (slotOf s 255).state = 2 ∧ (slotOf s 255).step = 255 ∧ fld p 8 4 + fld p 12 4 ≤ 4096 * getF s F.RES_PAGES_PAGES 0 ∧
      (slotOf { s with mcc := { s.mcc with slots := [(255, { state := 1, step := 255 })] } } 255).state = 1 ∧ (slotOf s 511).step ≠ 511) := by decide +kernel

/-- A request's place: a tile and a slot. -/
def at2 (t g : Nat) : List Byte := le [(t, 2), (g, 1)]

theorem test_meets_ServiceCommands : (taking 0x68 (bytes [] 8) = true ∧ taking 0x69 [] = true ∧ taking 0x80 (bytes [] 12) = true ∧ taking 0x83 (bytes [] 8) = true) ∧
    getB State.reset F.LOG_STATUS_PRESENT 0 = false ∧ (fld (bytes [] 12) 0 8 + fld (bytes [] 12) 8 4 ≤ 65536 * State.reset.log.size ∧ getB (logging State.reset.log) F.LOG_STATUS_PRESENT 0 = true) ∧
    (∀ op ∈ [0xA0, 0xA1, 0xA2], taking op (at2 511 31) bench = true ∧ taking op (at2 512 32) bench = true) ∧
    ((at2 511 31).length = 3 ∧ fld (at2 511 31) 0 2 = 511 ∧ fld (at2 511 31) 2 1 = 31 ∧ getGroup State.reset 511 31 = none) ∧
    (getGroup (haltedLanes false) 511 31 = some grp ∧ haltedAt (haltedLanes false) = none ∧ haltedGroup (haltedLanes true) 511 = some { grp with halted := true }) ∧
    (let q : Group := { grp with halted := true }; let s := inSession 0xA1 (at2 511 31) 11 (haltedLanes true); let u := { s with mcc := { s.mcc with inbox := [] } }
     q.wait = .none ∧ s.eph.debugHalt = true ∧ (match decodeLane 511 31 (fetchLane u 511 q.pc) with | some j => instrHold j u q == none | none => false) = true) ∧
    taking 0xA3 (bytes [] 6) bench = true ∧ taking 0xA4 (bytes [] 10) bench = true ∧ taking 0xA6 (bytes [] 16) bench = true ∧
    (zr (bytes [] 16) 12 4 = true ∧ regAt 0 = none ∧ (regAt 0x3f0000002020).isSome) ∧
    (taking 0xC0 [3] bench = true ∧ partitionDown State.reset 3 = false ∧ partitionDown (resetting none) 3 = true) ∧
    (taking 0xC1 [3, 7] bench = true ∧ inReset State.reset 3 7 = false ∧ inReset (resetting (some 7)) 3 7 = true) ∧
    (∀ l ∈ [[0, 0xFF, 1], [1, 191, 0], [3, 191, 0]], taking 0xC2 l bench = true ∧ taking 0xC3 l bench = true ∧ fld l 1 2 < kindUnits (fld l 0 1)) ∧
    kindUnits 4 ≤ 0 ∧ getB (setB State.reset F.FLT_SHUT_PORT 191 true) F.FLT_SHUT_PORT 191 = true ∧ getB State.reset F.FLT_SHUT_PORT 191 = false ∧
    (taking 0xC4 (bytes [191] 53) bench = true ∧ (getChan State.reset 191).lamp = none ∧ taking 0xC5 [191] bench = true) ∧ taking 0xC6 [1] = true := by decide +kernel

theorem test_meets_StepFront (c : Instr) : ({ State.reset with pending := [c] } : State).pending = c :: [] := rfl

theorem test_meets_EmptyQueueTicks : State.reset.pending = [] ∧ State.reset.clk.running = false ∧
    (let s := marking 1; s.clk.running = true ∧ paused s = false ∧ s.eph.causes = [] ∧ paused { s with eph := { s.eph with inSlot := true } } = true ∧
      ({ s with eph := { s.eph with inSegment := true } } : State).eph.inSegment = true ∧ (outstandingX .load 1 false 9 [⟨511, 1, 7⟩]).eph.causes ≠ []) := by decide +kernel

theorem test_meets_EmptyQueueTicks_calm : unhurried State.reset ∧ unhurried (marking 1) ∧ stalled State.reset = false ∧ (marking 1).eph.inSegment = false :=
  ⟨⟨rfl, by decide +kernel, by decide⟩, ⟨rfl, by decide +kernel, by decide⟩, rfl, rfl⟩

theorem test_meets_StepKeepsTidy : step { State.reset with pending := [.internalResetEnd] } = .next State.reset ∧ State.reset.flt.hist.length ≤ 64 := ⟨rfl, Nat.zero_le _⟩
/-! ## Known values and single steps -/

/-- The published check values of CRC-32C and CRC-16/CCITT over the digits 1 to 9, and SHA-384 of "abc" (FIPS 180-4). -/
def digits : List Byte := [0x31, 0x32, 0x33, 0x34, 0x35, 0x36, 0x37, 0x38, 0x39]
theorem test_crc32c : crc32c digits = 0xE3069283 := by decide +kernel
theorem test_crc16 : crc16 digits = 0x29B1 := by decide +kernel
theorem test_sha384 : (sha384 [0x61, 0x62, 0x63]).take 8 = [0xCB, 0x00, 0x75, 0x3F, 0x45, 0xA3, 0x5E, 0x8B] := by decide +kernel

/-- The published first vector of Philox4x32-10: key and counter 0. -/
theorem test_philox : philox 0 0 0 0 0 = (0x6627E8D5, 0xE169C58D, 0xBC57AC4C, 0x9B00DBD8) := by decide +kernel

/-- FP32 sums worked by hand: 1.5 + 2.25, and the largest number doubled. -/
theorem test_fadd : fAdd .rne 0x3FC00000 0x40100000 = 0x40700000 ∧ fAdd .rne 0x7F7FFFFF 0x7F7FFFFF = 0x7F800000 := by decide +kernel

/-- What a lane command leaves of the group. -/
def after (i : Instr) (g : Group) (p : Group → Bool) : Bool :=
  gives (exec i (lanes g)) (fun t => match getGroup t 0 0 with | some h => p h | none => false)

/-- Lane 0 alone, with v6 and v7 and the scalars s6 and s7. -/
def two (a b : W32) (x y : W64) : Group :=
  { grp with mask := 1, exited := 0xFFFFFFFE, vreg := [((6, 0), ⟨a, false⟩), ((7, 0), ⟨b, false⟩)], sreg := [(6, ⟨x, false⟩), (7, ⟨y, false⟩)] }

/-- 32-bit sums, differences and shifts, and 64-bit scalar sums, wrap (Table: Opcodes). -/
theorem test_wraps : after (.iadd 0 0 rf) (two 0xFFFFFFFF 2 0 0) (fun h => (vGet h 5 0).v == 1 && h.pc == 0x108) = true ∧
    after (.isub 0 0 rf) (two 0 1 0 0) (fun h => (vGet h 5 0).v == 0xFFFFFFFF) = true ∧
    after (.sar 0 0 rf) (two 0x80000000 31 0 0) (fun h => (vGet h 5 0).v == 0xFFFFFFFF) = true ∧
    after (.shr 0 0 rf) (two 0x80000000 31 0 0) (fun h => (vGet h 5 0).v == 1) = true ∧
    after (.sadd 0 0 rf) (two 0 0 0xFFFFFFFFFFFFFFFF 2) (fun h => (sGet h 5).v == 1) = true := by decide +kernel

/-- The destination may be a source: v6 = v6 + v6. -/
theorem test_source_is_destination : after (.iadd 0 0 { rf with d := 6, b := 6 }) (two 21 0 0 0) (fun h => (vGet h 6 0).v == 42) = true := by decide +kernel

/-- A poisoned source poisons the result (R105, R149). -/
theorem test_poison_spreads : after (.iadd 0 0 rf) { two 1 2 0 0 with vreg := [((6, 0), ⟨1, true⟩), ((7, 0), ⟨2, false⟩)] }
    (fun h => (vGet h 5 0).poison && !(vGet h 6 1).poison) = true := by decide +kernel

/-- LOCATE written by the button (R569), and a burst that is held for its cycle (R16). -/
theorem test_locate : gives (exec .svcBtnShortPress State.reset) (fun t => getB t F.LED_CTL_LOCATE 0) = true := by decide +kernel
theorem test_burst_held : gives (exec (.spineBurstArrive 0 .pierL0 1 [0, 0] 0x1D0F) State.reset)
    (fun t => (getSeg t 0 .pierL0).holds == [.held 1 6 [0, 0] false]) = true := by decide +kernel

/-- Outside Bench the request is ignored and recorded (R38). -/
theorem test_reset_ignored : gives (exec (.layerReq 0 0x7A110001 0) State.reset) (fun t => t.tower == State.reset.tower && t.flt.hist.length == 1) = true := by
  decide +kernel

/-- The worked example of R249: rows of 4 KiB, page 100,005, word 77. -/
theorem test_word_place :
    let r : LogRec := ⟨tSeen, 2, 1, 0, [0, 0, 0, 0, 1, 0], false⟩
    wordPlace (logging { State.reset.log with seq := 3, blocks := [⟨0, 1, 1, [r, ⟨tCommit, 0, 2, 0, [1, 0, 0, 0, 0, 0, 0, 0, 1, 0, 0, 0, 0, 0, 0, 0], false⟩]⟩] })
      100005 77 = ⟨0, some 1, 3, 3125, 1216⟩ := by decide +kernel

/-- The worked examples of chapter 03: cycles of operations on the arrays and on the finder path, and the MX block of chapter 04. -/
theorem test_op_cycles :
    let d : ADesc := ⟨4096, 2048, 512, 2048, 3, 3, 3, false, false, false, false, true, 0, false, false, false, 0, 0, 0, 0⟩
    opCycles d = 273756 ∧ opCycles { d with m := 3000, k := 300, n := 1000, s := 1024, aFmt := 1, wFmt := 1, oFmt := 1, wT := true } = 120115 ∧
    opCycles { d with m := 4, k := 4096, n := 4096, s := 4, finder := true } = 16455 := by decide +kernel

/-- The worked example of R200: homes of a package-wide and of a tower-local page. -/
theorem test_homes :
    let l : List Region := [⟨0, 309237645312, none, 0, true, false⟩, ⟨309237645312, 25769803776, some 0, 0, true, false⟩]
    (homeIn 0x01234000 l (fun _ => 0)).map (fun h => (h.1, h.2.1)) = some (172, 24) ∧
    (homeIn 0x4800035000 l (fun _ => 0)).map (fun h => (h.1, h.2.1)) = some (34, 393217) := by decide +kernel

end Sys2Proof.Tests
end

section
/-!
EXIT of the lane unit (R147, R155, R166, R168): what the release of full group barriers leaves alone, the lowest lane that
still holds a lock, the slot of a group that has ended, and the three ends that EXIT can have.
-/
namespace Sys2Proof.Machine

/-! ## The mask stack when lanes have left -/

/-- Lanes that leave the group are no longer among those that wait at a barrier. -/
theorem waitingLanes_map_dropLanes (m : W32) (b : Nat) (k : List MaskEntry) :
    waitingLanes b (k.map (dropLanes m)) = waitingLanes b k &&& ~~~m := by
  induction k with
  | nil => simp [waitingLanes]
  | cons e r ih =>
    cases e with
    | rejoin x a => exact ih
    | pend x a => exact ih
    | waiting x a c =>
      simp only [List.map_cons, dropLanes, waitingLanes, ih]
      by_cases hc : c = b
      · simp only [if_pos hc, BitVec.and_or_distrib_right]
      · simp [if_neg hc]

/-- With no lane waiting at a barrier nothing is released. -/
theorem releaseFull_of_no_waiting {g : Group} (h : ∀ b, waitingLanes b g.stack = 0) : releaseFull g = g := by
  unfold releaseFull
  exact List.foldl_fixed' (fun b => by simp [h b]) _

/-- The release of a barrier's lanes leaves the task of the group. -/
@[simp] theorem releaseFull_task (g : Group) : (releaseFull g).task = g.task := by
  unfold releaseFull
  refine List.foldlRecOn (motive := fun g' : Group => g'.task = g.task) _ _ rfl fun g' hg b _ => ?_
  dsimp only
  split <;> exact hg

/-- With a pending or a rejoin entry on top of the stack the group goes on at its address with its lanes. -/
theorem doRcv_of_top {s : State} {t slot : Nat} {g : Group} {m : W32} {a : Nat} {r : List MaskEntry}
    (h : g.stack = .pend m a :: r ∨ g.stack = .rejoin m a :: r) :
    doRcv s t slot g = putGroup s t slot (some { g with mask := m &&& ~~~g.exited, pc := a, stack := r }) := by
  unfold doRcv
  rcases h with h | h <;> rw [h]

/-! ## Locks and slots -/

/-- The least number of a list of pairs, folded from its first, is one of them and below all. -/
theorem foldl_min_snd (x : Nat × Nat) (r : List (Nat × Nat)) :
    let l := (x :: r).foldl (fun m y => min m y.2) x.2
    (∃ y ∈ x :: r, y.2 = l) ∧ ∀ y ∈ x :: r, l ≤ y.2 := by
  intro l
  have hmin : ((x :: r).map (·.2)).min? = some l := by
    rw [List.map_cons, List.min?_cons', List.foldl_map]
    simp [l]
  obtain ⟨hmem, hle⟩ := List.min?_eq_some_iff.mp hmin
  exact ⟨List.mem_map.mp hmem, fun y hy => hle _ (List.mem_map_of_mem hy)⟩

/-- The slot of a group that has ended is free. -/
@[simp] theorem getGroup_endGroup (s : State) (t slot : Nat) : getGroup (endGroup s t slot) t slot = none := by
  unfold endGroup
  dsimp only
  generalize setLane _ _ _ = u
  obtain ⟨b, hb⟩ := getGroup_refill 4 (putGroup u t slot none) t slot
  simp [hb]

/-! ## The ends of EXIT -/

section
variable {s : State} {t slot : Nat} {g : Group} {f : CForm}

/-- Lanes that still hold locks free them, and the group faults for the lowest of them. -/
theorem opExit_of_locks {x : Nat × Nat} {r : List (Nat × Nat)} (hb : cBad f = false)
    (hl : g.locks.filter (fun y => inMask g.mask y.2) = x :: r) :
    opExit s t slot g f = groupFault (putGroup (freeLocks s t (x :: r)) t slot (some { g with
      locks := g.locks.filter (fun y => !inMask g.mask y.2) })) t slot C.LOCK_LEFT
      ((x :: r).foldl (fun m y => min m y.2) x.2) := by
  simp only [opExit, hb, hl]; rfl

/-- With every lane gone the group ends. -/
theorem opExit_of_all_gone (hb : cBad f = false) (hl : g.locks.filter (fun y => inMask g.mask y.2) = [])
    (hx : g.exited ||| g.mask = 0xFFFFFFFF) : opExit s t slot g f = afterEnd (endGroup s t slot) t g.task := by
  simp [opExit, hb, hl, hx]

/-- With lanes left, none of them waiting below the top entry of the stack, the group goes on from that entry. -/
theorem opExit_of_lanes_left {m : W32} {a : Nat} {r : List MaskEntry} (hb : cBad f = false)
    (hl : g.locks.filter (fun y => inMask g.mask y.2) = []) (hx : g.exited ||| g.mask ≠ 0xFFFFFFFF)
    (hk : g.stack = .pend m a :: r ∨ g.stack = .rejoin m a :: r) (hw : ∀ b, waitingLanes b r = 0) :
    opExit s t slot g f = putGroup s t slot (some { g with
      exited := g.exited ||| g.mask, mask := m &&& ~~~g.mask &&& ~~~(g.exited ||| g.mask), pc := a,
      stack := r.map (dropLanes g.mask) }) := by
  have hstack : ∀ b, waitingLanes b g.stack = 0 := by
    rcases hk with hk | hk <;> rw [hk] <;> exact hw
  have htop : g.stack.map (dropLanes g.mask) = .pend (m &&& ~~~g.mask) a :: r.map (dropLanes g.mask) ∨
      g.stack.map (dropLanes g.mask) = .rejoin (m &&& ~~~g.mask) a :: r.map (dropLanes g.mask) := by
    rcases hk with hk | hk <;> simp [hk, dropLanes]
  have hfull : releaseFull { g with mask := 0, exited := g.exited ||| g.mask, stack := g.stack.map (dropLanes g.mask) } =
      { g with mask := 0, exited := g.exited ||| g.mask, stack := g.stack.map (dropLanes g.mask) } :=
    releaseFull_of_no_waiting fun b => by simp [waitingLanes_map_dropLanes, hstack b]
  simp only [opExit, hb, hl, hx, hfull, Bool.false_eq_true, if_false]
  rw [doRcv_of_top htop]
  simp [keepGroup]

end

/-- EXIT that issues acts on the state in which its issue is noted. -/
theorem exec_exit {t slot : Nat} {f : CForm} {s : State} {g : Group} (h : Issues (.exit t slot f) s t slot g) :
    exec (.exit t slot f) s = .next (opExit (noted (.exit t slot f) s t slot g) t slot g f) :=
  congrArg Host.Outcome.next (laneRun_eq _ h)

end Sys2Proof.Machine

namespace Sys2Proof.Claims
open Sys2Proof.Machine

/-- Settles O8: from the three ends of EXIT and the slot of a group that has ended. -/
theorem laneExit : Obligations.LaneExit := by
  unfold Obligations.LaneExit
  intro t slot f s g hi hb w left
  rw [exec_exit hi]
  refine ⟨fun hl hx => ?_, getGroup_endGroup w t slot, fun m a r hl hx hk hw => ?_, fun hl => ?_⟩
  · rw [opExit_of_all_gone hb hl hx]
  · rw [opExit_of_lanes_left hb hl hx hk hw]; rfl
  · obtain ⟨x, r, hxr⟩ := List.exists_cons_of_ne_nil hl
    obtain ⟨hmem, hle⟩ := foldl_min_snd x r
    rw [opExit_of_locks hb hxr, hxr]
    exact ⟨_, hmem, hle, rfl⟩

end Sys2Proof.Claims
end

section
/-!
What the recording of an event leaves alone (R505 to R513): every register field that the collector does not write, the deep store
and the channels, and the stored data unless the event parks the device (R507).
-/
namespace Sys2Proof.Machine

/-! ## What a change of the state keeps -/

/-- Every register field but the listed ones, the deep store with its channels, and the stored data are as in the first state; the
stored data may have gone with the rails (R507). -/
structure KeepsBut (w : List Field) (s t : State) : Prop where
  field : ∀ f u, (∀ g ∈ w, f.id ≠ g.id) → getF t f u = getF s f u
  deep : t.deep = s.deep
  store : Claims.storeKept s t

namespace KeepsBut
variable {w : List Field} {s t u : State}

theorem refl (w : List Field) (s : State) : KeepsBut w s s := ⟨fun _ _ _ => rfl, rfl, .inl rfl⟩

theorem trans (h : KeepsBut w s t) (k : KeepsBut w t u) : KeepsBut w s u where
  field f i hf := (k.field f i hf).trans (h.field f i hf)
  deep := k.deep.trans h.deep
  store := by
    have hdrop : (dropData t).store = (dropData s).store := by
      rcases h.store with hs | hs <;> simp [dropData, hs]
    rcases k.store with hk | hk
    · simpa [Claims.storeKept, hk] using h.store
    · exact .inr (hk.trans hdrop)

/-- A change of other parts of the state. -/
theorem otherParts (h : KeepsBut w s t) (hsys : u.sys = t.sys := by rfl) (hdeep : u.deep = t.deep := by rfl)
    (hstore : u.store = t.store := by rfl) : KeepsBut w s u :=
  h.trans ⟨fun f i _ => getF_congr (congrArg _ hsys) f i, hdeep, .inl hstore⟩

theorem setF {i v : Nat} (h : KeepsBut w s t) (f : Field) (hf : f ∈ w := by decide) :
    KeepsBut w s (Machine.setF t f i v) :=
  h.trans ⟨fun _ _ hg => getF_setF_other _ _ _ _ _ _ (.inl (hg f hf)), rfl, .inl rfl⟩

theorem setB {i : Nat} {b : Bool} (h : KeepsBut w s t) (f : Field) (hf : f ∈ w := by decide) :
    KeepsBut w s (Machine.setB t f i b) := h.setF f hf

theorem incF {i n : Nat} (h : KeepsBut w s t) (f : Field) (hf : f ∈ w := by decide) :
    KeepsBut w s (Machine.incF t f i n) := h.setF f hf

theorem mono {w' : List Field} (h : KeepsBut w s t) (hw : ∀ f ∈ w, f ∈ w') : KeepsBut w' s t :=
  ⟨fun f i hf => h.field f i fun g hg => hf g (hw g hg), h.deep, h.store⟩

theorem isLp5x_eq (h : KeepsBut w s t) (hw : ∀ g ∈ w, F.MEM_CFG_TYPE.id ≠ g.id) : isLp5x t = isLp5x s := by
  simp only [isLp5x, getB, h.field F.MEM_CFG_TYPE 0 hw]

end KeepsBut

theorem getChan_congr {s t : State} {c : Nat} (h : t.deep = s.deep) : getChan t c = getChan s c := by
  unfold getChan; rw [h]

/-! ## The collector -/

/-- The fields that the recording of an event may write: those of the collector, and those of a device that parks. -/
def collectorFields : List Field :=
  [F.FLT_COUNT_COUNT, F.FLT_STATUS_WORST, F.FLT_STATUS_ERRN, F.FLT_STATUS_ERRN_TIMER, F.FLT_CTL_ERRN_HOLD, F.FLT_SUPPRESSED_COUNT,
   F.FLT_HIST_HEAD_NEXT, F.FLT_HIST_TOTAL_COUNT, F.FLT_FIRST_CODE, F.FLT_FIRST_CLASS, F.FLT_FIRST_ORIGIN, F.FLT_FIRST_VALID,
   F.FLT_FIRST_UNIT_UNIT, F.FLT_FIRST_TIME_TIME, F.BOOT_CAUSE_CODE, F.BOOT_CAUSE_VALID, F.DEV_STATE_STATE, F.DEV_STATE_READY,
   F.MER_PHASE_PHASE, F.MER_PHASE_GATE]

theorem clearVerdict_keeps (s : State) (b : Nat) : KeepsBut collectorFields s (clearVerdict s b) := by
  unfold clearVerdict
  split_ifs
  · exact (KeepsBut.refl _ s).otherParts
  · exact KeepsBut.refl _ s
  · exact (KeepsBut.refl _ s).otherParts

theorem railOff_keeps (s : State) (r : Nat) : KeepsBut collectorFields s (railOff s r) := by
  unfold railOff
  split
  · exact (KeepsBut.refl _ s).otherParts
  · exact KeepsBut.refl _ s

theorem railsOff_keeps (s : State) (rs : List Nat) : KeepsBut collectorFields s (railsOff s rs) :=
  List.foldlRecOn (motive := KeepsBut collectorFields s) rs railOff (KeepsBut.refl _ s).otherParts
    fun t ht r _ => ht.trans (railOff_keeps t r)

theorem dropData_keeps (s : State) : KeepsBut collectorFields s (dropData s) := ⟨fun _ _ _ => rfl, rfl, .inr rfl⟩

theorem parkRails_keeps (s : State) : KeepsBut collectorFields s (parkRails s) := by
  unfold parkRails
  split
  · exact (railsOff_keeps s _).trans (dropData_keeps _)
  · exact KeepsBut.refl _ s

theorem enterParked_keeps (s : State) : KeepsBut collectorFields s (enterParked s) :=
  ((KeepsBut.refl collectorFields s).setF F.DEV_STATE_STATE |>.setB F.DEV_STATE_READY |>.setB F.FLT_STATUS_ERRN
    |>.setF F.MER_PHASE_PHASE |>.setF F.MER_PHASE_GATE).otherParts.trans (parkRails_keeps _)

theorem bringupStops_keeps (s : State) (code : Nat) : KeepsBut collectorFields s (bringupStops s code) :=
  ((KeepsBut.refl collectorFields s).setF F.BOOT_CAUSE_CODE |>.setB F.BOOT_CAUSE_VALID).trans (enterParked_keeps _)

theorem classReaction_keeps (s : State) (code cls : Nat) : KeepsBut collectorFields s (classReaction s code cls) := by
  have hremains : KeepsBut collectorFields s (clearRemains s) := (KeepsBut.refl _ s).otherParts
  unfold classReaction
  split_ifs
  · exact KeepsBut.refl _ s
  · exact clearVerdict_keeps s _
  · exact bringupStops_keeps s code
  · exact hremains.trans (enterParked_keeps _)
  · exact hremains
  · exact bringupStops_keeps s code
  · exact enterParked_keeps s
  · exact KeepsBut.refl _ s

theorem captureFirst_keeps (s : State) (e : Event) : KeepsBut collectorFields s (captureFirst s e) := by
  unfold captureFirst
  split
  · have htick : KeepsBut collectorFields s { s with flt := { s.flt with firstTick := some e.tick } } :=
      (KeepsBut.refl _ s).otherParts
    exact htick.setF F.FLT_FIRST_CODE |>.setF F.FLT_FIRST_CLASS |>.setF F.FLT_FIRST_ORIGIN |>.setB F.FLT_FIRST_VALID
      |>.setF F.FLT_FIRST_UNIT_UNIT |>.setF F.FLT_FIRST_TIME_TIME
  · exact KeepsBut.refl _ s

theorem queueEvent_keeps (s : State) (e : Event) : KeepsBut collectorFields s (queueEvent s e) :=
  ((KeepsBut.refl collectorFields s).setF F.FLT_HIST_HEAD_NEXT |>.incF F.FLT_HIST_TOTAL_COUNT).otherParts

theorem raiseErrn_keeps (s : State) : KeepsBut collectorFields s (raiseErrn s) :=
  ((KeepsBut.refl collectorFields s).setB F.FLT_CTL_ERRN_HOLD |>.setB F.FLT_STATUS_ERRN |>.setB F.FLT_STATUS_ERRN_TIMER).otherParts

theorem noteEvent_keeps (s : State) (e : Event) : KeepsBut collectorFields s (noteEvent s e) := by
  have hqueue (t : State) : KeepsBut collectorFields t
      (if suppressed t e.code e.cls e.unit then incF t F.FLT_SUPPRESSED_COUNT 0 1 else queueEvent t e) := by
    split
    · exact (KeepsBut.refl _ t).incF F.FLT_SUPPRESSED_COUNT
    · exact queueEvent_keeps t e
  have herrn (t : State) : KeepsBut collectorFields t (if 3 ≤ e.cls then raiseErrn t else t) := by
    split
    · exact raiseErrn_keeps t
    · exact KeepsBut.refl _ t
  exact ((KeepsBut.refl collectorFields s).incF F.FLT_COUNT_COUNT |>.setF F.FLT_STATUS_WORST).trans
    (captureFirst_keeps _ e) |>.trans (hqueue _) |>.trans (herrn _)

/-- An event recorded writes the collector's fields alone, whatever its class. -/
theorem recordAs_keeps (s : State) (code cls unit origin : Nat) (detail : List Nat) :
    KeepsBut collectorFields s (recordAs s code cls unit origin detail) := by
  unfold recordAs
  split
  · exact KeepsBut.refl _ s
  · exact (noteEvent_keeps s _).trans (classReaction_keeps _ code cls)

/-- The fields that an event of a channel may write. -/
def chanEventFields : List Field := F.MCH_CAPTURE_CODE :: F.MCH_CAPTURE_VALID :: collectorFields

theorem chanEvent_keeps (s : State) (c : Nat) (code : FaultCode) (origin : Nat) :
    KeepsBut chanEventFields s (chanEvent s c code origin) := by
  have hcapture : KeepsBut chanEventFields s (capture s F.MCH_CAPTURE_CODE F.MCH_CAPTURE_VALID c code) := by
    unfold capture
    split
    · exact KeepsBut.refl _ s
    · exact (KeepsBut.refl chanEventFields s).setF F.MCH_CAPTURE_CODE |>.setB F.MCH_CAPTURE_VALID
  refine hcapture.trans ((recordAs_keeps _ _ _ _ _ _).mono fun f hf => ?_)
  exact List.mem_cons_of_mem _ (List.mem_cons_of_mem _ hf)

end Sys2Proof.Machine
end

section
/-!
The lamps of a channel (R263, R264): what a write of LAMP_CTL does by its key and its bits, and what the end of a run posts.
-/
namespace Sys2Proof.Machine

/-! ## Writes of LAMP_CTL -/

section
variable {s : State} {c v o : Nat}

@[simp] theorem getF_lampEnd (s : State) (c : Nat) (f : Field) (u : Nat) : getF (lampEnd s c) f u = getF s f u := by
  unfold lampEnd; dsimp only; split <;> simp

@[simp] theorem lampEnd_copy (s : State) (c : Nat) : (getChan (lampEnd s c) c).copy = (getChan s c).copy := by
  unfold lampEnd; dsimp only; split <;> simp

@[simp] theorem lampSettings_lampEnd (s : State) (c : Nat) : lampSettings (lampEnd s c) c = lampSettings s c := by
  simp [lampSettings]

theorem lampEnd_of_none (h : (getChan s c).lamp = none) : lampEnd s c = s := by
  simp [lampEnd, h]

theorem lampEnd_of_some {x : LampRun} (h : (getChan s c).lamp = some x) :
    lampEnd s c = setChan s c { getChan s c with lamp := some { x with stopping := true } } := by
  simp [lampEnd, h]

/-- A run that starts takes the place of one that has just been stopped. -/
@[simp] theorem lampRun_lampEnd (s : State) (c : Nat) : lampRun (lampEnd s c) c = lampRun s c := by
  cases h : (getChan s c).lamp with
  | none => rw [lampEnd_of_none h]
  | some x => simp [lampEnd_of_some h, lampRun, elapsedNs]

/-- START under its key on a shuttered channel with no copy in progress and good settings: a run starts, whatever STOP holds. -/
theorem writeLamp_starts (hkey : bits v 16 16 = 0x1A4D) (hstart : v.testBit 0 = true)
    (hstate : getF s F.MCH_STATUS_STATE c = 4) (hcopy : (getChan s c).copy = none) (hset : lampSettings s c = true) :
    writeLamp s c v o = lampRun s c := by
  cases hstop : v.testBit 1 <;> simp [writeLamp, bit, hkey, hstart, hstop, hstate, hcopy, hset]

/-- START with a setting that holds a reserved value is ignored. -/
theorem writeLamp_of_bad_settings (hkey : bits v 16 16 = 0x1A4D) (hstart : v.testBit 0 = true) (hstop : v.testBit 1 = false)
    (hstate : getF s F.MCH_STATUS_STATE c = 4) (hcopy : (getChan s c).copy = none) (hset : lampSettings s c = false) :
    writeLamp s c v o = s := by
  simp [writeLamp, bit, hkey, hstart, hstop, hstate, hcopy, hset]

/-- START without its key is recorded. -/
theorem writeLamp_of_no_key (hkey : bits v 16 16 ≠ 0x1A4D) (hstart : v.testBit 0 = true) :
    writeLamp s c v o = record s C.KEY_REFUSED c o := by
  simp [writeLamp, bit, hkey, hstart]

/-- START alone on a channel that is not ready for a run is recorded. -/
theorem writeLamp_of_not_ready (hstart : v.testBit 0 = true) (hstop : v.testBit 1 = false)
    (hready : ¬(getF s F.MCH_STATUS_STATE c = 4 ∧ (getChan s c).copy = none)) :
    writeLamp s c v o = record s C.KEY_REFUSED c o := by
  have hrefused : ¬((bits v 16 16 = 0x1A4D ∧ getF s F.MCH_STATUS_STATE c = 4) ∧ (getChan s c).copy = none) :=
    fun ⟨⟨_, hstate⟩, hcopy⟩ => hready ⟨hstate, hcopy⟩
  simp [writeLamp, bit, hstart, hstop, hrefused]

/-- A write without START does what STOP does under the key, and nothing else. -/
theorem writeLamp_without_start (hstart : v.testBit 0 = false) :
    writeLamp s c v o = if v.testBit 1 = true ∧ bits v 16 16 = 0x1A4D then lampEnd s c else s := by
  simp [writeLamp, bit, hstart]

theorem exec_lampStart (v : W32) : exec (.lampStart c v o) s = .next (writeLamp s c v.toNat o) := rfl

theorem exec_lampStop (v : W32) : exec (.lampStop c v o) s = .next (writeLamp s c v.toNat o) := rfl

end

/-! ## Registers posted together -/

/-- Fields of one unit written in turn. -/
def postFields (s : State) (u : Nat) (l : List (Field × Nat)) : State := l.foldl (fun t p => setF t p.1 u p.2) s

theorem postFields_append (s : State) (u : Nat) (k l : List (Field × Nat)) :
    postFields s u (k ++ l) = postFields (postFields s u k) u l := List.foldl_append

theorem postFields_keeps {w : List Field} (s : State) (u : Nat) (l : List (Field × Nat)) (h : ∀ p ∈ l, p.1 ∈ w) :
    KeepsBut w s (postFields s u l) :=
  List.foldlRecOn (motive := KeepsBut w s) l _ (KeepsBut.refl w s) fun _ ht p hp => ht.setF p.1 (h p hp)

/-- Of fields posted together, no two of them the same, each holds its value. -/
theorem getF_postFields {s : State} {u v : Nat} {f : Field} {l : List (Field × Nat)} (hl : (l.map (·.1.id)).Nodup)
    (h : (f, v) ∈ l) : getF (postFields s u l) f u = v % 2 ^ f.width := by
  induction l generalizing s with
  | nil => cases h
  | cons p r ih =>
    obtain ⟨hp, hr⟩ := List.nodup_cons.mp hl
    rcases List.mem_cons.mp h with rfl | h
    · have hkept := (postFields_keeps (w := r.map (·.1)) (setF s f u v) u r fun q hq => List.mem_map_of_mem hq).field f u
      have hother : ∀ g ∈ r.map (·.1), f.id ≠ g.id := by
        intro g hg hid
        obtain ⟨q, hq, rfl⟩ := List.mem_map.mp hg
        exact hp (List.mem_map.mpr ⟨q, hq, hid.symm⟩)
      exact (hkept hother).trans (getF_setF_same _ _ _ _)
    · exact ih hr h

/-! ## A run that starts -/

/-- What START posts. -/
def lampStartPosts : List (Field × Nat) :=
  [(F.MCH_STATUS_STATE, 6), (F.LAMP_STATUS_BUSY, 1), (F.LAMP_STATUS_DONE, 0), (F.LAMP_STATUS_ERR, 0), (F.LAMP_STATUS_PASS, 0)]

theorem lampRun_eq (s : State) (c : Nat) : lampRun s c =
    postFields (setChan s c { getChan s c with lamp := some ⟨elapsedNs s, false⟩ }) c lampStartPosts := rfl

theorem getF_lampRun {s : State} {c v : Nat} {f : Field} (h : (f, v) ∈ lampStartPosts) :
    getF (lampRun s c) f c = v % 2 ^ f.width := by
  rw [lampRun_eq]
  exact getF_postFields (by decide) h

@[simp] theorem lampRun_store (s : State) (c : Nat) : (lampRun s c).store = s.store := rfl

@[simp] theorem lampRun_lamp (s : State) (c : Nat) : (getChan (lampRun s c) c).lamp = some ⟨elapsedNs s, false⟩ :=
  congrArg ChanSt.lamp (getChan_setChan s c _)

/-! ## A run that ends -/

/-- A run found a mismatch or an uncorrectable word. -/
def lampFailed (r : LampResult) : Bool := decide (r.mism ≠ 0) || decide (r.uncorr ≠ 0)

theorem lampFailed_iff (r : LampResult) : lampFailed r = true ↔ r.mism ≠ 0 ∨ r.uncorr ≠ 0 := by
  simp [lampFailed]

/-- The state, passes, words, time and counts that the end of a run posts. -/
def lampCounts (s : State) (c : Nat) (x : LampRun) (r : LampResult) : List (Field × Nat) :=
  [(F.MCH_STATUS_STATE, 4), (F.LAMP_STATUS_BUSY, 0), (F.LAMP_STATUS_DONE, 1), (F.LAMP_STATUS_ERR, (lampFailed r).toNat),
   (F.LAMP_STATUS_PASS, lampPasses s c x r.passes), (F.LAMP_WORDS_COUNT, min (lampWords s c x r.words) (2 ^ 32 - 1)),
   (F.LAMP_TIME_COUNT, min ((elapsedNs s - x.start) / 10) (2 ^ 32 - 1)), (F.LAMP_MISM_COUNT, min r.mism (2 ^ 32 - 1)),
   (F.LAMP_CORR_COUNT, min r.corr (2 ^ 32 - 1)), (F.LAMP_UNCORR_COUNT, min r.uncorr (2 ^ 32 - 1))]

/-- The place of the first failure, where there is one. -/
def lampFailPlace (s : State) (c : Nat) (r : LampResult) : List (Field × Nat) :=
  if lampFailed r then
    [(F.LAMP_FAIL_PAGE_PAGE, getF s F.LAMP_BASE_PAGES c + r.failPage % max 1 (lampPages s c)), (F.LAMP_FAIL_PAGE_WORD, r.failWord)]
  else []

/-- All that the end of a run posts, in the order in which it writes. -/
def lampPosts (s : State) (c : Nat) (x : LampRun) (r : LampResult) : List (Field × Nat) :=
  lampCounts s c x r ++ lampFailPlace s c r ++ [(F.LAMP_FAIL_DQ_DQ, if isLp5x s then r.failDq % 65536 else r.failDq)]

/-- The fields that the end of a run writes. -/
def lampFields : List Field :=
  [F.MCH_STATUS_STATE, F.LAMP_STATUS_BUSY, F.LAMP_STATUS_DONE, F.LAMP_STATUS_ERR, F.LAMP_STATUS_PASS, F.LAMP_WORDS_COUNT,
   F.LAMP_TIME_COUNT, F.LAMP_MISM_COUNT, F.LAMP_CORR_COUNT, F.LAMP_UNCORR_COUNT, F.LAMP_FAIL_PAGE_PAGE, F.LAMP_FAIL_PAGE_WORD,
   F.LAMP_FAIL_DQ_DQ]

section
variable {s : State} {c : Nat} {x : LampRun} {r : LampResult}

theorem lampPosts_sublist : ((lampPosts s c x r).map (·.1)).Sublist lampFields := by
  unfold lampPosts lampFailPlace
  split
  · exact List.Sublist.refl lampFields
  · simp [lampCounts, lampFields]

theorem lampPosts_nodup : ((lampPosts s c x r).map (·.1.id)).Nodup := by
  have hfields : (lampFields.map (·.id)).Nodup := by decide
  have hposts := (lampPosts_sublist (s := s) (c := c) (x := x) (r := r)).map Field.id |>.nodup hfields
  rw [List.map_map] at hposts
  exact hposts

theorem lampPosts_mem (p : Field × Nat) (hp : p ∈ lampPosts s c x r) : p.1 ∈ lampFields :=
  lampPosts_sublist.subset (List.mem_map_of_mem hp)

theorem postFields_lampFailPlace (t : State) : postFields t c (lampFailPlace s c r) =
    if lampFailed r then
      setF (setF t F.LAMP_FAIL_PAGE_PAGE c (getF s F.LAMP_BASE_PAGES c + r.failPage % max 1 (lampPages s c)))
        F.LAMP_FAIL_PAGE_WORD c r.failWord
    else t := by
  unfold lampFailPlace
  split <;> rfl

/-- The state in which the end of a run has posted. -/
def lampPosted (s : State) (c : Nat) (x : LampRun) (r : LampResult) : State :=
  postFields (setChan s c { getChan s c with lamp := none }) c (lampPosts s c x r)

theorem lampPosted_keeps : KeepsBut lampFields (setChan s c { getChan s c with lamp := none }) (lampPosted s c x r) :=
  postFields_keeps _ _ _ lampPosts_mem

theorem getF_lampPosted {f : Field} {v : Nat} (h : (f, v) ∈ lampPosts s c x r) :
    getF (lampPosted s c x r) f c = v % 2 ^ f.width := getF_postFields lampPosts_nodup h

theorem exec_lampDone_of_none (h : (getChan s c).lamp = none) : exec (.lampDone c r) s = .next s := by
  show execLampDone c r s = _
  simp [execLampDone, h]

/-- A run without a number of passes goes on until it is stopped. -/
theorem exec_lampDone_of_unending (h : (getChan s c).lamp = some x) (hcount : getF s F.LAMP_PASSES_COUNT c = 0)
    (hstop : x.stopping = false) : exec (.lampDone c r) s = .next s := by
  show execLampDone c r s = _
  simp [execLampDone, h, hcount, hstop]

/-- A run that ends posts, and LAMP_ERRORS where it failed. -/
theorem exec_lampDone_of_ended (h : (getChan s c).lamp = some x)
    (hend : getF s F.LAMP_PASSES_COUNT c ≠ 0 ∨ x.stopping = true) : exec (.lampDone c r) s =
      .next (if lampFailed r then chanEvent (lampPosted s c x r) c C.LAMP_ERRORS else lampPosted s c x r) := by
  have hends : ¬(getF s F.LAMP_PASSES_COUNT c = 0 ∧ x.stopping = false) := by
    rcases hend with h | h <;> simp [h]
  obtain ⟨counted, hcounted⟩ :
      ∃ t, t = postFields (setChan s c { getChan s c with lamp := none }) c (lampCounts s c x r) := ⟨_, rfl⟩
  have htype : isLp5x (postFields counted c (lampFailPlace s c r)) = isLp5x s := by
    have hkeeps := postFields_keeps (w := lampFields) (setChan s c { getChan s c with lamp := none }) c
      (lampCounts s c x r ++ lampFailPlace s c r) fun p hp => lampPosts_mem p (List.mem_append_left _ hp)
    rw [hcounted, ← postFields_append, hkeeps.isLp5x_eq (by decide)]
    rfl
  have hposted : lampPosted s c x r = setF (postFields counted c (lampFailPlace s c r)) F.LAMP_FAIL_DQ_DQ c
      (if isLp5x (postFields counted c (lampFailPlace s c r)) then r.failDq % 65536 else r.failDq) := by
    rw [htype, lampPosted, lampPosts, postFields_append, postFields_append, hcounted]
    rfl
  rw [hposted, postFields_lampFailPlace, hcounted]
  show execLampDone c r s = _
  simp only [execLampDone, h, if_neg hends]
  rfl

end

end Sys2Proof.Machine

namespace Sys2Proof.Claims
open Sys2Proof.Machine

/-- The state after the end of a run holds what the run posts, whether or not the run records an event. -/
theorem lampDone_ends {s : State} {c : Nat} {x : LampRun} {r : LampResult} (h : (getChan s c).lamp = some x)
    (hend : getF s F.LAMP_PASSES_COUNT c ≠ 0 ∨ x.stopping = true) : ∃ t, exec (.lampDone c r) s = .next t ∧
      (getChan t c).lamp = none ∧ storeKept s t ∧ ∀ f v, (f, v) ∈ lampPosts s c x r → getF t f c = v % 2 ^ f.width := by
  refine ⟨_, exec_lampDone_of_ended h hend, ?_⟩
  have hevent : KeepsBut chanEventFields (lampPosted s c x r)
      (if lampFailed r then chanEvent (lampPosted s c x r) c C.LAMP_ERRORS else lampPosted s c x r) := by
    split
    · exact chanEvent_keeps _ _ _ _
    · exact KeepsBut.refl _ _
  generalize (if lampFailed r then _ else _) = t at hevent
  have hkeeps : KeepsBut (lampFields ++ chanEventFields) (setChan s c { getChan s c with lamp := none }) t :=
    (lampPosted_keeps.mono fun _ => List.mem_append_left _).trans (hevent.mono fun _ => List.mem_append_right _)
  have hapart : ∀ f ∈ lampFields, ∀ g ∈ chanEventFields, f.id ≠ g.id := by decide
  refine ⟨?_, hkeeps.store, fun f v hfv => ?_⟩
  · rw [getChan_congr hkeeps.deep, getChan_setChan]
  · rw [hevent.field f c (hapart f (lampPosts_mem _ hfv)), getF_lampPosted hfv]

/-- Settles O26: from what a write of LAMP_CTL does by its key and bits, and the fields that the end of a run posts. -/
theorem lamps : Obligations.Lamps := by
  unfold Obligations.Lamps
  intro c v o r s key h ready
  refine ⟨fun hkey ⟨hstate, hcopy⟩ hset hstart => ?_, fun hkey ⟨hstate, hcopy⟩ hset hstart hstop => ?_, fun hstart hrefused => ?_,
    fun hkey hstart hstop x hx => ?_, fun hstart hidle => ?_, exec_lampDone_of_none, fun x hx => exec_lampDone_of_unending hx,
    fun x hx hend => ?_⟩
  · rw [exec_lampStart, writeLamp_starts hkey hstart hstate hcopy hset]
    have hbusy : getF (lampRun s c) F.LAMP_STATUS_BUSY c = 1 := getF_lampRun (v := 1) (by decide)
    have hdone : getF (lampRun s c) F.LAMP_STATUS_DONE c = 0 := getF_lampRun (v := 0) (by decide)
    exact ⟨_, rfl, getF_lampRun (v := 6) (by decide), by rw [getB, hbusy]; rfl, by rw [getB, hdone]; rfl, lampRun_lamp s c,
      lampRun_store s c⟩
  · rw [exec_lampStart, writeLamp_of_bad_settings hkey hstart hstop hstate hcopy hset]
  · rw [exec_lampStart]
    rcases hrefused with hkey | ⟨hstop, hready⟩
    · rw [writeLamp_of_no_key hkey hstart]
    · rw [writeLamp_of_not_ready hstart hstop hready]
  · rw [exec_lampStop, writeLamp_without_start hstart, if_pos ⟨hstop, hkey⟩, lampEnd_of_some hx]
  · rw [exec_lampStop, writeLamp_without_start hstart]
    rcases hidle with hkey | hstop | hnone
    · rw [if_neg fun ⟨_, hk⟩ => hkey hk]
    · simp [hstop]
    · rw [lampEnd_of_none hnone, ite_self]
  · obtain ⟨t, ht, hlamp, hstore, hposts⟩ := lampDone_ends (r := r) hx hend
    have hcount {f : Field} {v : Nat} (hfv : (f, v) ∈ lampCounts s c x r) : getF t f c = v % 2 ^ f.width :=
      hposts f v (List.mem_append_left _ (List.mem_append_left _ hfv))
    have hsat {f : Field} {n : Nat} (hf : f.width = 32) (hfv : (f, min n (2 ^ 32 - 1)) ∈ lampCounts s c x r) :
        getF t f c = min n (2 ^ 32 - 1) := by
      rw [hcount hfv, hf, Nat.mod_eq_of_lt (by omega)]
    have hbusy : getF t F.LAMP_STATUS_BUSY c = 0 := hcount (v := 0) (by simp [lampCounts])
    have hdone : getF t F.LAMP_STATUS_DONE c = 1 := hcount (v := 1) (by simp [lampCounts])
    have herr : getB t F.LAMP_STATUS_ERR c = lampFailed r := by
      rw [getB, hcount (v := (lampFailed r).toNat) (by simp [lampCounts])]
      cases lampFailed r <;> rfl
    refine ⟨t, ht, hlamp, hstore, hcount (v := 4) (by simp [lampCounts]), by rw [getB, hbusy]; rfl, by rw [getB, hdone]; rfl,
      hcount (by simp [lampCounts]), hsat rfl (by simp [lampCounts]), hsat rfl (by simp [lampCounts]),
      hsat rfl (by simp [lampCounts]), hsat rfl (by simp [lampCounts]), hsat rfl (by simp [lampCounts]),
      by rw [herr, lampFailed_iff], fun hfail => ?_⟩
    have hplace {p : Field × Nat} (hp : p ∈ lampFailPlace s c r) : getF t p.1 c = p.2 % 2 ^ p.1.width :=
      hposts p.1 p.2 (List.mem_append_left _ (List.mem_append_right _ hp))
    rw [lampFailPlace, if_pos ((lampFailed_iff r).mpr hfail)] at hplace
    exact ⟨hplace (List.mem_cons_self ..), hplace (List.mem_cons_of_mem _ (List.mem_cons_self ..))⟩

end Sys2Proof.Claims
end

section
/-!
COMMIT over its budget (R382): what the recording of an event leaves of the work of a decision, and when COMMIT_LATE is recorded.
-/
namespace Sys2Proof.Machine

/-! ## What the recording of an event leaves of the work -/

/-- The lane units are as in the first state, and of the Meridian only the verdict, the bits that wait to be cleared and REMAINS may
have changed. -/
structure KeepsWork (s t : State) : Prop where
  lane : t.lane = s.lane
  mer : t.mer = { s.mer with verdict := t.mer.verdict, nextClear := t.mer.nextClear, remains := t.mer.remains }

namespace KeepsWork
variable {s t u : State}

theorem of_eq (hlane : t.lane = s.lane) (hmer : t.mer = s.mer) : KeepsWork s t := ⟨hlane, by rw [hmer]⟩

theorem trans (h : KeepsWork s t) (k : KeepsWork t u) : KeepsWork s u where
  lane := k.lane.trans h.lane
  mer := by rw [k.mer, h.mer]

end KeepsWork

theorem railOff_keepsWork (s : State) (r : Nat) : KeepsWork s (railOff s r) := by
  unfold railOff
  split <;> exact .of_eq rfl rfl

theorem railsOff_keepsWork (s : State) (rs : List Nat) : KeepsWork s (railsOff s rs) :=
  List.foldlRecOn (motive := KeepsWork s) rs railOff (.of_eq rfl rfl) fun t ht r _ => ht.trans (railOff_keepsWork t r)

theorem dropData_keepsWork (s : State) : KeepsWork s (dropData s) := .of_eq rfl rfl

theorem parkRails_keepsWork (s : State) : KeepsWork s (parkRails s) := by
  unfold parkRails
  split
  · exact (railsOff_keepsWork s _).trans (dropData_keepsWork _)
  · exact .of_eq rfl rfl

theorem enterParked_keepsWork (s : State) : KeepsWork s (enterParked s) := by
  unfold enterParked
  refine KeepsWork.trans ?_ (parkRails_keepsWork _)
  exact .of_eq (by simp [tilesOff]) (by simp [tilesOff])

theorem bringupStops_keepsWork (s : State) (code : Nat) : KeepsWork s (bringupStops s code) := by
  unfold bringupStops
  refine KeepsWork.trans ?_ (enterParked_keepsWork _)
  exact .of_eq (by simp) (by simp)

theorem clearVerdict_keepsWork (s : State) (b : Nat) : KeepsWork s (clearVerdict s b) := by
  unfold clearVerdict
  split_ifs <;> exact ⟨rfl, rfl⟩

theorem classReaction_keepsWork (s : State) (code cls : Nat) : KeepsWork s (classReaction s code cls) := by
  have hremains : KeepsWork s (clearRemains s) := ⟨rfl, rfl⟩
  unfold classReaction
  split_ifs
  · exact .of_eq rfl rfl
  · exact clearVerdict_keepsWork s _
  · exact bringupStops_keepsWork s code
  · exact hremains.trans (enterParked_keepsWork _)
  · exact hremains
  · exact bringupStops_keepsWork s code
  · exact enterParked_keepsWork s
  · exact .of_eq rfl rfl

/-- Only the registers and the collector's own part of the state may have changed. -/
def CollectorOnly (s t : State) : Prop := t = { s with sys := t.sys, flt := t.flt }

namespace CollectorOnly
variable {s t u : State}

theorem refl (s : State) : CollectorOnly s s := rfl

theorem trans (h : CollectorOnly s t) (k : CollectorOnly t u) : CollectorOnly s u := by
  unfold CollectorOnly at h k ⊢
  rw [k, h]

theorem setF (h : CollectorOnly s t) (f : Field) (i v : Nat) : CollectorOnly s (Machine.setF t f i v) := h.trans rfl

theorem setB (h : CollectorOnly s t) (f : Field) (i : Nat) (b : Bool) : CollectorOnly s (Machine.setB t f i b) := h.trans rfl

theorem incF (h : CollectorOnly s t) (f : Field) (i n : Nat) : CollectorOnly s (Machine.incF t f i n) := h.trans rfl

theorem keepsWork (h : CollectorOnly s t) : KeepsWork s t := by
  rw [h]
  exact .of_eq rfl rfl

theorem store_eq (h : CollectorOnly s t) : t.store = s.store := by rw [h]

end CollectorOnly

theorem captureFirst_collectorOnly (s : State) (e : Event) : CollectorOnly s (captureFirst s e) := by
  unfold captureFirst
  split
  · have htick : CollectorOnly s { s with flt := { s.flt with firstTick := some e.tick } } := rfl
    exact htick.setF _ _ _ |>.setF _ _ _ |>.setF _ _ _ |>.setB _ _ _ |>.setF _ _ _ |>.setF _ _ _
  · exact .refl s

theorem queueEvent_collectorOnly (s : State) (e : Event) : CollectorOnly s (queueEvent s e) := rfl

theorem raiseErrn_collectorOnly (s : State) : CollectorOnly s (raiseErrn s) := rfl

/-- The collector keeps an event in the registers and in its own part of the state. -/
theorem noteEvent_collectorOnly (s : State) (e : Event) : CollectorOnly s (noteEvent s e) := by
  have hqueue (t : State) : CollectorOnly t
      (if suppressed t e.code e.cls e.unit then incF t F.FLT_SUPPRESSED_COUNT 0 1 else queueEvent t e) := by
    split
    · exact (CollectorOnly.refl t).incF _ _ _
    · exact queueEvent_collectorOnly t e
  have herrn (t : State) : CollectorOnly t (if 3 ≤ e.cls then raiseErrn t else t) := by
    split
    · exact raiseErrn_collectorOnly t
    · exact .refl t
  exact ((CollectorOnly.refl s).incF F.FLT_COUNT_COUNT _ _ |>.setF F.FLT_STATUS_WORST _ _).trans
    (captureFirst_collectorOnly _ e) |>.trans (hqueue _) |>.trans (herrn _)

theorem recordAs_keepsWork (s : State) (code cls unit origin : Nat) (detail : List Nat) :
    KeepsWork s (recordAs s code cls unit origin detail) := by
  unfold recordAs
  split
  · exact .of_eq rfl rfl
  · exact (noteEvent_collectorOnly s _).keepsWork.trans (classReaction_keepsWork _ code cls)

/-- Below class DEVICE no event takes the stored data. -/
theorem classReaction_store {cls : Nat} (s : State) (code : Nat) (h : cls ≤ 3) : (classReaction s code cls).store = s.store := by
  unfold classReaction clearVerdict
  rw [if_neg (by omega : cls ≠ 4), if_neg (by omega : cls ≠ 5)]
  split_ifs <;> rfl

theorem recordAs_store {cls : Nat} (s : State) (code unit origin : Nat) (detail : List Nat) (h : cls ≤ 3) :
    (recordAs s code cls unit origin detail).store = s.store := by
  unfold recordAs
  split
  · rfl
  · exact (classReaction_store _ code h).trans (noteEvent_collectorOnly s _).store_eq

/-! ## COMMIT_LATE -/

section
variable {s : State}

/-- A COMMIT over its budget, for the first time, is recorded. -/
theorem exec_commitLate_of_over (hwork : s.mer.working = true) (hcommit : s.mer.decision = 0) (hfirst : s.mer.lateRec = false)
    (hover : s.mer.workStart + getF s F.MER_BUDGET_COMMIT_BUDGET 0 * 1000 < elapsedNs s) :
    exec .commitLate s = .next (record { s with mer := { s.mer with lateRec := true } } C.COMMIT_LATE 0) := by
  show execCommitLate s = _
  simp [execCommitLate, aCommit, hwork, hcommit, hfirst, hover]

/-- Without a COMMIT over its budget, or with one already recorded, nothing happens. -/
theorem exec_commitLate_of_not_over (h : s.mer.working = false ∨ s.mer.decision ≠ 0 ∨ s.mer.lateRec = true ∨
    elapsedNs s ≤ s.mer.workStart + getF s F.MER_BUDGET_COMMIT_BUDGET 0 * 1000) : exec .commitLate s = .next s := by
  show execCommitLate s = _
  rcases h with h | h | h | h <;> simp [execCommitLate, aCommit, h]

end

end Sys2Proof.Machine

namespace Sys2Proof.Claims
open Sys2Proof.Machine

/-- Settles O44: from what COMMIT_LATE does on each side of the budget, and what a recording leaves of the work. -/
theorem commitOverBudget : Obligations.CommitOverBudget := by
  unfold Obligations.CommitOverBudget
  intro s due noted
  refine ⟨fun hwork hcommit hfirst hover => ?_, exec_commitLate_of_not_over⟩
  have hkeeps : KeepsWork noted (record noted C.COMMIT_LATE 0) := recordAs_keepsWork _ _ _ _ _ _
  have hmer := hkeeps.mer
  have hdeep : (record noted C.COMMIT_LATE 0).deep = s.deep := (recordAs_keeps noted _ _ _ _ _).deep
  have hworking : (record noted C.COMMIT_LATE 0).mer.working = true := by rw [hmer]; exact hwork
  exact ⟨exec_commitLate_of_over hwork hcommit hfirst hover, hworking, by rw [hmer], by rw [hmer], hkeeps.lane, hdeep, by rw [hmer],
    fun hclass => recordAs_store noted _ _ _ _ hclass⟩

end Sys2Proof.Claims
end

section
/-!
Admission to the control channel (R10, R427, R430, R431, R532, R535): how a request is served, and which request of a session is
executed, repeated or turned away.
-/
namespace Sys2Proof.Machine

/-! ## Frames, statuses and payload lengths -/

/-- Frames leave behind those that left before, and change nothing else. -/
theorem sendFrames_eq (s : State) (fs : List (List Byte)) :
    sendFrames s fs = { s with net := { s.net with out := s.net.out ++ fs.map .mcc } } := by
  induction fs generalizing s with
  | nil => simp [sendFrames]
  | cons f r ih => simpa [sendFrames, emit] using ih (emit s (.mcc f))

/-- The statuses of a request of which nothing was executed (R429). -/
theorem notExecuted_iff {st : Nat} : notExecuted st = true ↔ st ∈ [stBadOpcode, stBadLength, stBadParam] := by
  simp [notExecuted, or_assoc]

section
variable {s : State} {op : Nat} {req : MccReq} {f : State → Reply} {x : Session}

/-- A request whose payload has another length is answered BAD_LENGTH, whatever the command does. -/
theorem sized_of_bad_length {n : Nat} {p : List Byte} (h : p.length ≠ n) :
    (fun t => sized n p t f) = (answer · stBadLength) :=
  funext fun _ => if_neg h

/-! ## Arrival -/

theorem serve_of_not_arrived (h : s.mcc.inbox.contains (op, req) = false) : serve op req s f = .next s := by
  rw [serve, h]; rfl

theorem serve_of_arrived (h : s.mcc.inbox.contains (op, req) = true) :
    serve op req s f = .next (admitReq (Claims.taken s op req) op req f) := by
  rw [serve, h]; rfl

/-! ## Admission to the session -/

theorem admitReq_of_core_down (h : s.flt.coreUp = false) : admitReq s op req f = s := by
  simp [admitReq, h]

theorem admitReq_of_netboot (hcore : s.flt.coreUp = true) (hnet : s.boot.netboot = true)
    (h : netbootOps.contains op = false ∨ req.session ≠ 0) : admitReq s op req f = reject s op req stParked := by
  have hrefused : ¬(netbootOps.contains op = true ∧ req.session = 0) := by
    rintro ⟨hop, hzero⟩
    rcases h with h | h
    · exact Bool.false_ne_true (h.symm.trans hop)
    · exact h hzero
  rw [admitReq, if_neg (by simp [hcore]), if_pos hnet, if_neg hrefused]

/-- Past the commands of session setup, a request that does not name the session in progress gets GONE or NO_SESSION. -/
theorem admitReq_of_other_session (hcore : s.flt.coreUp = true) (hnet : s.boot.netboot = false) (hop : 2 < op)
    (h : s.mcc.session = none ∨ ∃ y, s.mcc.session = some y ∧ y.id ≠ req.session) :
    admitReq s op req f = reject s op req (if s.mcc.endedIds.contains req.session then stGone else stNoSession) := by
  rw [admitReq, if_neg (by simp [hcore]), if_neg (by simp [hnet]), if_neg (by omega)]
  rcases h with hnone | ⟨y, hy, hid⟩
  · rw [hnone]
  · simp only [hy, if_neg hid]

theorem admitReq_of_session (hcore : s.flt.coreUp = true) (hnet : s.boot.netboot = false) (hop : 2 < op)
    (hx : s.mcc.session = some x) (hid : x.id = req.session) : admitReq s op req f = inSession s x op req f := by
  rw [admitReq, if_neg (by simp [hcore]), if_neg (by simp [hnet]), if_neg (by omega)]
  simp only [hx, if_pos hid]

/-! ## Requests of the session -/

theorem inSession_of_kept {k : Kept} (h : x.kept.find? (fun k => k.seq == req.seq) = some k) :
    inSession s x op req f = sendFrames (incF s F.MCC_DUP_COUNT 0 1) k.frames := by
  simp only [inSession, h]

theorem inSession_of_stale {n : Nat} (h : x.kept.find? (fun k => k.seq == req.seq) = none) (htop : x.top = some n)
    (hseq : req.seq ≤ n) : inSession s x op req f = reject (incF s F.MCC_STALE_COUNT 0 1) op req stStale := by
  simp [inSession, h, htop, hseq]

/-- A SEQUENCE that no response is kept for, above every one executed, is executed unless it is turned away. -/
theorem inSession_of_new (h : x.kept.find? (fun k => k.seq == req.seq) = none) (hseq : ∀ n, x.top = some n → n < req.seq) :
    inSession s x op req f = runKept s op req ((turnedAway s x op req).elim f fun st => (answer · st)) := by
  cases htop : x.top with
  | none => simp only [inSession, h, htop]; cases turnedAway s x op req <;> rfl
  | some n =>
    have hnew : ¬ req.seq ≤ n := Nat.not_le.mpr (hseq n htop)
    simp only [inSession, h, htop, hnew]; cases turnedAway s x op req <;> rfl

/-- Outside Parked and outside Bench a debug command is turned away as NOT_BENCH alone (R430). -/
theorem turnedAway_of_not_bench (hop : benchOps.contains op = true) (hparked : devState s ≠ 8) (hbench : inBench s = false) :
    turnedAway s x op req = some stNotBench := by
  simp only [turnedAway, hparked, hop, hbench]; rfl

/-! ## The kept responses -/

/-- Of a request that was not executed nothing is kept and nothing counted (R429). -/
theorem runKept_of_not_executed {st : Nat} {b : List Byte} (h : notExecuted st = true) :
    runKept s op req (fun v => (v, st, b)) = sendFrames s (response op req.session req.seq st b) := by
  simp only [runKept, h, if_true]

/-- The session once a request is executed: its SEQUENCE is the highest, and its response is the newest of at most 64. -/
def keptSession (x : Session) (op : Nat) (req : MccReq) (st : Nat) (b : List Byte) : Session :=
  { x with top := some req.seq, kept := (⟨req.seq, response op req.session req.seq st b⟩ :: x.kept).take 64 }

theorem runKept_of_executed {st : Nat} {b : List Byte} (h : notExecuted st = false) (hx : s.mcc.session = some x)
    (hid : x.id = req.session) : runKept s op req (fun v => (v, st, b)) =
      sendFrames { incF s F.MCC_CMDS_COUNT 0 1 with mcc := { s.mcc with session := some (keptSession x op req st b) } }
        (response op req.session req.seq st b) := by
  simp [runKept, h, hx, hid, keptSession]

end

end Sys2Proof.Machine

namespace Sys2Proof.Claims
open Sys2Proof.Machine

/-! ## The commands of the table -/

/-- Each command of Table: MCC opcodes is served under its code. -/
theorem exec_eq_serve {p : (MccReq → Instr) × Nat} (h : mccRow p) (req : MccReq) (s : State) :
    ∃ f, exec (p.1 req) s = serve p.2 req s f := by
  unfold mccRow at h
  fin_cases h <;> exact ⟨_, rfl⟩

/-- A command whose payload has one length checks it before anything else. -/
theorem exec_eq_serve_sized {p : (MccReq → Instr) × Nat × Nat} (h : sizedRow p) (req : MccReq) (s : State) :
    ∃ f, exec (p.1 req) s = serve p.2.1 req s (fun t => sized p.2.2 req.payload t f) := by
  unfold sizedRow at h
  fin_cases h <;> exact ⟨_, rfl⟩

/-- The commands whose payload has one length come after those of session setup. -/
theorem two_lt_of_sizedRow {p : (MccReq → Instr) × Nat × Nat} (h : sizedRow p) : 2 < p.2.1 := by
  have hcode := List.mem_map_of_mem (f := fun q => q.2.1) h
  generalize p.2.1 = n at hcode ⊢
  revert n
  decide

/-! ## A request that has arrived -/

section
variable {s : State} {op : Nat} {req : MccReq} {f : State → Reply} {x : Session}

theorem serve_of_core_down (hin : s.mcc.inbox.contains (op, req) = true) (hcore : s.flt.coreUp = false) :
    serve op req s f = .next (taken s op req) := by
  rw [serve_of_arrived hin]
  exact congrArg _ (admitReq_of_core_down hcore)

theorem serve_of_netboot (hin : s.mcc.inbox.contains (op, req) = true) (hcore : s.flt.coreUp = true)
    (hnet : s.boot.netboot = true) (hop : netbootOps.contains op = false ∨ req.session ≠ 0) :
    serve op req s f = .next (reject (taken s op req) op req stParked) := by
  rw [serve_of_arrived hin]
  exact congrArg _ (admitReq_of_netboot hcore hnet hop)

theorem serve_of_other_session (hop : 2 < op) (h : arrived s op req)
    (hses : s.mcc.session = none ∨ ∃ y, s.mcc.session = some y ∧ y.id ≠ req.session) : serve op req s f =
      .next (reject (taken s op req) op req (if s.mcc.endedIds.contains req.session then stGone else stNoSession)) := by
  obtain ⟨hin, hcore, hnet⟩ := h
  rw [serve_of_arrived hin]
  exact congrArg _ (admitReq_of_other_session hcore hnet hop hses)

theorem serve_of_session (hop : 2 < op) (h : arrived s op req) (hx : s.mcc.session = some x) (hid : x.id = req.session) :
    serve op req s f = .next (inSession (taken s op req) x op req f) := by
  obtain ⟨hin, hcore, hnet⟩ := h
  rw [serve_of_arrived hin]
  exact congrArg _ (admitReq_of_session hcore hnet hop hx hid)

end

/-! ## What an answered request leaves -/

/-- What an answered request leaves besides its own effect (R427, R429): its response on the host port, and for one that was executed
the count and the session's kept responses. -/
theorem runKept_leaves {s : State} {x : Session} {op st : Nat} {req : MccReq} {b : List Byte} (hx : s.mcc.session = some x)
    (hid : x.id = req.session) :
    let t := runKept s op req (fun v => (v, st, b))
    t.net.out = s.net.out ++ (response op req.session req.seq st b).map (fun f => .mcc f) ∧ t.store = s.store ∧ t.mer = s.mer ∧
      (st ∉ [stBadOpcode, stBadLength, stBadParam] → getF t F.MCC_CMDS_COUNT 0 = min (getF s F.MCC_CMDS_COUNT 0 + 1) (2 ^ 32 - 1) ∧
        t.mcc = { s.mcc with session := some (keptSession x op req st b) }) ∧
      (st ∈ [stBadOpcode, stBadLength, stBadParam] → t.mcc = s.mcc ∧ t.sys = s.sys) := by
  intro t
  rw [← notExecuted_iff]
  cases h : notExecuted st with
  | true =>
    have ht : t = _ := runKept_of_not_executed h
    rw [ht, sendFrames_eq]
    exact ⟨rfl, rfl, rfl, fun hexec => absurd rfl hexec, fun _ => ⟨rfl, rfl⟩⟩
  | false =>
    have ht : t = _ := runKept_of_executed h hx hid
    rw [ht, sendFrames_eq]
    exact ⟨rfl, rfl, rfl, fun _ => ⟨getF_incF_same s F.MCC_CMDS_COUNT 0 1, rfl⟩, fun hnot => absurd hnot Bool.false_ne_true⟩

/-- Settles O52: from how a request is served, what becomes of a request of the session, and what is kept of one that is answered. -/
theorem controlChannel : Obligations.ControlChannel := by
  unfold Obligations.ControlChannel
  intro req x s
  refine ⟨fun p hp => ?_, fun p hp hadm hlen => ?_, fun op st b hx hid => runKept_leaves hx hid, fun st hst hparked hbench => ?_⟩
  · obtain ⟨f, hf⟩ := exec_eq_serve hp req s
    simp only [answers, hf]
    refine ⟨serve_of_not_arrived, serve_of_core_down, serve_of_netboot, serve_of_other_session,
      fun k hop harr hx hid hk => ?_, fun n hop harr hx hid hk htop hseq => ?_, fun st hop harr hx hid hk hseq hst => ?_⟩
    · rw [serve_of_session hop harr hx hid, inSession_of_kept hk]
    · rw [serve_of_session hop harr hx hid, inSession_of_stale hk htop hseq]
    · have haway : turnedAway (taken s p.2 req) x p.2 req = some st := hst
      rw [serve_of_session hop harr hx hid, inSession_of_new hk hseq, haway]
      rfl
  · obtain ⟨f, hf⟩ := exec_eq_serve_sized hp req s
    obtain ⟨harr, hx, hid, hk, hseq, hst⟩ := hadm
    have haway : turnedAway (taken s p.2.1 req) x p.2.1 req = none := hst
    have hop : 2 < p.2.1 := two_lt_of_sizedRow hp
    rw [answers, hf, sized_of_bad_length hlen, serve_of_session hop harr hx hid, inSession_of_new hk hseq, haway]
    rfl
  · exact Option.some.inj (hst.symm.trans (turnedAway_of_not_bench rfl hparked hbench))

end Sys2Proof.Claims
end
